-- ==== Sys2Proof/Word.lean ====
section
/-! DEFINITION. The words of the part: the bytes of its wire formats (10.8) and the numbers of its twelve slots. -/

namespace Sys2Proof

/-- A byte on one of the part's wires. -/
abbrev Byte := BitVec 8

/-- A two-byte field of a wire format, most significant byte first. -/
abbrev HWord := BitVec 16

/-- A four-byte field of a wire format, most significant byte first. -/
abbrev DWord := BitVec 32

/-- A slot number, 0 to 11 (00_scope, Conventions, Slots). -/
abbrev Slot := Fin 12

/-- A directory index, 0 to 47 (R112). -/
abbrev EntryIndex := Fin 48

/-- An inrush class, 0 to 7 (R7). -/
abbrev InrushClass := Fin 8

/-- The twelve slots in ascending order. -/
def allSlots : List Slot := [0, 1, 2, 3, 4, 5, 6, 7, 8, 9, 10, 11]

/-- The indexes below `n`, ascending: the order in which the directory visits its entries. -/
def indexesUpTo : (n : Nat) → n ≤ 48 → List EntryIndex
  | 0, _ => []
  | n + 1, h => indexesUpTo n (Nat.le_of_succ_le h) ++ [⟨n, h⟩]

/-- The forty-eight directory indexes in ascending order. -/
def allIndexes : List EntryIndex := indexesUpTo 48 (Nat.le_refl 48)

end Sys2Proof
end

