-- ==== Sys2Proof/Config.lean ====
section
/-! DEFINITION. What the part fixes and no request can change: the times of its fixed timers, in microseconds, the sizes of
its queues, and the sample counts of the LED phases. The spec leaves no result of a command undefined, so there is no
free value here. -/

namespace Sys2Proof.Config

/-- Microseconds in a millisecond. -/
def usPerMs : Nat := 1000

/-- Microseconds in a second. -/
def usPerSecond : Nat := 1000000

/-- Microseconds in a minute. -/
def usPerMinute : Nat := 60000000

/-- One step of SETTLE_TIME is 10 ms (R20). -/
def settleStepUs : Nat := 10000

/-- One step of the reference watch is 2 µs (R104). -/
def watchStepUs : Nat := 2

/-- The return timer runs 500 steps of 2 µs (R106). -/
def returnUs : Nat := 1000

/-- The hold timer of a lane transaction or message, 25 ms (R80, R90). -/
def holdUs : Nat := 25000

/-- The acknowledge timer of a lane transaction, 1 ms (R80). -/
def acknowledgeUs : Nat := 1000

/-- The retry gap after NO_ANSWER, 5 ms (R82). -/
def retryGapUs : Nat := 5000

/-- The lane recovery, 1 ms (R83). -/
def recoveryUs : Nat := 1000

/-- The dark pulse, 100 ms (R14). -/
def darkPulseUs : Nat := 100000

/-- The longest LOCATE display in seconds (R15). -/
def locateMaxSeconds : Nat := 60

/-- Notice records the queue can hold (R187). -/
def noticeCapacity : Nat := 24

/-- NO_ANSWER and TIMEOUT outcomes that end a read (R82, R83). -/
def maxTries : Nat := 3

/-- LOST outcomes that end a read (R84). -/
def maxLost : Nat := 8

/-- Segments of each image (R134). -/
def imageSegments : Nat := 128

/-- Bytes of a segment (R135). -/
def segmentBytes : Nat := 16

/-- The edge count stops here (R95). -/
def edgeCountMax : Nat := 1023

/-- The fine run and the miss count stop here (R99, R157). -/
def runMax : Nat := 15

/-- The converter's ceiling in mV (R53). -/
def railMaxMv : Nat := 32000

/-- The hysteresis of SAG in mV (R55). -/
def sagHysteresisMv : Nat := 200

/-- One rail unit in mA (00_scope, Conventions, Current). -/
def railUnitMa : Nat := 25

/-- Samples of a threshold toward less made (R3). -/
def breakFilter : Nat := 2

end Sys2Proof.Config
end

