-- ==== Sys2Proof/Syntax.lean ====
section
/-! DEFINITION. The commands of the part: one constructor for each row of spec/opcode_table.json. The part has no
instructions. A command is a host request as the link unit takes it (its tag and its body fields, as raw bytes, so that
every check of its rule is the model's to make) or an event of one of the part's blocks. -/

namespace Sys2Proof

/-- A presence contact at a sample (R2): made when the card pulls the line low. -/
inductive ContactLine where
  | broken
  | made
deriving DecidableEq, Repr

/-- The level of an ALERT line at a sample (R8). The line is active when LOW. -/
inductive Level where
  | high
  | low
deriving DecidableEq, Repr

/-- Which of a slot's two running LED phase counts has reached its end (R13, R15). -/
inductive LedLayer where
  | pattern
  | locate
deriving DecidableEq, Repr

/-- The 15 bytes of a directory entry body as a request carries them (10.8). -/
structure EntryBytes where
  typeCode : Byte
  vendor : HWord
  kind : HWord
  revision : Byte
  placeSlot : Byte
  action : Byte
  origin : Byte
  age : Byte
  pinSlot : Byte
  service : Byte
  reserve : HWord
  users : Byte
deriving DecidableEq, Repr

/-- The commands. A request's first operand is the tag its reply echoes (R183). -/
inductive Instr where
  /-- Hard reset, at the event at which it ends (R194). -/
  | hardReset
  /-- CS_N is asserted (R180). -/
  | transferWindowStart
  /-- CS_N is deasserted; `sdi` holds the bytes shifted in during the window (R181). -/
  | transferWindowEnd (sdi : List Byte)
  /-- The reply to a taken request is built; `seen` holds the bytes that the open window, if any, has shifted in so far. -/
  | replyBuilt (seen : List Byte)
  | status (tag : Byte)
  | slotInfo (tag slot : Byte)
  | fetchNotices (tag maximum : Byte)
  /-- `second` is the provisional figure of a class row's body, and absent in every other body (R184). -/
  | setParameter (tag id : Byte) (value : HWord) (second : Option HWord)
  | getParameter (tag id : Byte)
  | restart (tag : Byte)
  | setSlotPolicy (tag slot policy priority inputPolicy triggerMode alertNotices : Byte)
  | release (tag slot : Byte)
  | refuse (tag slot : Byte)
  | retry (tag slot : Byte)
  | withdraw (tag slot : Byte)
  | locate (tag slot seconds : Byte)
  | ackAlert (tag slot : Byte)
  /-- `slot` 0xFF names the rack (R173). -/
  | clearFault (tag slot : Byte)
  | directoryAdd (tag : Byte) (body : EntryBytes)
  | directoryDelete (tag index : Byte)
  | directoryRead (tag index : Byte)
  | directoryFind (tag : Byte) (body : EntryBytes)
  | directoryKeep (tag index : Byte)
  | ageSweep (tag : Byte)
  | scanStart (tag : Byte)
  | scanStop (tag : Byte)
  | imageRead (tag slot image : Byte) (offset : HWord) (length : Byte)
  | imageWrite (tag slot : Byte) (offset : HWord) (data : List Byte)
  | imageMap (tag : Byte)
  | setMode (tag mode : Byte)
  | freeze (tag : Byte)
  | thaw (tag : Byte)
  /-- Bit s of `mask` names slot s (10.8). -/
  | safeOff (tag : Byte) (mask : HWord)
  /-- One coherent reading of a slot's five lines; `key` holds KEY[2:0], a pin at high level reading 1 (R1, R7). -/
  | slotSample (slot : Slot) (presL presS : ContactLine) (key : BitVec 3) (alert : Level)
  | darkPulseExpiry (slot : Slot)
  | locateExpiry (slot : Slot)
  | ledPhaseEnd (slot : Slot) (layer : LedLayer)
  | settleTimerExpiry (slot : Slot)
  /-- `reading` is the converter's reading in mV (R53). -/
  | railSample (reading : Nat)
  | pwrGoodAssert (slot : Slot)
  | rampTimerExpiry (slot : Slot)
  | pwrGoodDeassert (slot : Slot)
  | pwrTrip (slot : Slot)
  | dischargeTimerExpiry (slot : Slot)
  | cardAcknowledge
  | acknowledgeTimerExpiry
  /-- The 32 bytes clocked in from the selected card (R85). -/
  | identityTransferComplete (record : Vector Byte 32)
  | holdTimerExpiryTransaction
  | holdTimerExpiryMessage
  | recoveryTimerExpiry
  | retryGapExpiry
  | cardMessageBegin
  /-- The fields of the message received; a length of 0 or above 8 ends it after the length field (R90). -/
  | cardMessageEnd (sender length : Byte) (data : List Byte) (check : HWord)
  | lockCheckpoint16 (slot : Slot)
  | lockCheckpoint32 (slot : Slot)
  | lockCheckpoint64 (slot : Slot)
  | qualificationTimerExpiry (slot : Slot)
  | graceTimerExpiry (slot : Slot)
  | watchTimerExpiry
  | referenceReturnEdge
  | returnTimerExpiry
  | periodTimerExpiry
  /-- The bytes of the card's reply: slot number, inputs, check value, and anything driven after them (R155). -/
  | replyEnd (reply : List Byte)
  | responseWindowExpiry
  | replySilenceTimeout
  | ageIntervalExpiry
  | referenceEdge
  | clkRetEdge (slot : Slot)
  | exchangeFrameSent
  | replyBegin
deriving DecidableEq, Repr

end Sys2Proof
end

