-- ==== Sys2Proof/Machine/State.lean ====
section
/-! DEFINITION. The state of the part as plain data: every field that the tables of Sections 1 to 10 give a block, the
parameters, the output lines' sources, and the queue of commands that wait. Timers hold the microseconds they have left.
Sums that the spec defines as sums (Ci, Cs, L, the free totals), the budget B, the slot marks and the output lines are
computed from these fields in Machine/Ops.lean. -/

namespace Sys2Proof.Machine

open Sys2Proof

/-! ## Value lists -/

/-- The thirteen slot states, in the order of the table of 2.3. -/
inductive SlotState where
  | disabled | vacant | settling | rampWait | ramping | identifying | parked
  | qualifying | spliceWait | online | withdrawing | refused | quarantined
deriving DecidableEq, Repr

/-- A slot's admission policy (R19). -/
inductive Policy where
  | off | hold | admitCard | learn
deriving DecidableEq, Repr

/-- What a failed exchange does to a slot's inputs (R157). -/
inductive InputPolicy where
  | hold | zero
deriving DecidableEq, Repr

/-- The alert trigger modes (R8). -/
inductive TriggerMode where
  | level | change | fall | rise
deriving DecidableEq, Repr

/-- The contact states OPEN, PARTIAL and SEATED (R2). -/
inductive ContactState where
  /-- OPEN -/
  | opened
  /-- PARTIAL -/
  | partway
  /-- SEATED -/
  | seated
deriving DecidableEq, Repr

/-- The verdicts, in the order of the slot context table of 2.1. -/
inductive Verdict where
  | admitCard | admitLearned | admitUnlearned | park | deny | unknown
  | wrongSlot | noPower | noRoom | noScanTime | badRecord | hostRefused
deriving DecidableEq, Repr

/-- The input quality of a slot (R139). -/
inductive InputQuality where
  | none | fresh | held | zeroed
deriving DecidableEq, Repr

/-- How a withdrawing slot stands with the roster (R167). -/
inductive Leaving where
  | none | releasePending | leavePending
deriving DecidableEq, Repr

/-- The destinations a cause can request (R49); VACANT and DISABLED are never requested. -/
inductive Destination where
  | settling | refused | quarantined
deriving DecidableEq, Repr

/-- The withdraw reasons (2.1). -/
inductive Reason where
  | host | policyOff | earlyRemoval | removed | fault | refused | safeOff
deriving DecidableEq, Repr

/-- The fault causes, in the order of their codes (10.8). -/
inductive Cause where
  | powerGoodTimeout | idNoAnswer | idTimeout | laneBusy | idCheck | qualNoClock
  | qualTimeout | lockLost | exchangeLost | overcurrent | powerLost
deriving DecidableEq, Repr

/-- The LED patterns (R13). -/
inductive LedPattern where
  | off | slow | double | steady | fast
deriving DecidableEq, Repr

/-- The arbiter modes (R62). -/
inductive ArbiterMode where
  | fixed | round
deriving DecidableEq, Repr

/-- The lane states (R78). -/
inductive LaneState where
  | idle | partBusy | cardBusy | recovering
deriving DecidableEq, Repr

/-- What the part does on a line of the management lane: it leaves the line to the cards, or drives it (R83, R93). -/
inductive LineDrive where
  | released | driven
deriving DecidableEq, Repr

/-- The phases of a lane transaction (R80). -/
inductive LanePhase where
  | start | transfer
deriving DecidableEq, Repr

/-- The run states of a lock detector (5.1). -/
inductive RunState where
  | stopped | running | paused
deriving DecidableEq, Repr

/-- The duties of a lock detector (5.1). -/
inductive Duty where
  | qualify | watch
deriving DecidableEq, Repr

/-- The three checkpoints of a span (R95). -/
inductive Checkpoint where
  | after16 | after32 | after64
deriving DecidableEq, Repr

/-- A qualification timer (R101): paused while REF_LOST holds, keeping its time. -/
inductive QualTimer where
  | idle
  | running (us : Nat)
  | paused (us : Nat)
deriving DecidableEq, Repr

/-- The scan states (R148). -/
inductive ScanState where
  | stopped | running | stopping
deriving DecidableEq, Repr

/-- The period timer (8.1). -/
inductive PeriodTimer where
  | idle
  | running (us : Nat)
  | expired
deriving DecidableEq, Repr

/-- The kinds of pending splice (R151). -/
inductive SpliceKind where
  | join | leave
deriving DecidableEq, Repr

/-- The data lane markers (R159). -/
inductive Marker where
  | normal | release
deriving DecidableEq, Repr

/-- Where the exchange in progress stands (R155). -/
inductive ExchangePhase where
  /-- The part's frame is on the lane. -/
  | sending
  /-- The response window is open and no reply has begun. -/
  | window
  /-- The card's reply has begun. -/
  | replying
deriving DecidableEq, Repr

/-- The link states (10.1). -/
inductive LinkState where
  | idle | handling | replyReady
deriving DecidableEq, Repr

/-- The rack modes (R191). -/
inductive RackMode where
  | commission | run
deriving DecidableEq, Repr

/-- The actions of a directory entry (6.1). -/
inductive Action where
  | admitCard | park | deny
deriving DecidableEq, Repr

/-- The ages of a LEARNED entry (6.1). -/
inductive Age where
  | fresh | seen
deriving DecidableEq, Repr

/-- The origin of an entry; only a LEARNED entry carries an age (6.1). -/
inductive Origin where
  | static
  | learned (age : Age)
deriving DecidableEq, Repr

/-- The two images (R134). -/
inductive ImageId where
  | input | output
deriving DecidableEq, Repr

/-- The reply statuses of R183. -/
inductive Status where
  | ok | okClamped | already | frameError | unknownRequest | badLength | badValue | badSlot
  | wrongState | inUse | duplicate | full | notFound | locked | notAllowed | tooShort | outOfWindow | safeOff
deriving DecidableEq, Repr

/-- The notice kinds of 10.8. -/
inductive NoticeKind where
  | started | inserted | removed | parked | online | refused | fault | withdrawn | cardAlert | cardMessage
  | lockWarn | learned | agedOut | railSag | refLost | refBack | scanOverrun
deriving DecidableEq, Repr

/-! ## Records of one slot -/

/-- A LOCATE display (R15): the microseconds left, the phase it shows, and the samples counted in that phase. -/
structure Locate where
  us : Nat
  phase : Nat
  samples : Nat
deriving DecidableEq, Repr

/-- The slot monitor's record of a slot (1.1). -/
structure Monitor where
  contact : ContactState
  candidate : Option ContactState
  run : Nat
  seatedClass : Option InrushClass
  lastAlert : Level
  triggerMode : TriggerMode
  alertNotices : Bool
  sticky : Bool
  darkPulse : Option Nat
  locate : Option Locate
  pattern : LedPattern
  /-- The phase of the pattern that is showing beneath the overlays, counted from 0 (R13). -/
  ledPhase : Nat
  /-- Samples counted in that phase (R1). -/
  ledSamples : Nat
deriving DecidableEq, Repr

/-- The identity of a card: every field of its record except the check value (R86). -/
structure Identity where
  vendor : HWord
  kind : HWord
  revision : Byte
  formatVersion : Byte
  serial : DWord
  steadyCurrent : HWord
  inputBytes : HWord
  outputBytes : HWord
  /-- High nibble M - 1, low nibble D - 1. -/
  clockRatio : Byte
  /-- Bit 0 is RELEASE_CAPABLE. -/
  flags : Byte
  vendorText : Vector Byte 12
deriving DecidableEq, Repr

/-- A window: a run of segments of one image (R134). -/
structure Window where
  start : Nat
  count : Nat
deriving DecidableEq, Repr

/-- A slot's fault record (R171). -/
structure FaultRecord where
  cause : Option Cause
  hard : Bool
  more : Bool
deriving DecidableEq, Repr

/-- The slot context (2.1), with the settle timer the sequencer keeps for the slot (R23). -/
structure Context where
  state : SlotState
  policy : Policy
  priority : Nat
  inputPolicy : InputPolicy
  contact : ContactState
  inrushClass : Option InrushClass
  identity : Option Identity
  verdict : Option Verdict
  /-- The context's match field: a directory index. -/
  matched : Option EntryIndex
  inrushCommitted : Nat
  steadyCommitted : Nat
  inWindow : Option Window
  outWindow : Option Window
  inputQuality : Option InputQuality
  missCount : Option Nat
  leaving : Option Leaving
  destination : Option Destination
  reason : Option Reason
  attempts : Nat
  faultRecord : FaultRecord
  settleTimer : Option Nat
deriving DecidableEq, Repr

/-- The rail budget unit's record of a slot (3.1), with the slot's membership of the ramp queue. -/
structure RailSlot where
  /-- The switch (PWR_EN): true while CLOSED. -/
  closed : Bool
  rampTimer : Option Nat
  powerSeen : Bool
  lossReported : Bool
  dischargeTimer : Option Nat
  /-- The slot is in the ramp queue (R59). -/
  queued : Bool
deriving DecidableEq, Repr

/-- Expected counts of the three checkpoints (R96). -/
structure Expected where
  e16 : Nat
  e32 : Nat
  e64 : Nat
deriving DecidableEq, Repr

/-- A checkpoint whose reference edge has come, with the edge count taken at that edge (R95). -/
structure DueCheckpoint where
  point : Checkpoint
  count : Nat
deriving DecidableEq, Repr

/-- A slot's lock detector (5.1). -/
structure Detector where
  run : RunState
  duty : Option Duty
  /-- M and D. -/
  ratio : Option (Nat × Nat)
  expected : Option Expected
  spanPosition : Nat
  edgeCount : Nat
  coarse : Bool
  fine : Bool
  fineRun : Nat
  qualTimer : QualTimer
  graceTimer : Option Nat
  /-- The next edge of REF_IN begins a fresh span (R94, R106). -/
  awaitingEdge : Bool
  /-- The model's own field: the checkpoint whose edge has come and which has not been judged yet. -/
  due : Option DueCheckpoint
deriving DecidableEq, Repr

/-- The scan engine's record of a slot (8.1). A slot is in the roster exactly while it has a skip mark. -/
structure ScanSlot where
  splice : Option SpliceKind
  cost : Option Nat
  skip : Option Bool
  marker : Option Marker
  snapshot : Option (List Byte)
deriving DecidableEq, Repr

/-- Everything the part keeps for one slot. -/
structure SlotRecord where
  monitor : Monitor
  ctx : Context
  rail : RailSlot
  detector : Detector
  scan : ScanSlot
deriving DecidableEq, Repr

/-! ## Records of the rack -/

/-- A row of the class table (R57). -/
structure ClassRow where
  inrush : Nat
  provisional : Nat
deriving DecidableEq, Repr

/-- The parameters of every block (R184), each with the rule that owns it. -/
structure Params where
  /-- R4, samples -/
  makeFilter : Nat
  /-- R20, steps of 10 ms -/
  settleTime : Nat
  /-- R21 -/
  maxAttempts : Nat
  /-- R73, rail units -/
  inrushBudget : Nat
  /-- R73, rail units -/
  steadyBudget : Nat
  /-- R74 -/
  rampLimit : Nat
  /-- R74 -/
  arbiterMode : ArbiterMode
  /-- R75, ms -/
  rampTimeout : Nat
  /-- R75, ms -/
  dischargeTime : Nat
  /-- R76, mV -/
  railFullMv : Nat
  /-- R76, mV -/
  railFloorMv : Nat
  /-- R57 -/
  classTable : Vector ClassRow 8
  /-- R103, ms -/
  qualTimeout : Nat
  /-- R103 -/
  qualRun : Nat
  /-- R103 -/
  lockTolerance : Nat
  /-- R104, steps of 2 µs -/
  refTimeout : Nat
  /-- R132, minutes -/
  ageInterval : Nat
  /-- R142, segments -/
  imageReserveIn : Nat
  /-- R142, segments -/
  imageReserveOut : Nat
  /-- R162, µs -/
  cyclePeriod : Nat
  /-- R162, percent -/
  fillPercent : Nat
  /-- R163 -/
  missLimit : Nat
deriving DecidableEq, Repr

/-- The rack-wide state of the rail budget unit (3.1). -/
structure Rail where
  value : Nat
  effective : Nat
  sag : Bool
  brownout : Bool
  lastGranted : Slot
deriving DecidableEq, Repr

/-- A lane transaction (4.1). -/
structure Transaction where
  slot : Slot
  phase : LanePhase
  orphaned : Bool
deriving DecidableEq, Repr

/-- The lane controller (4.1). -/
structure Lane where
  state : LaneState
  queue : List Slot
  transaction : Option Transaction
  tries : Nat
  lost : Nat
  checkUsed : Bool
  retryGap : Option Nat
  holdTimer : Option Nat
  acknowledgeTimer : Option Nat
  recoveryTimer : Option Nat
  /-- The bytes of the message being received. -/
  message : Option (List Byte)
  /-- The head's read has had its first transaction, so its counters are set (R80). -/
  readBegun : Bool
deriving DecidableEq, Repr

/-- The rack-wide state of the clock qualifier (5.1). The watch timer is absent once it has expired, until the next
reference edge. -/
structure Clock where
  refLost : Bool
  frozen : Bool
  watchTimer : Option Nat
  returnTimer : Option Nat
deriving DecidableEq, Repr

/-- A directory entry's type and key fields (R112). -/
inductive EntryKey where
  | exact (vendor kind : HWord) (revision : Byte)
  | kind (vendor kind : HWord)
  | vendor (vendor : HWord)
  | placed (vendor kind : HWord) (slot : Slot)
deriving DecidableEq, Repr

/-- The content of an entry that is not FREE (6.1). -/
structure EntryBody where
  key : EntryKey
  action : Action
  origin : Origin
  pinSlot : Option Slot
  service : Bool
  reserve : Option Nat
deriving DecidableEq, Repr

/-- A directory entry: FREE while it has no body. -/
structure Entry where
  body : Option EntryBody
  users : Nat
deriving DecidableEq, Repr

/-- The admission directory, with its age interval timer (R132). -/
structure Directory where
  entries : Vector Entry 48
  ageTimer : Option Nat
deriving DecidableEq, Repr

/-- The bytes of an image as address and byte pairs: addresses strictly rising, and no byte 0 listed, since hard reset sets
every byte to 0 (R147) and an unlisted address reads 0. -/
abbrev Memory := List Host.Cell

/-- A run of free segments (R134). -/
structure Extent where
  start : Nat
  length : Nat
deriving DecidableEq, Repr

/-- An image: its bytes and its free extent list (R134). -/
structure Image where
  mem : Memory
  free : List Extent
deriving DecidableEq, Repr

/-- The exchange on the data lane: its slot, where it stands, whether RESTART or SAFE OFF has discarded it (R164), and what
was fixed as it began: the part's frame, and the input bytes that end the card's reply by count (R155). -/
structure Exchange where
  slot : Slot
  phase : ExchangePhase
  discarded : Bool
  frame : List Byte
  inputs : Nat
deriving DecidableEq, Repr

/-- The rack-wide state of the scan engine (8.1). -/
structure Scan where
  state : ScanState
  cycle : DWord
  period : PeriodTimer
  exchange : Option Exchange
  /-- The slots of the cycle whose exchange has not begun, ascending. -/
  remaining : List Slot
deriving DecidableEq, Repr

/-- The answer to a request that has been taken and whose reply is not built yet. `overflow` is the OVERFLOW bit where the
request's rule fixes it (R186, R188). -/
structure Answer where
  code : Byte
  tag : Byte
  status : Status
  body : List Byte
  overflow : Option Bool
deriving DecidableEq, Repr

/-- A reply that has been built (10.8). -/
structure Reply where
  code : Byte
  tag : Byte
  status : Status
  dropped : Bool
  overflow : Bool
  body : List Byte
deriving DecidableEq, Repr

/-- The transfer window (R180). -/
inductive WindowState where
  /-- CS_N is deasserted. -/
  | closed
  /-- A window that was open when hard reset ended, ignored to its end (R190). -/
  | ignored
  /-- An open window with the link state at its start, and whether its frame has ended already: it has set DROPPED in a
  window that started HANDLING (R182), and its request has been taken in any other (R181). -/
  | opened (start : LinkState) (frameSeen : Bool)
deriving DecidableEq, Repr

/-- The link unit (10.1). -/
structure Link where
  state : LinkState
  answer : Option Answer
  reply : Option Reply
  dropped : Bool
  window : WindowState
  /-- The model's own field: the bytes SDO carried in the window that ended last. -/
  sdo : List Byte
deriving DecidableEq, Repr

/-- A notice record (R187); no slot means the rack, 0xFF. -/
structure Notice where
  kind : NoticeKind
  slot : Option Slot
  code : Byte
  data : List Byte
deriving DecidableEq, Repr

/-- The notice queue, oldest first, and OVERFLOW (R187). -/
structure Notices where
  queue : List Notice
  overflow : Bool
deriving DecidableEq, Repr

/-- The three rack marks (R174). The slot marks are the fault records that are not empty (R172). -/
structure RackMarks where
  refLost : Bool
  brownout : Bool
  safeOff : Bool
deriving DecidableEq, Repr

/-- The state of the part. -/
structure State where
  slots : Vector SlotRecord 12
  params : Params
  rail : Rail
  lane : Lane
  clock : Clock
  directory : Directory
  imageIn : Image
  imageOut : Image
  scan : Scan
  link : Link
  notices : Notices
  marks : RackMarks
  /-- The rack is in SAFE_OFF (R177). -/
  safeOff : Bool
  mode : RackMode
  /-- The commands that wait, first in, first out: the model's own field. -/
  pending : List Instr
deriving DecidableEq, Repr

/-- Reasons a command could stop with. The spec gives every command an effect in every state, so there is no constructor:
no meaning of this model ends in a fault. -/
inductive Fault where
deriving DecidableEq, Repr

/-- Reasons a command is refused by the model. -/
inductive Refusal where
  /-- Raised by `exec` alone, for a command that has no meaning yet; safe, since the machine stops there. -/
  | notModelled (mnemonic : String)
deriving DecidableEq, Repr

/-! ## Values after hard reset -/

/-- R5, R8, R10, R13. -/
def Monitor.reset : Monitor where
  contact := .opened
  candidate := none
  run := 0
  seatedClass := none
  lastAlert := .high
  triggerMode := .level
  alertNotices := false
  sticky := false
  darkPulse := none
  locate := none
  pattern := .off
  ledPhase := 0
  ledSamples := 0

/-- The empty fault record: its cause is absent (R171). DESIGN CHOICE: its hard flag is NO and its more flag CLEAR, which the
spec does not give for an empty record (log entry 36). -/
def FaultRecord.empty : FaultRecord := ⟨none, false, false⟩

/-- R51. -/
def Context.reset : Context where
  state := .disabled
  policy := .off
  priority := 0
  inputPolicy := .hold
  contact := .opened
  inrushClass := none
  identity := none
  verdict := none
  matched := none
  inrushCommitted := 0
  steadyCommitted := 0
  inWindow := none
  outWindow := none
  inputQuality := none
  missCount := none
  leaving := none
  destination := none
  reason := none
  attempts := 0
  faultRecord := FaultRecord.empty
  settleTimer := none

/-- R77. -/
def RailSlot.reset : RailSlot := ⟨false, none, false, false, none, false⟩

/-- R111. DESIGN CHOICE: the spec gives no value for the span position and the edge count of a detector that has never
started; both are 0 (log entry 1). Unsafe, though nothing reads them before a start sets them. -/
def Detector.reset : Detector where
  run := .stopped
  duty := none
  ratio := none
  expected := none
  spanPosition := 0
  edgeCount := 0
  coarse := false
  fine := false
  fineRun := 0
  qualTimer := .idle
  graceTimer := none
  awaitingEdge := false
  due := none

/-- R164. -/
def ScanSlot.reset : ScanSlot := ⟨none, none, none, none, none⟩

/-- A slot after hard reset. -/
def SlotRecord.reset : SlotRecord :=
  ⟨Monitor.reset, Context.reset, RailSlot.reset, Detector.reset, ScanSlot.reset⟩

/-- The class table after hard reset (R57). -/
def classTableDefault : Vector ClassRow 8 :=
  #v[⟨0, 0⟩, ⟨8, 2⟩, ⟨16, 4⟩, ⟨24, 8⟩, ⟨32, 12⟩, ⟨48, 16⟩, ⟨64, 24⟩, ⟨96, 32⟩]

/-- Every parameter at its default (R184). -/
def Params.reset : Params where
  makeFilter := 8
  settleTime := 30
  maxAttempts := 2
  inrushBudget := 120
  steadyBudget := 200
  rampLimit := 2
  arbiterMode := .fixed
  rampTimeout := 100
  dischargeTime := 100
  railFullMv := 22800
  railFloorMv := 19200
  classTable := classTableDefault
  qualTimeout := 20
  qualRun := 4
  lockTolerance := 1
  refTimeout := 5
  ageInterval := 0
  imageReserveIn := 0
  imageReserveOut := 0
  cyclePeriod := 2000
  fillPercent := 85
  missLimit := 3

/-- R77. -/
def Rail.reset : Rail := ⟨0, 0, false, false, 11⟩

/-- R93. -/
def Lane.reset : Lane where
  state := .idle
  queue := []
  transaction := none
  tries := 0
  lost := 0
  checkUsed := false
  retryGap := none
  holdTimer := none
  acknowledgeTimer := none
  recoveryTimer := none
  message := none
  readBegun := false

/-- R111: the watch timer starts when hard reset ends, with its default of 10 µs. -/
def Clock.reset : Clock := ⟨false, false, some 10, none⟩

/-- A FREE entry (R114). -/
def Entry.free : Entry := ⟨none, 0⟩

/-- R114, R132. -/
def Directory.reset : Directory := ⟨Vector.replicate 48 Entry.free, none⟩

/-- R147. -/
def Image.reset : Image := ⟨[], [⟨0, 128⟩]⟩

/-- R164. -/
def Scan.reset : Scan := ⟨.stopped, 0, .idle, none, []⟩

/-- R190. -/
def Link.reset : Link := ⟨.idle, none, none, false, .closed, []⟩

/-- R190: the queue holds only STARTED for the rack with code HARD. -/
def Notices.reset : Notices := ⟨[⟨.started, none, 0, []⟩], false⟩

/-- R179. -/
def RackMarks.reset : RackMarks := ⟨false, false, false⟩

/-- The part right after hard reset (R194), with no command waiting. -/
def State.reset : State where
  slots := Vector.replicate 12 SlotRecord.reset
  params := Params.reset
  rail := Rail.reset
  lane := Lane.reset
  clock := Clock.reset
  directory := Directory.reset
  imageIn := Image.reset
  imageOut := Image.reset
  scan := Scan.reset
  link := Link.reset
  notices := Notices.reset
  marks := RackMarks.reset
  safeOff := false
  mode := .commission
  pending := []

end Sys2Proof.Machine
end

