-- ==== Sys2Proof/Machine/Memory.lean ====
section
/-! DEFINITION. The bytes of an image (R135): reading, writing and zeroing, in the one canonical form that
Machine/State.lean describes. Every operation is total: the block that uses it has already checked the window. -/

namespace Sys2Proof.Machine

open Sys2Proof

/-- The canonical form: addresses strictly rising, and no listed byte is 0. -/
abbrev Memory.wf (m : Memory) : Prop :=
  m.Pairwise (fun c d => c.1 < d.1) ∧ ∀ c ∈ m, c.2 ≠ 0

/-- The byte at an address: 0 where none is listed (R147). -/
def Memory.read : Memory → Nat → Byte
  | [], _ => 0
  | c :: m, a => if a = c.1 then c.2 else Memory.read m a

/-- Writes one byte, keeping the canonical form. -/
def Memory.write : Memory → Nat → Byte → Memory
  | [], a, b => if b = 0 then [] else [(a, b)]
  | c :: m, a, b =>
    if a < c.1 then (if b = 0 then c :: m else (a, b) :: c :: m)
    else if a = c.1 then (if b = 0 then m else (a, b) :: m)
    else c :: Memory.write m a b

/-- Writes bytes at rising addresses from `a`. -/
def Memory.writeBytes : Memory → Nat → List Byte → Memory
  | m, _, [] => m
  | m, a, b :: bs => Memory.writeBytes (Memory.write m a b) (a + 1) bs

/-- Sets the `n` bytes from `a` to 0. -/
def Memory.zero (m : Memory) (a n : Nat) : Memory :=
  m.filter fun c => decide (c.1 < a ∨ a + n ≤ c.1)

/-- The `n` bytes from `a`. -/
def Memory.readBytes : Memory → Nat → Nat → List Byte
  | _, _, 0 => []
  | m, a, n + 1 => Memory.read m a :: Memory.readBytes m (a + 1) n

end Sys2Proof.Machine
end

