-- ==== Sys2Proof/Machine/Bytes.lean ====
section
/-! DEFINITION. Byte order and the check value: multi-byte fields go most significant byte first (10.8), and the CRC-16 is
that of R189. -/

namespace Sys2Proof.Machine

open Sys2Proof

/-- A number as one byte. -/
def byteOf (n : Nat) : Byte := BitVec.ofNat 8 n

/-- A number as two bytes, the most significant first (10.8). -/
def be16 (n : Nat) : List Byte := [byteOf (n / 256), byteOf n]

/-- A number as four bytes, the most significant first (10.8). -/
def be32 (n : Nat) : List Byte := be16 (n / 65536) ++ be16 n

/-- Two bytes as a field, the first the most significant. -/
def join16 (hi lo : Byte) : HWord := hi ++ lo

/-- Four bytes as a field, the first the most significant. -/
def join32 (a b c d : Byte) : DWord := join16 a b ++ join16 c d

/-- One bit of the CRC-16 register of R189: polynomial x^16 + x^12 + x^5 + 1. -/
def crcBit (crc : HWord) : HWord :=
  if crc.msb then (crc <<< 1) ^^^ 0x1021 else crc <<< 1

/-- `n` bits of the register. -/
def crcBits : Nat → HWord → HWord
  | 0, crc => crc
  | n + 1, crc => crcBits n (crcBit crc)

/-- One byte, most significant bit first (R189). -/
def crcByte (crc : HWord) (b : Byte) : HWord :=
  crcBits 8 (crc ^^^ (b ++ (0 : Byte)))

/-- The CRC-16 of R189: initial value 0xFFFF, no final inversion. -/
def crc16 (bytes : List Byte) : HWord := bytes.foldl crcByte 0xFFFF

/-- The check value as it is sent, high byte first (R189). -/
def crcTail (bytes : List Byte) : List Byte := be16 (crc16 bytes).toNat

/-- `f` on every element of a vector, by way of its list. -/
def mapVector {α β : Type} {n : Nat} (f : α → β) (v : Vector α n) : Vector β n :=
  ⟨⟨v.toList.map f⟩, by simp⟩

end Sys2Proof.Machine
end

