-- ==== Sys2Proof/Machine/Codes.lean ====
section
/-! DEFINITION. The codes of the value lists (10.8): each list is coded from 0 in the order given, statuses and notice kinds
by their own tables. A function `…OfCode` answers none for a code outside its list. -/

namespace Sys2Proof.Machine

open Sys2Proof

/-- Status codes (R183). -/
def Status.code : Status → Byte
  | .ok => 0x00
  | .okClamped => 0x01
  | .already => 0x02
  | .frameError => 0x10
  | .unknownRequest => 0x11
  | .badLength => 0x12
  | .badValue => 0x13
  | .badSlot => 0x14
  | .wrongState => 0x20
  | .inUse => 0x21
  | .duplicate => 0x22
  | .full => 0x23
  | .notFound => 0x24
  | .locked => 0x25
  | .notAllowed => 0x26
  | .tooShort => 0x27
  | .outOfWindow => 0x28
  | .safeOff => 0x29

/-- Notice kinds (10.8). -/
def NoticeKind.code : NoticeKind → Byte
  | .started => 0x01
  | .inserted => 0x02
  | .removed => 0x03
  | .parked => 0x04
  | .online => 0x05
  | .refused => 0x06
  | .fault => 0x07
  | .withdrawn => 0x08
  | .cardAlert => 0x09
  | .cardMessage => 0x0A
  | .lockWarn => 0x0B
  | .learned => 0x0C
  | .agedOut => 0x0D
  | .railSag => 0x0E
  | .refLost => 0x0F
  | .refBack => 0x10
  | .scanOverrun => 0x11

/-- Slot states, DISABLED to QUARANTINED (10.8). -/
def SlotState.code : SlotState → Byte
  | .disabled => 0
  | .vacant => 1
  | .settling => 2
  | .rampWait => 3
  | .ramping => 4
  | .identifying => 5
  | .parked => 6
  | .qualifying => 7
  | .spliceWait => 8
  | .online => 9
  | .withdrawing => 10
  | .refused => 11
  | .quarantined => 12

/-- Policies (10.8). -/
def Policy.code : Policy → Byte
  | .off => 0
  | .hold => 1
  | .admitCard => 2
  | .learn => 3

/-- Input policies (10.8). -/
def InputPolicy.code : InputPolicy → Byte
  | .hold => 0
  | .zero => 1

/-- Trigger modes (10.8). -/
def TriggerMode.code : TriggerMode → Byte
  | .level => 0
  | .change => 1
  | .fall => 2
  | .rise => 3

/-- Contact states (10.8). -/
def ContactState.code : ContactState → Byte
  | .opened => 0
  | .partway => 1
  | .seated => 2

/-- Verdicts, ADMIT to HOST_REFUSED (10.8). -/
def Verdict.code : Verdict → Byte
  | .admitCard => 0
  | .admitLearned => 1
  | .admitUnlearned => 2
  | .park => 3
  | .deny => 4
  | .unknown => 5
  | .wrongSlot => 6
  | .noPower => 7
  | .noRoom => 8
  | .noScanTime => 9
  | .badRecord => 10
  | .hostRefused => 11

/-- Input qualities (10.8). -/
def InputQuality.code : InputQuality → Byte
  | .none => 0
  | .fresh => 1
  | .held => 2
  | .zeroed => 3

/-- Leaving values (10.8). -/
def Leaving.code : Leaving → Byte
  | .none => 0
  | .releasePending => 1
  | .leavePending => 2

/-- The slot state that a destination names. -/
def Destination.slotState : Destination → SlotState
  | .settling => .settling
  | .refused => .refused
  | .quarantined => .quarantined

/-- Withdraw reasons (10.8). -/
def Reason.code : Reason → Byte
  | .host => 0
  | .policyOff => 1
  | .earlyRemoval => 2
  | .removed => 3
  | .fault => 4
  | .refused => 5
  | .safeOff => 6

/-- Fault causes (10.8). -/
def Cause.code : Cause → Byte
  | .powerGoodTimeout => 0
  | .idNoAnswer => 1
  | .idTimeout => 2
  | .laneBusy => 3
  | .idCheck => 4
  | .qualNoClock => 5
  | .qualTimeout => 6
  | .lockLost => 7
  | .exchangeLost => 8
  | .overcurrent => 9
  | .powerLost => 10

/-- Scan states (10.8). -/
def ScanState.code : ScanState → Byte
  | .stopped => 0
  | .running => 1
  | .stopping => 2

/-- Run states of a lock detector (10.8). -/
def RunState.code : RunState → Byte
  | .stopped => 0
  | .running => 1
  | .paused => 2

/-- Data lane markers (10.8). -/
def Marker.code : Marker → Byte
  | .normal => 0
  | .release => 1

/-- Rack modes (10.8). -/
def RackMode.code : RackMode → Byte
  | .commission => 0
  | .run => 1

/-- Images (10.8). -/
def ImageId.code : ImageId → Byte
  | .input => 0
  | .output => 1

/-- Actions (10.8). -/
def Action.code : Action → Byte
  | .admitCard => 0
  | .park => 1
  | .deny => 2

/-- Origins (10.8). -/
def Origin.code : Origin → Byte
  | .static => 0
  | .learned _ => 1

/-- Ages (10.8); an entry with no age sends 0. -/
def Origin.ageCode : Origin → Byte
  | .static => 0
  | .learned .fresh => 0
  | .learned .seen => 1

/-- Entry types (10.8); FREE is 0. -/
def EntryKey.typeCode : EntryKey → Byte
  | .exact _ _ _ => 1
  | .kind _ _ => 2
  | .vendor _ => 3
  | .placed _ _ _ => 4

/-- A flag as the code of a two-value list: CLEAR, NO, OFF 0 and SET, YES, ON 1 (10.8). -/
def flagCode (b : Bool) : Byte := if b then 1 else 0

/-- An optional byte field, 0xFF while it is absent (10.8). -/
def optionCode (o : Option Byte) : Byte := o.getD 0xFF

/-- The slot field of a notice or reply, 0xFF for the rack (00_scope, Conventions). -/
def slotCode (o : Option Slot) : Byte := optionCode (o.map fun i => byteOf i.val)

/-- A slot number carried by a request: none above 11 (R183). -/
def slotOf (b : Byte) : Option Slot :=
  if h : b.toNat < 12 then some ⟨b.toNat, h⟩ else none

/-- A directory index carried by a request: none above 47 (R115). -/
def indexOf (b : Byte) : Option EntryIndex :=
  if h : b.toNat < 48 then some ⟨b.toNat, h⟩ else none

def policyOfCode (b : Byte) : Option Policy :=
  if b = 0 then some .off else if b = 1 then some .hold else if b = 2 then some .admitCard
  else if b = 3 then some .learn else none

def inputPolicyOfCode (b : Byte) : Option InputPolicy :=
  if b = 0 then some .hold else if b = 1 then some .zero else none

def triggerModeOfCode (b : Byte) : Option TriggerMode :=
  if b = 0 then some .level else if b = 1 then some .change else if b = 2 then some .fall
  else if b = 3 then some .rise else none

/-- ON 1 and OFF 0 (10.8). -/
def flagOfCode (b : Byte) : Option Bool :=
  if b = 0 then some false else if b = 1 then some true else none

def imageOfCode (b : Byte) : Option ImageId :=
  if b = 0 then some .input else if b = 1 then some .output else none

def modeOfCode (b : Byte) : Option RackMode :=
  if b = 0 then some .commission else if b = 1 then some .run else none

def actionOfCode (b : Byte) : Option Action :=
  if b = 0 then some .admitCard else if b = 1 then some .park else if b = 2 then some .deny else none

end Sys2Proof.Machine
end

