-- ==== Sys2Proof/WellFormed.lean ====
section
/-! DEFINITION. Which commands the part can meet: the limits that the frame checks (R183) and the lane's count of bytes
(R90) have already put on a command's operands. A field value outside its list is no ill-formed command: its rule refuses
it (BAD_VALUE, BAD_SLOT). -/

namespace Sys2Proof

/-- The parameter ids of the eight class rows, 0x18 to 0x1F (R57). -/
def isClassRowId (id : Byte) : Bool := 0x18 ≤ id.toNat && id.toNat ≤ 0x1F

/-- The length that a card message's length field gives its data: none where it is 0 or above 8 (R90). -/
def messageDataLength (length : Byte) : Nat := if length.toNat ≤ 8 then length.toNat else 0

/-- The operands a command can carry. -/
def Instr.wellFormed : Instr → Bool
  | .setParameter _ id _ second => second.isSome == isClassRowId id
  | .imageWrite _ _ _ data => 1 ≤ data.length && data.length ≤ 64
  | .cardMessageEnd _ length data _ => data.length == messageDataLength length
  | _ => true

/-- The decidable proposition behind `Instr.wellFormed`. -/
abbrev Instr.WellFormed (i : Instr) : Prop := i.wellFormed = true

end Sys2Proof
end

