-- ==== Sys2Proof/Machine/Operands.lean ====
section
/-! DEFINITION. The records that cross the part's wires (10.8): the identity record, the directory entry body, the notice
record and the two link frames. -/

namespace Sys2Proof.Machine

open Sys2Proof

/-! ## The identity record -/

/-- The identity that a record of 32 bytes carries (10.8): every field except the check value (R86). -/
def identityOfRecord (r : Vector Byte 32) : Identity where
  vendor := join16 r[0] r[1]
  kind := join16 r[2] r[3]
  revision := r[4]
  formatVersion := r[5]
  serial := join32 r[6] r[7] r[8] r[9]
  steadyCurrent := join16 r[10] r[11]
  inputBytes := join16 r[12] r[13]
  outputBytes := join16 r[14] r[15]
  clockRatio := r[16]
  flags := r[17]
  vendorText := #v[r[18], r[19], r[20], r[21], r[22], r[23], r[24], r[25], r[26], r[27], r[28], r[29]]

/-- Bytes 0 to 29 of the identity record (10.8). -/
def Identity.bytes (d : Identity) : List Byte :=
  be16 d.vendor.toNat ++ be16 d.kind.toNat ++ [d.revision, d.formatVersion] ++ be32 d.serial.toNat
    ++ be16 d.steadyCurrent.toNat ++ be16 d.inputBytes.toNat ++ be16 d.outputBytes.toNat
    ++ [d.clockRatio, d.flags] ++ d.vendorText.toList

/-- The check value of the record agrees with its bytes 0 to 29 (R85). -/
def recordChecks (r : Vector Byte 32) : Bool :=
  crc16 (r.toList.take 30) == join16 r[30] r[31]

/-- M, 1 to 16 (4.4). -/
def Identity.ratioM (d : Identity) : Nat := d.clockRatio.toNat / 16 + 1

/-- D, 1 to 16 (4.4). -/
def Identity.ratioD (d : Identity) : Nat := d.clockRatio.toNat % 16 + 1

/-- RELEASE_CAPABLE is bit 0 of the flags (10.8). -/
def Identity.releaseCapable (d : Identity) : Bool := d.flags.toNat % 2 == 1

/-- The card's declared byte count in an image (R135). -/
def Identity.declared (d : Identity) : ImageId → Nat
  | .input => d.inputBytes.toNat
  | .output => d.outputBytes.toNat

/-- The validity of a record (R86). -/
def Identity.valid (d : Identity) : Bool :=
  d.formatVersion == 1 && d.steadyCurrent.toNat ≤ 6000 && d.inputBytes.toNat ≤ 512
    && d.outputBytes.toNat ≤ 512 && d.ratioM ≤ 4 * d.ratioD

/-! ## The directory entry body -/

/-- The entry key that a body's type and key fields give, for DIRECTORY ADD and DIRECTORY FIND: none for a type that is
FREE or unknown, or a PLACED place slot above 11 (R116, R120). -/
def entryKeyOf (b : EntryBytes) : Option EntryKey :=
  if b.typeCode = 1 then some (.exact b.vendor b.kind b.revision)
  else if b.typeCode = 2 then some (.kind b.vendor b.kind)
  else if b.typeCode = 3 then some (.vendor b.vendor)
  else if b.typeCode = 4 then (slotOf b.placeSlot).map (.placed b.vendor b.kind)
  else none

/-- The entry is of type PLACED. -/
def EntryKey.isPlaced : EntryKey → Bool
  | .placed _ _ _ => true
  | _ => false

/-- The pin slot byte of an ADD body: 0xFF is absent (10.8). The outer none is a refusal with BAD_VALUE (R116). -/
def pinOfBody (b : EntryBytes) (action : Action) (placed : Bool) : Option (Option Slot) :=
  if b.pinSlot = 0xFF then some none
  else if action = .deny ∨ placed = true then none
  else (slotOf b.pinSlot).map some

/-- The reserve of an ADD body: 0xFFFF is absent (10.8). The outer none is a refusal with BAD_VALUE (R116). -/
def reserveOfBody (b : EntryBytes) (action : Action) : Option (Option Nat) :=
  if b.reserve = 0xFFFF then some none
  else if action = .deny ∨ 6000 < b.reserve.toNat then none
  else some (some b.reserve.toNat)

/-- The STATIC entry that an ADD body describes, or none where R116 refuses it with BAD_VALUE. DEDUCED: a service byte that
is neither NO nor YES is BAD_VALUE, as a field value outside its list (R183; log entry 9). -/
def entryBodyOf (b : EntryBytes) : Option EntryBody := do
  let key ← entryKeyOf b
  let action ← actionOfCode b.action
  let pin ← pinOfBody b action key.isPlaced
  let reserve ← reserveOfBody b action
  let service ← flagOfCode b.service
  return ⟨key, action, .static, pin, service, reserve⟩

/-- The key fields as they are sent; a field that the type does not carry is 0 (10.8). -/
def EntryKey.bytes : EntryKey → List Byte
  | .exact v k r => be16 v.toNat ++ be16 k.toNat ++ [r, 0]
  | .kind v k => be16 v.toNat ++ be16 k.toNat ++ [0, 0]
  | .vendor v => be16 v.toNat ++ [0, 0, 0, 0]
  | .placed v k s => be16 v.toNat ++ be16 k.toNat ++ [0, byteOf s.val]

/-- The entry body of 15 bytes (10.8). DEDUCED: an absent pin slot or reserve is sent as its value for absence whatever the
type (log entry 10). -/
def Entry.bytes (e : Entry) : List Byte :=
  match e.body with
  | none => [0] ++ be16 0 ++ be16 0 ++ [0, 0, 0, 0, 0, 0xFF, 0] ++ be16 0xFFFF ++ [byteOf e.users]
  | some b =>
    [b.key.typeCode] ++ b.key.bytes ++ [b.action.code, b.origin.code, b.origin.ageCode]
      ++ [slotCode b.pinSlot, flagCode b.service] ++ be16 (b.reserve.getD 0xFFFF) ++ [byteOf e.users]

/-! ## The notice record and the link frames -/

/-- A notice record: kind, slot, code, data length, data (10.8). -/
def Notice.bytes (n : Notice) : List Byte :=
  [n.kind.code, slotCode n.slot, n.code, byteOf n.data.length] ++ n.data

/-- The flags byte of a reply: bit 0 DROPPED, bit 1 OVERFLOW (10.8). -/
def Reply.flags (r : Reply) : Byte := byteOf ((if r.dropped then 1 else 0) + (if r.overflow then 2 else 0))

/-- A reply frame (10.8): its check covers the length byte to the end of the body (R189). -/
def Reply.frame (r : Reply) : List Byte :=
  let covered := [byteOf r.body.length, r.code, r.tag, r.status.code, r.flags] ++ r.body
  [0xD2] ++ covered ++ crcTail covered

/-- A request frame (10.8, R181). -/
def requestFrame (code tag : Byte) (body : List Byte) : List Byte :=
  let covered := [byteOf body.length, code, tag] ++ body
  [0xD1] ++ covered ++ crcTail covered

end Sys2Proof.Machine
end

