-- ==== Sys2Proof/Machine/Ops.lean ====
section
/-! DEFINITION. The named operations over the state that every family of commands shares: reading and changing one slot's
record, the accounts, the notice queue, the match references, the windows, the lock detector's start and stop, and the
entry effects of each slot state. -/

namespace Sys2Proof.Machine

open Sys2Proof

/-! ## One slot's record -/

/-- The record of a slot. -/
def State.slot (s : State) (i : Slot) : SlotRecord := s.slots[i]

def State.mon (s : State) (i : Slot) : Monitor := (s.slot i).monitor
def State.ctx (s : State) (i : Slot) : Context := (s.slot i).ctx
def State.railOf (s : State) (i : Slot) : RailSlot := (s.slot i).rail
def State.det (s : State) (i : Slot) : Detector := (s.slot i).detector
def State.scanOf (s : State) (i : Slot) : ScanSlot := (s.slot i).scan

/-- Changes the record of one slot. -/
def State.modSlot (s : State) (i : Slot) (f : SlotRecord → SlotRecord) : State :=
  { s with slots := s.slots.set i (f (s.slot i)) }

def State.modMon (s : State) (i : Slot) (f : Monitor → Monitor) : State :=
  s.modSlot i fun r => { r with monitor := f r.monitor }

def State.modCtx (s : State) (i : Slot) (f : Context → Context) : State :=
  s.modSlot i fun r => { r with ctx := f r.ctx }

def State.modRail (s : State) (i : Slot) (f : RailSlot → RailSlot) : State :=
  s.modSlot i fun r => { r with rail := f r.rail }

def State.modDet (s : State) (i : Slot) (f : Detector → Detector) : State :=
  s.modSlot i fun r => { r with detector := f r.detector }

def State.modScan (s : State) (i : Slot) (f : ScanSlot → ScanSlot) : State :=
  s.modSlot i fun r => { r with scan := f r.scan }

/-- Changes the record of every slot in the same way. -/
def State.mapSlots (s : State) (f : SlotRecord → SlotRecord) : State :=
  { s with slots := mapVector f s.slots }

/-- The slots whose record meets a test, in ascending order. -/
def State.slotsWith (s : State) (p : SlotRecord → Bool) : List Slot :=
  allSlots.filter fun i => p (s.slot i)

/-- The sum of a figure over the twelve slots. -/
def State.total (s : State) (f : SlotRecord → Nat) : Nat :=
  (allSlots.map fun i => f (s.slot i)).sum

/-! ## Accounts (R58, R161) -/

/-- Ci: the sum of the inrush committed fields (R58). -/
def State.ci (s : State) : Nat := s.total fun r => r.ctx.inrushCommitted

/-- Cs: the sum of the steady committed fields (R58). -/
def State.cs (s : State) : Nat := s.total fun r => r.ctx.steadyCommitted

/-- L in ns: the sum of the scan costs that the scan engine holds (R161). -/
def State.load (s : State) : Nat := s.total fun r => r.scan.cost.getD 0

/-- B in ns (R161). -/
def State.budget (s : State) : Nat := s.params.cyclePeriod * 10 * s.params.fillPercent

/-- The number of slots in RAMPING (R63). -/
def State.rampingCount (s : State) : Nat :=
  (s.slotsWith fun r => decide (r.ctx.state = .ramping)).length

/-- E as R54 computes it from STEADY_BUDGET, the rail value and the two thresholds. -/
def effectiveSteady (budget value full floor : Nat) : Nat :=
  if full ≤ value then budget
  else if value ≤ floor then 0
  else budget * (value - floor) / (full - floor)

/-- E recomputed from the rail value held (R54). -/
def State.recomputeE (s : State) : State :=
  let e := effectiveSteady s.params.steadyBudget s.rail.value s.params.railFullMv s.params.railFloorMv
  { s with rail := { s.rail with effective := e } }

/-- The row of the class table that a slot's inrush class names (R57). -/
def State.classRow (s : State) (i : Slot) : ClassRow :=
  s.params.classTable[(s.ctx i).inrushClass.getD 0]

/-- The slot is in the roster: it has a skip mark (8.1). -/
def State.inRoster (s : State) (i : Slot) : Bool := (s.scanOf i).skip.isSome

/-- The roster, in ascending slot order (8.1). -/
def State.roster (s : State) : List Slot := s.slotsWith fun r => r.scan.skip.isSome

/-- RAMPING, IDENTIFYING, PARKED, QUALIFYING, SPLICE_WAIT and ONLINE are the active states (2.3). -/
def SlotState.active : SlotState → Bool
  | .ramping | .identifying | .parked | .qualifying | .spliceWait | .online => true
  | _ => false

/-! ## The notice queue (R187) -/

/-- The kinds that are coalesced (R187). -/
def NoticeKind.coalesced : NoticeKind → Bool
  | .cardAlert | .lockWarn | .scanOverrun => true
  | _ => false

/-- A record in the queue against which an offer is dropped: the same kind and slot, or for SCAN_OVERRUN the same kind,
whose slot is always the rack (R187). -/
def Notice.sameKindAndSlot (n m : Notice) : Bool := m.kind == n.kind && m.slot == n.slot

/-- Offers a notice to a queue (R187). -/
def Notices.offer (q : Notices) (n : Notice) : Notices :=
  if n.kind.coalesced && q.queue.any n.sameKindAndSlot then q
  else if Config.noticeCapacity ≤ q.queue.length then { q with overflow := true }
  else { q with queue := q.queue ++ [n] }

/-- A block offers a notice (R187). -/
def State.post (s : State) (n : Notice) : State := { s with notices := s.notices.offer n }

/-- A notice for one slot. -/
def State.postSlot (s : State) (k : NoticeKind) (i : Slot) (code : Byte) (data : List Byte) : State :=
  s.post ⟨k, some i, code, data⟩

/-- A notice for the rack, slot 0xFF. -/
def State.postRack (s : State) (k : NoticeKind) (code : Byte) (data : List Byte) : State :=
  s.post ⟨k, none, code, data⟩

/-! ## Answers to requests (R183) -/

/-- The link unit holds the answer of a request that has been taken: its effects stand, and its reply is built later
(R180). In an open window that did not start HANDLING, the link state and the reply being shifted out stay until the window
ends (R180, R181). Otherwise the link is HANDLING at once, and a reply that an earlier window left is gone, since a request is
taken only in a window that consumes it (log entry 2). -/
def Link.take (l : Link) (a : Answer) : Link :=
  match l.window with
  | .opened .idle _ => { l with window := .opened .idle true, answer := some a }
  | .opened .replyReady _ => { l with window := .opened .replyReady true, answer := some a }
  | _ => { l with state := .handling, answer := some a, reply := none }

/-- The link unit takes the answer of a request. -/
def State.answerWith (s : State) (code tag : Byte) (status : Status) (body : List Byte)
    (overflow : Option Bool) : State :=
  { s with link := s.link.take ⟨code, tag, status, body, overflow⟩ }

/-- An answer whose OVERFLOW bit is the flag as it stands when the reply is built (R183). -/
def State.reply (s : State) (code tag : Byte) (status : Status) (body : List Byte) : State :=
  s.answerWith code tag status body none

/-! ## The slot's state and its LED pattern (R13) -/

/-- The pattern of a slot state (R13). -/
def SlotState.pattern : SlotState → LedPattern
  | .vacant | .disabled => .off
  | .settling | .rampWait | .ramping | .identifying | .qualifying | .spliceWait | .withdrawing => .slow
  | .parked => .double
  | .online => .steady
  | .refused | .quarantined => .fast

/-- A pattern begins at its first phase when the state that shows it begins with another pattern before (R13). -/
def Monitor.showPattern (m : Monitor) (p : LedPattern) : Monitor :=
  if m.pattern = p then m else { m with pattern := p, ledPhase := 0, ledSamples := 0 }

/-- A slot leaving ONLINE clears its sticky flag and ends its dark pulse (R9, R14). -/
def Monitor.leaveOnline (m : Monitor) : Monitor := { m with sticky := false, darkPulse := none }

/-- The slot's record as its state becomes `st`: the LED takes the state's pattern (R13), and a slot that leaves ONLINE loses
its miss count (R18), sticky flag and dark pulse (R9, R14). -/
def SlotRecord.enter (st : SlotState) (r : SlotRecord) : SlotRecord :=
  if r.ctx.state = .online ∧ st ≠ .online then
    { r with
      monitor := (r.monitor.leaveOnline).showPattern st.pattern
      ctx := { r.ctx with state := st, missCount := none } }
  else
    { r with
      monitor := r.monitor.showPattern st.pattern
      ctx := { r.ctx with state := st } }

/-- Sets a slot's state. -/
def State.setState (s : State) (i : Slot) (st : SlotState) : State := s.modSlot i (SlotRecord.enter st)

/-! ## Match references (R113) -/

def State.entry (s : State) (k : EntryIndex) : Entry := s.directory.entries[k]

/-- Changes one directory entry. -/
def State.modEntry (s : State) (k : EntryIndex) (f : Entry → Entry) : State :=
  { s with directory := { s.directory with entries := s.directory.entries.set k (f (s.entry k)) } }

/-- Drops a slot's match if one is present; the entry's users count falls by one in the same event (R113). -/
def State.dropMatch (s : State) (i : Slot) : State :=
  match (s.ctx i).matched with
  | none => s
  | some k =>
    (s.modEntry k fun e => { e with users := e.users - 1 }).modCtx i fun c => { c with matched := none }

/-- Stores a match for a slot; the entry's users count rises by one in the same event (R113, R127). -/
def State.storeMatch (s : State) (i : Slot) (k : EntryIndex) : State :=
  let s := s.dropMatch i
  (s.modEntry k fun e => { e with users := e.users + 1 }).modCtx i fun c => { c with matched := some k }

/-- The entry that a slot's match names. -/
def State.matchedBody (s : State) (i : Slot) : Option EntryBody :=
  match (s.ctx i).matched with
  | none => none
  | some k => (s.entry k).body

/-- A service card: its match names an entry whose service flag is YES (R129). -/
def State.serviceCard (s : State) (i : Slot) : Bool :=
  match s.matchedBody i with
  | none => false
  | some b => b.service

/-! ## Images and windows (Section 7) -/

def State.image (s : State) : ImageId → Image
  | .input => s.imageIn
  | .output => s.imageOut

def State.setImage (s : State) (g : ImageId) (x : Image) : State :=
  match g with
  | .input => { s with imageIn := x }
  | .output => { s with imageOut := x }

def Context.window (c : Context) : ImageId → Option Window
  | .input => c.inWindow
  | .output => c.outWindow

def Context.setWindow (c : Context) (g : ImageId) (w : Option Window) : Context :=
  match g with
  | .input => { c with inWindow := w }
  | .output => { c with outWindow := w }

/-- An image's free total: the sum of the lengths of its extents (R134). -/
def Image.freeTotal (x : Image) : Nat := (x.free.map Extent.length).sum

/-- An image's largest extent, 0 when its list is empty (R134). -/
def Image.largest (x : Image) : Nat := (x.free.map Extent.length).foldl max 0

/-- The segments a declared byte count requires (R135). -/
def segmentsFor (bytes : Nat) : Nat := (bytes + 15) / 16

/-- The first byte of a window in its image (R135). -/
def Window.base (w : Window) : Nat := 16 * w.start

/-- The bytes a window holds, padding included (R135). -/
def Window.size (w : Window) : Nat := 16 * w.count

/-- First fit at the low end (R136): the start of the lowest extent long enough, and the list with the need taken from its
low end. -/
def carve (need : Nat) : List Extent → Option (Nat × List Extent)
  | [] => none
  | x :: xs =>
    if need ≤ x.length then
      some (x.start, if x.length = need then xs else ⟨x.start + need, x.length - need⟩ :: xs)
    else (carve need xs).map fun p => (p.1, x :: p.2)

/-- Returns an extent to a free list in its place and merges it with its neighbours (R140). -/
def insertExtent (e : Extent) : List Extent → List Extent
  | [] => [e]
  | x :: xs =>
    if e.start + e.length < x.start then e :: x :: xs
    else if e.start + e.length = x.start then ⟨e.start, e.length + x.length⟩ :: xs
    else if x.start + x.length = e.start then insertExtent ⟨x.start, x.length + e.length⟩ xs
    else x :: insertExtent e xs

/-- Releases a slot's window in one image; the bytes are left as they stand (R140). -/
def State.releaseWindow (s : State) (i : Slot) (g : ImageId) : State :=
  match (s.ctx i).window g with
  | none => s
  | some w =>
    let x := s.image g
    (s.setImage g { x with free := insertExtent ⟨w.start, w.count⟩ x.free }).modCtx i fun c => c.setWindow g none

/-- Releases both windows of a slot, IN and then OUT, and removes its input quality (R140). -/
def State.releaseWindows (s : State) (i : Slot) : State :=
  ((s.releaseWindow i .input).releaseWindow i .output).modCtx i fun c => { c with inputQuality := none }

/-- Writes bytes into a slot's window from an offset; nothing where the slot holds no window in the image. -/
def State.writeWindow (s : State) (i : Slot) (g : ImageId) (offset : Nat) (bytes : List Byte) : State :=
  match (s.ctx i).window g with
  | none => s
  | some w =>
    let x := s.image g
    s.setImage g { x with mem := Memory.writeBytes x.mem (w.base + offset) bytes }

/-- Sets every byte of a slot's window to 0. -/
def State.zeroWindow (s : State) (i : Slot) (g : ImageId) : State :=
  match (s.ctx i).window g with
  | none => s
  | some w =>
    let x := s.image g
    s.setImage g { x with mem := Memory.zero x.mem w.base w.size }

/-- Bytes of a slot's window from an offset; none where the slot holds no window in the image. -/
def State.readWindow (s : State) (i : Slot) (g : ImageId) (offset n : Nat) : List Byte :=
  match (s.ctx i).window g with
  | none => []
  | some w => Memory.readBytes (s.image g).mem (w.base + offset) n

/-! ## The lock detector (R94 to R96) -/

/-- The expected count after W periods (R96). -/
def expectedCount (w m d : Nat) : Nat := w * m / d

/-- The expected counts of the three checkpoints (R96). -/
def expectedCounts (m d : Nat) : Expected :=
  ⟨expectedCount 16 m d, expectedCount 32 m d, expectedCount 64 m d⟩

/-- A checkpoint matches within LOCK_TOLERANCE, the difference taken either way round (R96). -/
def countMatches (tolerance measured expected : Nat) : Bool :=
  decide (measured ≤ expected + tolerance ∧ expected ≤ measured + tolerance)

/-- Starts a detector for a duty (R94): paused while REF_LOST holds (R105). -/
def Detector.start (d : Detector) (duty : Duty) (identity : Option Identity) (refLost : Bool) (qualUs : Nat) :
    Detector :=
  { d with
    run := if refLost then .paused else .running
    duty := some duty
    ratio := identity.map fun x => (x.ratioM, x.ratioD)
    expected := identity.map fun x => expectedCounts x.ratioM x.ratioD
    spanPosition := 0
    edgeCount := 0
    coarse := false
    fine := false
    fineRun := 0
    qualTimer := match duty with
      | .qualify => if refLost then .paused qualUs else .running qualUs
      | .watch => .idle
    graceTimer := none
    awaitingEdge := true
    due := none }

/-- Stops a detector (R94): COARSE, FINE and the fine run keep their values, and the span in progress is discarded. -/
def Detector.stop (d : Detector) : Detector :=
  { d with
    run := .stopped
    duty := none
    ratio := none
    expected := none
    spanPosition := 0
    edgeCount := 0
    qualTimer := .idle
    graceTimer := none
    awaitingEdge := false
    due := none }

/-- QUAL_TIMEOUT in µs (R103). -/
def State.qualUs (s : State) : Nat := s.params.qualTimeout * Config.usPerMs

/-- The clock qualifier starts a slot's detector (R94). -/
def State.startDetector (s : State) (i : Slot) (duty : Duty) : State :=
  s.modDet i fun d => d.start duty (s.ctx i).identity s.clock.refLost s.qualUs

/-- The clock qualifier stops a slot's detector (R94). -/
def State.stopDetector (s : State) (i : Slot) : State := s.modDet i Detector.stop

/-! ## Entering a state (R22 to R24) -/

/-- SETTLE_TIME in µs (R20). -/
def State.settleUs (s : State) : Nat := s.params.settleTime * Config.settleStepUs

/-- DISCHARGE_TIME in µs (R75). -/
def State.dischargeUs (s : State) : Nat := s.params.dischargeTime * Config.usPerMs

/-- The settle time after a withdrawal or RESTART: the larger of SETTLE_TIME and DISCHARGE_TIME (R23). -/
def State.longSettleUs (s : State) : Nat := max s.settleUs s.dischargeUs

/-- The context of a slot with no card under work (R22). -/
def Context.cleared (c : Context) : Context :=
  { c with inrushClass := none, identity := none, verdict := none, attempts := 0, settleTimer := none }

/-- A slot enters VACANT or DISABLED (R22). -/
def State.enterEmpty (s : State) (i : Slot) (st : SlotState) : State :=
  ((s.dropMatch i).setState i st).modCtx i Context.cleared

/-- A slot enters SETTLING with a settle time (R23): the inrush class is the seated class the monitor holds. -/
def State.enterSettling (s : State) (i : Slot) (us : Nat) : State :=
  ((s.dropMatch i).setState i .settling).modSlot i fun r =>
    { r with ctx := { r.ctx with
        identity := none, verdict := none, inrushClass := r.monitor.seatedClass, settleTimer := some us } }

/-- A slot enters REFUSED or QUARANTINED: it drops its match and keeps its identity, verdict and attempts (R24). -/
def State.enterHeld (s : State) (i : Slot) (st : SlotState) : State := (s.dropMatch i).setState i st

/-- Sets a slot's verdict. -/
def State.setVerdict (s : State) (i : Slot) (v : Verdict) : State :=
  s.modCtx i fun c => { c with verdict := some v }

end Sys2Proof.Machine
end

