-- ==== Sys2Proof/Machine/Arbiter.lean ====
section
/-! DEFINITION. The rail budget unit's shared operations: the ramp queue's order, the grant, an evaluation of the inrush
arbiter, and the opening of a switch (3.5 to 3.9). -/

namespace Sys2Proof.Machine

open Sys2Proof

/-- The slots in cyclic order, starting after `last` (R62, ROUND). -/
def slotsAfter (last : Slot) : List Slot :=
  allSlots.filter (fun i => decide (last < i)) ++ allSlots.filter (fun i => decide (i ≤ last))

/-- The ramp queue in arbiter order (R62): FIXED by priority, highest first, and then by slot number; ROUND by slot number,
cyclically, from the slot after last granted. -/
def State.rampOrder (s : State) : List Slot :=
  match s.params.arbiterMode with
  | .fixed => [3, 2, 1, 0].flatMap fun p => s.slotsWith fun r => r.rail.queued && r.ctx.priority == p
  | .round => (slotsAfter s.rail.lastGranted).filter fun i => (s.railOf i).queued

/-- The five conditions of a grant to a slot (R63). -/
def State.grantFits (s : State) (i : Slot) : Bool :=
  decide (s.ci + (s.classRow i).inrush ≤ s.params.inrushBudget)
    && decide (s.cs + (s.classRow i).provisional ≤ s.rail.effective)
    && decide (s.rampingCount < s.params.rampLimit)
    && !s.rail.brownout
    && !s.clock.frozen

/-- A slot's record as it is granted: out of the queue, figures committed, switch closed, ramp timer started (R65). -/
def SlotRecord.grant (row : ClassRow) (rampUs : Nat) (r : SlotRecord) : SlotRecord :=
  { r with
    ctx := { r.ctx with inrushCommitted := row.inrush, steadyCommitted := row.provisional }
    rail := { r.rail with
      queued := false, powerSeen := false, lossReported := false, closed := true, rampTimer := some rampUs } }

/-- RAMP_TIMEOUT in µs (R75). -/
def State.rampUs (s : State) : Nat := s.params.rampTimeout * Config.usPerMs

/-- A grant (R65). -/
def State.grant (s : State) (i : Slot) : State :=
  let row := s.classRow i
  let s := s.modSlot i (SlotRecord.grant row s.rampUs)
  { s with rail := { s.rail with lastGranted := i } }.setState i .ramping

/-- At most `n` grants of one evaluation: the head is granted while it meets the condition, and nothing is considered beyond
a head that does not (R63, R64). -/
def State.arbitrateSteps : Nat → State → State
  | 0, s => s
  | n + 1, s =>
    match s.rampOrder with
    | [] => s
    | i :: _ => if s.grantFits i then State.arbitrateSteps n (s.grant i) else s

/-- One evaluation of the arbiter (R64). The queue holds at most twelve slots, so twelve grants exhaust it. -/
def State.arbitrate (s : State) : State := State.arbitrateSteps 12 s

/-- A slot's record as its switch opens: ramp timer cancelled, commitments released, discharge timer started (R69, R71). -/
def SlotRecord.openSwitch (dischargeUs : Nat) (r : SlotRecord) : SlotRecord :=
  { r with
    ctx := { r.ctx with inrushCommitted := 0, steadyCommitted := 0 }
    rail := { r.rail with closed := false, rampTimer := none, dischargeTimer := some dischargeUs } }

/-- A slot's switch opens (R69 steps 1 to 3, R71 steps 1 to 3). -/
def State.openSwitch (s : State) (i : Slot) : State := s.modSlot i (SlotRecord.openSwitch s.dischargeUs)

/-- The power step (R71): a closed switch opens and the arbiter evaluates; an open one leaves nothing to do. -/
def State.powerStep (s : State) (i : Slot) : State :=
  if (s.railOf i).closed then (s.openSwitch i).arbitrate else s

/-- The never-fit test of a class at queue entry (R59): made against STEADY_BUDGET, not against E. -/
def State.neverFits (s : State) (i : Slot) : Bool :=
  decide (s.params.inrushBudget < (s.classRow i).inrush)
    || decide (s.params.steadyBudget < (s.classRow i).provisional)

/-- A slot joins the ramp queue and the arbiter evaluates (R59). -/
def State.joinRampQueue (s : State) (i : Slot) : State :=
  ((s.modRail i fun r => { r with queued := true }).setState i .rampWait).arbitrate

/-- A slot leaves the ramp queue other than by a grant, and the arbiter evaluates (R60). -/
def State.leaveRampQueue (s : State) (i : Slot) : State :=
  if (s.railOf i).queued then (s.modRail i fun r => { r with queued := false }).arbitrate else s

end Sys2Proof.Machine
end

