-- ==== Sys2Proof/Machine/LaneOps.lean ====
section
/-! DEFINITION. The lane controller's shared operations: opening a transaction, ending one, and the identify queue
(4.2 to 4.5). -/

namespace Sys2Proof.Machine

open Sys2Proof

/-- Changes the lane controller. -/
def State.modLane (s : State) (f : Lane → Lane) : State := { s with lane := f s.lane }

/-- Opens a transaction for the slot at the head: SEL asserted, hold and acknowledge timers started, and the read's counters
set at its first transaction (R80). -/
def Lane.openFor (l : Lane) (i : Slot) : Lane :=
  let l := if l.readBegun then l else { l with tries := 0, lost := 0, checkUsed := false, readBegun := true }
  { l with
    state := .partBusy
    transaction := some ⟨i, .start, false⟩
    holdTimer := some Config.holdUs
    acknowledgeTimer := some Config.acknowledgeUs }

/-- The test of R80: the lane is IDLE, the identify queue is not empty and no retry gap is running. -/
def Lane.tryOpen (l : Lane) : Lane :=
  match l.queue with
  | [] => l
  | i :: _ => if l.state = .idle ∧ l.retryGap = none then l.openFor i else l

/-- The lane controller tests R80. -/
def State.tryOpen (s : State) : State := s.modLane Lane.tryOpen

/-- Every end of a transaction: SEL deasserted, both timers cancelled and the transaction removed (R80); the lane goes to
`st`. -/
def Lane.endTransaction (l : Lane) (st : LaneState) : Lane :=
  { l with state := st, transaction := none, holdTimer := none, acknowledgeTimer := none }

/-- The lane is cut off and cleared: RECOVERING with the recovery timer at 1 ms (R83, R92). -/
def Lane.recover (l : Lane) : Lane :=
  { l.endTransaction .recovering with recoveryTimer := some Config.recoveryUs }

/-- The head leaves the queue at the end of its read (R79). -/
def Lane.dropHead (l : Lane) : Lane := { l with queue := l.queue.tail, readBegun := false }

/-- A slot joins the tail of the identify queue as it moves to IDENTIFYING (R79). -/
def State.identify (s : State) (i : Slot) : State :=
  ((s.setState i .identifying).modLane fun l => { l with queue := l.queue ++ [i] }).tryOpen

/-- A withdrawal takes a slot out of the identify queue (R88): from behind another slot, from the head between
transactions, where a running retry gap is cancelled, or from the head with its transaction open, which is orphaned. -/
def Lane.remove (l : Lane) (i : Slot) : Lane :=
  match l.queue with
  | [] => l
  | h :: rest =>
    if h ≠ i then { l with queue := h :: rest.filter (· ≠ i) }
    else
      match l.transaction with
      | some t =>
        if t.orphaned then { l with queue := rest, readBegun := false, retryGap := none }
        else { l with queue := rest, readBegun := false, transaction := some { t with orphaned := true } }
      | none => { l with queue := rest, readBegun := false, retryGap := none }

/-- A slot is withdrawn from IDENTIFYING, and R80 is tested (R88). -/
def State.leaveLane (s : State) (i : Slot) : State := (s.modLane fun l => l.remove i).tryOpen

end Sys2Proof.Machine
end

