-- ==== Sys2Proof/Machine/Withdrawal.lean ====
section
/-! DEFINITION. The steps of a withdrawal, its end, faults and removals (2.4, 2.8, 2.9 and Section 9). -/

namespace Sys2Proof.Machine

open Sys2Proof

/-! ## The end of a withdrawal (R49, R50) -/

/-- The state a withdrawal ends in (R49). -/
def Context.endState (c : Context) : SlotState :=
  if c.policy = .off then .disabled
  else if c.contact ≠ .seated then .vacant
  else (c.destination.getD .settling).slotState

/-- A slot enters the state at the end of its withdrawal, with that state's entry effects (R22 to R24). -/
def State.enterEnd (s : State) (i : Slot) (st : SlotState) : State :=
  match st with
  | .disabled => s.enterEmpty i .disabled
  | .vacant => s.enterEmpty i .vacant
  | .settling => s.enterSettling i s.longSettleUs
  | st => s.enterHeld i st

/-- A withdrawal ends (R50): its fields are removed, the slot enters the state that R49 gives, and WITHDRAWN is posted. -/
def State.endWithdrawal (s : State) (i : Slot) : State :=
  let c := s.ctx i
  let st := c.endState
  let s := s.modCtx i fun c => { c with destination := none, reason := none, leaving := none }
  (s.enterEnd i st).postSlot .withdrawn i (optionCode (c.reason.map Reason.code)) [st.code]

/-- Neither item of R165 is outstanding: the slot is out of the roster and no discharge runs. -/
def State.withdrawalDone (s : State) (i : Slot) : Bool :=
  decide ((s.ctx i).state = .withdrawing) && !s.inRoster i && (s.railOf i).dischargeTimer.isNone

/-- The withdrawal ends at the event that completes its last outstanding item (R165). -/
def State.endIfDone (s : State) (i : Slot) : State :=
  if s.withdrawalDone i then s.endWithdrawal i else s

/-! ## The departure (R154, R167) -/

/-- A LEAVE is applied: the slot leaves the roster and the snapshot, its cost leaves L, its windows are released, and the
departure is handed back to the withdrawal, which takes its power step if it has not been taken (R154, R168). -/
def State.depart (s : State) (i : Slot) : State :=
  (((s.modScan i fun _ => ScanSlot.reset).releaseWindows i).powerStep i).endIfDone i

/-- A LEAVE is taken into the splice list (R151). -/
def State.queueLeave (s : State) (i : Slot) : State :=
  s.modSlot i fun r =>
    { r with
      ctx := { r.ctx with leaving := some .leavePending }
      scan := { r.scan with splice := some .leave } }

/-- Step 2 of a withdrawal, for a slot in the roster (R167). -/
def State.requestDeparture (s : State) (i : Slot) : State :=
  match s.scan.state with
  | .running =>
    if (s.ctx i).reason = some .host ∧ (s.ctx i).identity.any Identity.releaseCapable = true then
      s.modCtx i fun c => { c with leaving := some .releasePending }
    else s.queueLeave i
  | .stopping => s.queueLeave i
  | .stopped => (s.queueLeave i).depart i

/-! ## Beginning a withdrawal (R29, R166) -/

/-- A pending JOIN is cancelled: the scan cost leaves L and the windows are released (R151). -/
def State.cancelJoin (s : State) (i : Slot) : State :=
  (s.modScan i fun c => { c with splice := none, cost := none }).releaseWindows i

/-- Step 1: the work the slot was waiting in, in the state it left, is aborted by the block that owns it (R166). -/
def State.abortWork (s : State) (i : Slot) (old : SlotState) : State :=
  match old with
  | .settling => s.modCtx i fun c => { c with settleTimer := none }
  | .rampWait => s.leaveRampQueue i
  | .identifying => s.leaveLane i
  | .qualifying => s.stopDetector i
  | .spliceWait => s.cancelJoin i
  | .online => s.stopDetector i
  | _ => s

/-- The slot is WITHDRAWING with its reason, its requested destination and its leaving field at NONE (R29). -/
def State.markWithdrawing (s : State) (i : Slot) (reason : Reason) (dest : Destination) : State :=
  (s.setState i .withdrawing).modCtx i fun c =>
    { c with leaving := some .none, destination := some dest, reason := some reason }

/-- A withdrawal whose reason is REFUSED posts REFUSED with the verdict as its code (R29, R128). -/
def State.postRefusal (s : State) (i : Slot) (reason : Reason) (data : List Byte) : State :=
  if reason = .refused then
    s.postSlot .refused i (optionCode ((s.ctx i).verdict.map Verdict.code)) data
  else s

/-- Begins a withdrawal (R29) and takes the steps that fall in its starting event (R165): step 1, for an early removal the
power step ahead of the departure (R169), and then the departure of a slot in the roster, or the power step of one that is
not. -/
def State.beginWithdrawal (s : State) (i : Slot) (reason : Reason) (dest : Destination) (early : Bool)
    (data : List Byte) : State :=
  let old := (s.ctx i).state
  let s := ((s.markWithdrawing i reason dest).postRefusal i reason data).abortWork i old
  let s := if early then s.powerStep i else s
  if s.inRoster i then s.requestDeparture i else (s.powerStep i).endIfDone i

/-- A refusal: the verdict is set and the refusal withdrawal begins (R34). -/
def State.refuseWith (s : State) (i : Slot) (v : Verdict) (data : List Byte) : State :=
  (s.setVerdict i v).beginWithdrawal i .refused .refused false data

/-! ## Faults (R39 to R44, R171, R172) -/

/-- OVERCURRENT and POWER_LOST are hard (R39). -/
def Cause.hard : Cause → Bool
  | .overcurrent | .powerLost => true
  | _ => false

/-- The fault record after a cause (R171). -/
def FaultRecord.add (f : FaultRecord) (c : Cause) : FaultRecord :=
  match f.cause with
  | none => ⟨some c, c.hard, false⟩
  | some _ => if c.hard && !f.hard then ⟨some c, true, true⟩ else { f with more := true }

/-- The cause enters the slot's record, which sets the slot's mark, and FAULT is posted (R39, R171, R172). -/
def State.recordFault (s : State) (i : Slot) (c : Cause) : State :=
  (s.modCtx i fun x => { x with faultRecord := x.faultRecord.add c }).postSlot .fault i c.code []

/-- A soft fault in RAMPING or an active state (R41, R42). -/
def State.softFault (s : State) (i : Slot) : State :=
  let n := (s.ctx i).attempts + 1
  let s := s.modCtx i fun c => { c with attempts := min n 3 }
  s.beginWithdrawal i .fault (if n < s.params.maxAttempts then .settling else .quarantined) false []

/-- A block reports a fault to the sequencer: it is recorded and posted in whatever state it arrives, begins a withdrawal in
an active state (R41, R43), and in WITHDRAWING raises the destination if it is hard (R44). -/
def State.reportFault (s : State) (i : Slot) (c : Cause) : State :=
  let s := s.recordFault i c
  if (s.ctx i).state.active then
    if c.hard then s.beginWithdrawal i .fault .quarantined false [] else s.softFault i
  else if (s.ctx i).state = .withdrawing ∧ c.hard = true then
    s.modCtx i fun x => { x with destination := some .quarantined }
  else s

/-! ## Removals (R26 to R28) -/

/-- The skip mark of a roster slot is set (R158). -/
def State.setSkip (s : State) (i : Slot) : State :=
  s.modScan i fun c => { c with skip := c.skip.map fun _ => true }

/-- A card's contact state has left SEATED; the slot's copied contact state is already the new one (R26 to R28, R178). -/
def State.removeCard (s : State) (i : Slot) (contact : ContactState) : State :=
  match (s.ctx i).state with
  | .disabled | .vacant => s
  | .settling | .refused | .quarantined => (s.enterEmpty i .vacant).postSlot .removed i contact.code []
  | .withdrawing => ((s.postSlot .removed i contact.code []).powerStep i).setSkip i
  | _ =>
    let early := (s.railOf i).closed
    ((s.postSlot .removed i contact.code []).setSkip i).beginWithdrawal i
      (if early then .earlyRemoval else .removed) .settling early []

/-- A SEATED report; the slot's copied contact state is already SEATED (R25, R178). -/
def State.seatCard (s : State) (i : Slot) (cls : InrushClass) : State :=
  match (s.ctx i).state with
  | .vacant =>
    if s.safeOff then s
    else (s.enterSettling i s.settleUs).postSlot .inserted i 0 [byteOf cls.val]
  | .withdrawing =>
    (s.modCtx i fun c => { c with inrushClass := some cls }).postSlot .inserted i 0 [byteOf cls.val]
  | _ => s

end Sys2Proof.Machine
end

