-- ==== Sys2Proof/Machine/Cycle.lean ====
section
/-! DEFINITION. The scan engine's shared operations: splices, the boundary, the order of a cycle's exchanges and the end of a
STOPPING cycle (Section 8). -/

namespace Sys2Proof.Machine

open Sys2Proof

/-- Changes the rack-wide state of the scan engine. -/
def State.modScanRack (s : State) (f : Scan → Scan) : State := { s with scan := f s.scan }

/-! ## Splices (R151 to R154) -/

/-- A JOIN is applied: the slot enters the roster and becomes ONLINE with its counts at 0, ONLINE is posted with the cycle
counter, and its detector starts to watch (R38, R153). -/
def State.applyJoin (s : State) (i : Slot) : State :=
  let s := s.modScan i fun c => { c with splice := none, skip := some false }
  let s := (s.setState i .online).modCtx i fun c => { c with attempts := 0, missCount := some 0 }
  (s.postSlot .online i 0 (be32 s.scan.cycle.toNat)).startDetector i .watch

/-- The slots with a pending splice of a kind. -/
def State.pendingSplices (s : State) (k : SpliceKind) : List Slot :=
  s.slotsWith fun r => r.scan.splice == some k

/-- Every pending LEAVE is applied. DESIGN CHOICE: in ascending slot order (log entry 5). -/
def State.applyLeaves (s : State) : State := (s.pendingSplices .leave).foldl State.depart s

/-- Every pending JOIN is applied, unless the rack is FROZEN (R152). DESIGN CHOICE: in ascending slot order (log entry 5). -/
def State.applyJoins (s : State) : State :=
  if s.clock.frozen then s else (s.pendingSplices .join).foldl State.applyJoin s

/-- The LEAVEs and then the JOINs (R150 step 1, R152). -/
def State.applySplices (s : State) : State := s.applyLeaves.applyJoins

/-- A JOIN is taken into the splice list, and applied at once while the scan is STOPPED and the rack is not FROZEN (R152). -/
def State.takeJoin (s : State) (i : Slot) : State :=
  let s := s.modScan i fun c => { c with splice := some .join }
  if s.scan.state = .stopped ∧ s.clock.frozen = false then s.applyJoin i else s

/-! ## Exchanges (R155, R158, R159) -/

/-- The end of an exchange that carries RELEASE: the leaving field becomes LEAVE_PENDING and a LEAVE is taken in (R159). -/
def State.endMarker (s : State) (i : Slot) : State :=
  if (s.scanOf i).marker = some .release then s.queueLeave i else s

/-- The input bytes that a slot's card declares (R135). -/
def State.declaredInputs (s : State) (i : Slot) : Nat :=
  ((s.ctx i).identity.map fun d => d.declared .input).getD 0

/-- The part's data lane frame for a slot (8.5): slot number, marker, the snapshot's output bytes and check value. -/
def State.exchangeFrame (s : State) (i : Slot) : List Byte :=
  let r := s.scanOf i
  let covered := [byteOf i.val, (r.marker.getD .normal).code] ++ r.snapshot.getD []
  covered ++ crcTail covered

/-- An exchange as it begins (R155): its frame and the count that ends its reply are fixed here. -/
def State.newExchange (s : State) (i : Slot) : Exchange := ⟨i, .sending, false, s.exchangeFrame i, s.declaredInputs i⟩

/-- The exchanges of the slots given, ascending: a slot whose skip mark is SET is SKIPPED and its exchange ends at once
(R158); the first other slot's exchange begins (R155). -/
def State.runExchanges : List Slot → State → State
  | [], s => s.modScanRack fun c => { c with remaining := [] }
  | i :: rest, s =>
    if (s.scanOf i).skip = some true then State.runExchanges rest (s.endMarker i)
    else s.modScanRack fun c => { c with exchange := some (s.newExchange i), remaining := rest }

/-- Every exchange of the cycle has ended (R149); a discarded exchange belongs to no cycle (R164). -/
def State.exchangesEnded (s : State) : Bool :=
  s.scan.exchange.all Exchange.discarded && s.scan.remaining.isEmpty

/-- A slot's snapshot and marker at a boundary (R150 step 3, R159), with its declared output bytes. -/
def State.snapSlot (s : State) (i : Slot) : State :=
  let c := s.ctx i
  let n := (c.identity.map fun d => d.declared .output).getD 0
  let bytes := c.outWindow.map fun _ => s.readWindow i .output 0 n
  s.modScan i fun r =>
    { r with
      snapshot := bytes
      marker := some (if c.leaving = some .releasePending then .release else .normal) }

/-- CYCLE_PERIOD as the period timer takes it (R150 step 4). -/
def Scan.startPeriod (c : Scan) (us : Nat) : Scan := { c with period := .running us }

/-- The boundary (R150): splices, counter, snapshot, timer, exchanges. DESIGN CHOICE: an exchange that RESTART or SAFE OFF
has discarded holds the data lane, and the cycle's exchanges wait for its end (log entry 6). -/
def State.boundary (s : State) : State :=
  let s := s.applySplices
  let s := s.modScanRack fun c => { c with cycle := c.cycle + 1 }
  let s := s.roster.foldl State.snapSlot s
  let s := s.modScanRack fun c => c.startPeriod s.params.cyclePeriod
  if s.scan.exchange.isSome then s.modScanRack fun c => { c with remaining := s.roster }
  else State.runExchanges s.roster s

/-- A slot whose leaving field is RELEASE_PENDING when the scan becomes STOPPED has no further cycle: its LEAVE is taken in
without a RELEASE exchange (R159). -/
def State.dropRelease (s : State) (i : Slot) : State :=
  if (s.ctx i).leaving = some .releasePending ∧ s.inRoster i = true then s.queueLeave i else s

/-- The scan becomes STOPPED and the waiting splices are applied (R148, R152). -/
def State.becomeStopped (s : State) : State :=
  let s := s.modScanRack fun c => { c with state := .stopped, period := .idle }
  (allSlots.foldl State.dropRelease s).applySplices

/-- SCAN_OVERRUN is offered with the number of the cycle that overran (R149). DESIGN CHOICE: ahead of the notices of the
boundary's splices (log entry 7). -/
def State.offerOverrun (s : State) : State := s.postRack .scanOverrun 0 (be32 s.scan.cycle.toNat)

/-- What the end of the cycle's last exchange brings: in STOPPING the scan becomes STOPPED (R148); in RUNNING an overrun
cycle's boundary is taken (R149). -/
def State.settleCycle (s : State) : State :=
  if s.exchangesEnded then
    match s.scan.state with
    | .stopping => s.becomeStopped
    | .running => if s.scan.period = .expired then s.offerOverrun.boundary else s
    | .stopped => s
  else s

/-- The exchange on the lane has ended and its outcome has been applied: its marker takes effect (R159), the next exchange
begins (R155), and the cycle may end. -/
def State.endExchange (s : State) (i : Slot) : State :=
  let s := (s.endMarker i).modScanRack fun c => { c with exchange := none }
  (State.runExchanges s.scan.remaining s).settleCycle

/-- A discarded exchange ends: nothing is written and nothing changes but the lane (R164). -/
def State.endDiscarded (s : State) : State :=
  let s := s.modScanRack fun c => { c with exchange := none }
  (State.runExchanges s.scan.remaining s).settleCycle

/-- The exchange of a slot ends OK (R156). -/
def State.exchangeOk (s : State) (i : Slot) (inputs : List Byte) : State :=
  (s.writeWindow i .input 0 inputs).modCtx i fun c =>
    { c with
      inputQuality := some .fresh
      missCount := if c.state = .online then some 0 else c.missCount }

/-- The input policy of a failed exchange (R157). -/
def State.applyInputPolicy (s : State) (i : Slot) : State :=
  match (s.ctx i).inputPolicy with
  | .hold => s.modCtx i fun c => { c with inputQuality := some .held }
  | .zero => (s.zeroWindow i .input).modCtx i fun c => { c with inputQuality := some .zeroed }

/-- A failed exchange of an ONLINE slot counts a miss and may report EXCHANGE_LOST (R157, R163). -/
def State.countMiss (s : State) (i : Slot) : State :=
  if (s.ctx i).state = .online then
    let n := min Config.runMax ((s.ctx i).missCount.getD 0 + 1)
    let s := s.modCtx i fun c => { c with missCount := some n }
    if s.params.missLimit ≤ n then s.reportFault i .exchangeLost else s
  else s

/-- A failed exchange (R157), or one taken as SKIPPED because the card was removed while it was on the lane (R158). -/
def State.exchangeFailed (s : State) (i : Slot) : State :=
  if (s.scanOf i).skip = some true then s else (s.applyInputPolicy i).countMiss i

end Sys2Proof.Machine
end

