-- ==== Sys2Proof/Machine/Admission.lean ====
section
/-! DEFINITION. The shared operations of an admission: the directory's lookup, learning and ageing (Section 6), the steady
check (R70), the verdict (R34), and scan time and windows at a qualification pass (R37). -/

namespace Sys2Proof.Machine

open Sys2Proof

/-! ## The directory -/

/-- The lowest index whose entry meets a test. -/
def State.findEntry (s : State) (p : Entry → Bool) : Option EntryIndex :=
  allIndexes.find? fun k => p (s.entry k)

/-- The entry that is not FREE and has a key (R112, R120). -/
def State.findKey (s : State) (key : EntryKey) : Option EntryIndex :=
  s.findEntry fun e => e.body.any fun b => b.key == key

/-- The FREE entry with the lowest index (R117, R126). -/
def State.findFree (s : State) : Option EntryIndex := s.findEntry fun e => e.body.isNone

/-- Lookup: PLACED, then EXACT, then KIND, then VENDOR; the first type for which an entry exists gives the match (R123). -/
def State.lookupEntry (s : State) (i : Slot) (d : Identity) : Option EntryIndex :=
  (s.findKey (.placed d.vendor d.kind i)).or
    ((s.findKey (.exact d.vendor d.kind d.revision)).or
      ((s.findKey (.kind d.vendor d.kind)).or (s.findKey (.vendor d.vendor))))

/-- The verdict from a matched entry (R124). -/
def EntryBody.verdict (b : EntryBody) (i : Slot) (policy : Policy) : Verdict :=
  if b.action = .deny then .deny
  else if b.pinSlot.any (fun p => p != i) then .wrongSlot
  else if b.action = .park then .park
  else if policy = .hold ∧ b.service = false then .park
  else .admitCard

/-- ADMIT, ADMIT_LEARNED and ADMIT_UNLEARNED move the slot on to QUALIFYING (R34). -/
def Verdict.admits : Verdict → Bool
  | .admitCard | .admitLearned | .admitUnlearned => true
  | _ => false

/-- The verdicts for which the steady check is made (R34 step 2). -/
def Verdict.takesCard (v : Verdict) : Bool := v.admits || v == .park

/-- The data of the REFUSED notice that a matched entry's verdict brings (R128). -/
def EntryBody.refusalData (b : EntryBody) (k : EntryIndex) : Verdict → List Byte
  | .deny => [byteOf k.val]
  | .wrongSlot => [byteOf k.val, slotCode b.pinSlot]
  | _ => []

/-- A LEARNED entry is SEEN at a lookup that matches it, whatever the verdict (R124). -/
def EntryBody.see (b : EntryBody) : EntryBody :=
  match b.origin with
  | .static => b
  | .learned _ => { b with origin := .learned .seen }

/-- The entry that learning writes (R126). -/
def learnedBody (d : Identity) : EntryBody :=
  ⟨.exact d.vendor d.kind d.revision, .admitCard, .learned .fresh, none, false, none⟩

/-- What step 1 of the verdict steps hands the sequencer (R127): the verdict, the match to store, the matched entry's
reserve, and the data of a refusal. -/
structure LookupResult where
  verdict : Verdict
  matched : Option EntryIndex
  reserve : Nat
  data : List Byte
deriving DecidableEq, Repr

/-- The directory's judgement from a matched entry (R124, R127). -/
def State.judgeMatch (s : State) (i : Slot) (k : EntryIndex) (b : EntryBody) : State × LookupResult :=
  let v := b.verdict i (s.ctx i).policy
  let s := s.modEntry k fun e => { e with body := some b.see }
  (s, ⟨v, if v.takesCard then some k else none, b.reserve.getD 0, b.refusalData k v⟩)

/-- Learning (R126): a new EXACT entry in the lowest FREE one, or admission without an entry where none is FREE. -/
def State.learn (s : State) (i : Slot) (d : Identity) : State × LookupResult :=
  match s.findFree with
  | some k =>
    let s := s.modEntry k fun _ => ⟨some (learnedBody d), 0⟩
    (s.postSlot .learned i 0 [byteOf k.val], ⟨.admitLearned, some k, 0, []⟩)
  | none => (s.postSlot .learned i 1 [], ⟨.admitUnlearned, none, 0, []⟩)

/-- The directory's judgement where no entry describes the card (R125). A slot whose policy is OFF is not looked up (R47);
for such a state the model answers as for ADMIT. -/
def State.judgeNoMatch (s : State) (i : Slot) (d : Identity) : State × LookupResult :=
  match (s.ctx i).policy with
  | .hold => (s, ⟨.park, none, 0, []⟩)
  | .learn => if s.mode = .commission then s.learn i d else (s, ⟨.unknown, none, 0, []⟩)
  | _ => (s, ⟨.unknown, none, 0, []⟩)

/-- Step 1 of the verdict steps (R34, R123 to R127). -/
def State.consultDirectory (s : State) (i : Slot) (d : Identity) : State × LookupResult :=
  match s.lookupEntry i d with
  | none => s.judgeNoMatch i d
  | some k =>
    match (s.entry k).body with
    | none => s.judgeNoMatch i d
    | some b => s.judgeMatch i k b

/-- One entry at an ageing sweep: an unused FRESH entry becomes FREE (R130). -/
def Entry.age (e : Entry) : Entry :=
  match e.body with
  | none => e
  | some b =>
    match b.origin with
    | .static => e
    | .learned a =>
      if 0 < e.users then { e with body := some { b with origin := .learned .seen } }
      else if a = .seen then { e with body := some { b with origin := .learned .fresh } }
      else Entry.free

/-- One visit of an ageing sweep: AGED_OUT is posted for an entry that it frees (R130). -/
def State.ageEntry (s : State) (k : EntryIndex) : State :=
  let freed := (s.entry k).body.isSome && (s.entry k).age.body.isNone
  let s := s.modEntry k Entry.age
  if freed then s.postRack .agedOut 0 [byteOf k.val] else s

/-- An ageing sweep, in ascending index order (R130). -/
def State.sweep (s : State) : State := allIndexes.foldl State.ageEntry s

/-- The entries that a sweep would free now (R131). -/
def State.sweepFrees (s : State) : Nat :=
  (allIndexes.filter fun k => (s.entry k).body.isSome && (s.entry k).age.body.isNone).length

/-! ## The verdict (R34, R70) -/

/-- A card's steady units (R70). -/
def steadyUnits (declared reserve : Nat) : Nat := (max declared reserve + 24) / Config.railUnitMa

/-- The steady check of R70, for a slot whose verdict takes the card: on a pass the card's units replace the provisional
figure and the arbiter evaluates if Cs fell; on a failure the verdict becomes NO_POWER and the match is dropped (R34). -/
def State.steadyCheck (s : State) (i : Slot) (units : Nat) : State :=
  let held := (s.ctx i).steadyCommitted
  if s.cs - held + units ≤ s.rail.effective then
    let s := s.modCtx i fun c => { c with steadyCommitted := units }
    if units < held then s.arbitrate else s
  else (s.setVerdict i .noPower).dropMatch i

/-- Step 3 of the verdict steps: QUALIFYING, PARKED, or a refusal withdrawal (R34). -/
def State.followVerdict (s : State) (i : Slot) (v : Verdict) (data : List Byte) : State :=
  if v.admits then (s.setState i .qualifying).startDetector i .qualify
  else if v = .park then (s.setState i .parked).postSlot .parked i 0 []
  else s.beginWithdrawal i .refused .refused false data

/-- The verdict on a valid identity, all within the event of the identity completion (R34). The steady check is not made
for a class 0 card. -/
def State.decideVerdict (s : State) (i : Slot) (d : Identity) : State :=
  let p := s.consultDirectory i d
  let r := p.2
  let s := p.1.setVerdict i r.verdict
  let s := match r.matched with
    | none => s
    | some k => s.storeMatch i k
  let s :=
    if r.verdict.takesCard && (s.ctx i).inrushClass.getD 0 != 0 then
      s.steadyCheck i (steadyUnits d.steadyCurrent.toNat r.reserve)
    else s
  s.followVerdict i ((s.ctx i).verdict.getD r.verdict) r.data

/-- An identity read ended in a record (R33, R86): the identity is stored either way, and an invalid one is refused
BAD_RECORD. -/
def State.identityRead (s : State) (i : Slot) (d : Identity) : State :=
  let s := s.modCtx i fun c => { c with identity := some d }
  if d.valid then s.decideVerdict i d else s.refuseWith i .badRecord []

/-! ## Scan time and windows at a qualification pass (R37) -/

/-- A card's scan cost in ns (R161). -/
def Identity.cost (d : Identity) : Nat := 4000 + 320 * (d.declared .input + d.declared .output)

/-- `n` rounded up to a multiple of 50. -/
def roundUp50 (n : Nat) : Nat := (n + 49) / 50 * 50

/-- The minimum period in µs that a load needs at a fill (R161, R162). -/
def minimumPeriod (load fill : Nat) : Nat :=
  max 250 (roundUp50 ((load + (10 * fill - 1)) / (10 * fill)))

/-- The reserve of an image in segments (R137). -/
def State.reserveOf (s : State) : ImageId → Nat
  | .input => s.params.imageReserveIn
  | .output => s.params.imageReserveOut

/-- The place an image can give a need, if it can be served: first fit under the reserve test (R136 stage 1, R137). A need
of 0 asks for no place. -/
def State.placeIn (s : State) (i : Slot) (g : ImageId) (need : Nat) : Option (Nat × List Extent) :=
  if s.serviceCard i || decide (s.reserveOf g + need ≤ (s.image g).freeTotal) then carve need (s.image g).free
  else none

/-- The four bytes of a NO_ROOM refusal (R138). -/
def State.noRoomData (s : State) (g : ImageId) (need : Nat) : List Byte :=
  [g.code, byteOf (s.image g).freeTotal, byteOf (s.image g).largest, byteOf need]

/-- The image can be served: a need of 0 always can (R136). -/
def State.canServe (s : State) (i : Slot) (g : ImageId) (need : Nat) : Bool :=
  need == 0 || (s.placeIn i g need).isSome

/-- Places one window that the card needs and sets its bytes to 0 (R136 stage 2, R139). A QUALIFYING slot holds no window (R140);
a state in which it did is no state of the part, and there the old window goes back to the free list, so that the allocation
keeps R134's count whatever the state. -/
def State.placeWindow (s : State) (i : Slot) (g : ImageId) (need : Nat) : State :=
  if need = 0 then s
  else
    match s.placeIn i g need with
    | none => s
    | some (start, rest) =>
      let s := (s.setImage g { s.image g with free := rest }).releaseWindow i g
      (s.modCtx i fun c => c.setWindow g (some ⟨start, need⟩)).zeroWindow i g

/-- A slot's windows are placed, OUT zeroed first and then IN, and its input quality becomes NONE (R136, R139). -/
def State.placeWindows (s : State) (i : Slot) (nIn nOut : Nat) : State :=
  ((s.placeWindow i .output nOut).placeWindow i .input nIn).modCtx i fun c => { c with inputQuality := some .none }

/-- A qualification pass (R37, R100): the detector stops, then scan time and windows are asked for in that order. -/
def State.qualificationPass (s : State) (i : Slot) : State :=
  let s := s.stopDetector i
  match (s.ctx i).identity with
  | none => s
  | some d =>
    if s.load + d.cost ≤ s.budget then
      let nIn := segmentsFor (d.declared .input)
      let nOut := segmentsFor (d.declared .output)
      if !s.canServe i .input nIn then s.refuseWith i .noRoom (s.noRoomData .input nIn)
      else if !s.canServe i .output nOut then s.refuseWith i .noRoom (s.noRoomData .output nOut)
      else
        let s := s.modScan i fun c => { c with cost := some d.cost }
        (((s.placeWindows i nIn nOut).setState i .spliceWait)).takeJoin i
    else
      s.refuseWith i .noScanTime (be16 (minimumPeriod (s.load + d.cost) s.params.fillPercent))

end Sys2Proof.Machine
end

