-- ==== Sys2Proof/Machine/ClockEvents.lean ====
section
/-! DEFINITION. The events of the clock qualifier (Section 5): reference edges and card clock edges, the three checkpoints of
a span, and the expiries of the qualification, grace, watch and return timers. -/

namespace Sys2Proof.Machine

open Sys2Proof

/-! ## Edges (R95, R104, R106) -/

/-- The checkpoint that falls at a span position (R95). -/
def checkpointAt (position : Nat) : Option Checkpoint :=
  if position = 16 then some .after16
  else if position = 32 then some .after32
  else if position = 64 then some .after64
  else none

/-- An edge of REF_IN at a detector (R94, R95): the first edge begins a waiting span; each later one ends a period. At a
checkpoint the edge count is taken as it stands, and at the 64th period a new span begins. -/
def Detector.refEdge (d : Detector) : Detector :=
  if d.run ≠ .running then d
  else if d.awaitingEdge then { d with awaitingEdge := false, spanPosition := 0, edgeCount := 0, due := none }
  else
    let p := d.spanPosition + 1
    let due := match checkpointAt p with
      | none => d.due
      | some c => some ⟨c, d.edgeCount⟩
    if p = 64 then { d with spanPosition := 0, edgeCount := 0, due := due }
    else { d with spanPosition := p, due := due }

/-- An edge of CLK_RET at a detector: counted in a span, up to 1023 (R95). -/
def Detector.clkEdge (d : Detector) : Detector :=
  if d.run = .running ∧ d.awaitingEdge = false then { d with edgeCount := min Config.edgeCountMax (d.edgeCount + 1) }
  else d

/-- The watch time (R104). -/
def State.watchUs (s : State) : Nat := s.params.refTimeout * Config.watchStepUs

/-- An edge of REF_IN at the reference watch (R104, R106): the first edge after the watch timer has expired starts the return
timer while REF_LOST holds, and every edge reloads the watch timer. -/
def Clock.refEdge (c : Clock) (watchUs : Nat) : Clock :=
  { c with
    returnTimer := if c.refLost ∧ c.watchTimer = none then some Config.returnUs else c.returnTimer
    watchTimer := some watchUs }

/-- An edge of REF_IN (R94, R95, R104, R106). -/
def State.refEdge (s : State) : State :=
  { s.mapSlots fun r => { r with detector := r.detector.refEdge } with clock := s.clock.refEdge s.watchUs }

/-! ## Checkpoints (R96 to R99) -/

/-- The edge count taken at a checkpoint of a RUNNING detector that is due and not judged yet. -/
def Detector.dueCount (d : Detector) (p : Checkpoint) : Option Nat :=
  match d.run, d.due with
  | .running, some c => if c.point = p then some c.count else none
  | _, _ => none

/-- A checkpoint has been judged. -/
def Detector.judged (d : Detector) : Detector := { d with due := none }

/-- The checkpoint after 16 periods (R97). -/
def State.checkpoint16 (s : State) (i : Slot) (count : Nat) : State :=
  let duty := (s.det i).duty
  let s := s.modDet i Detector.judged
  if count = 0 then
    match duty with
    | some .qualify => s.reportFault i .qualNoClock
    | some .watch => s.reportFault i .lockLost
    | none => s
  else s

/-- The detector after a coarse comparison: a match with duty WATCH ends the grace (R98, R107). -/
def Detector.coarseResult (d : Detector) (ok : Bool) : Detector :=
  { d.judged with coarse := ok, graceTimer := if ok then none else d.graceTimer }

/-- The checkpoint after 32 periods (R98, R107). -/
def State.checkpoint32 (s : State) (i : Slot) (count : Nat) : State :=
  let d := s.det i
  let ok := countMatches s.params.lockTolerance count (d.expected.getD ⟨0, 0, 0⟩).e32
  let s := s.modDet i fun x => x.coarseResult ok
  if ok = false ∧ d.duty = some .watch ∧ d.graceTimer = none then s.reportFault i .lockLost else s

/-- The detector after a fine comparison (R99). -/
def Detector.fineResult (d : Detector) (ok : Bool) : Detector :=
  { d.judged with fine := ok, fineRun := if ok then min Config.runMax (d.fineRun + 1) else 0 }

/-- The checkpoint after 64 periods (R99, R100, R102). -/
def State.checkpoint64 (s : State) (i : Slot) (count : Nat) : State :=
  let d := s.det i
  let e64 := (d.expected.getD ⟨0, 0, 0⟩).e64
  let ok := countMatches s.params.lockTolerance count e64
  let s := s.modDet i fun x => x.fineResult ok
  match d.duty with
  | some .qualify => if s.params.qualRun ≤ (s.det i).fineRun then s.qualificationPass i else s
  | some .watch =>
    if ok = false ∧ d.coarse = true then s.postSlot .lockWarn i 0 (be16 count ++ be16 e64) else s
  | none => s

/-! ## Loss and return of the reference (R105, R106) -/

/-- A running qualification timer is paused with its time (R105). -/
def QualTimer.pause : QualTimer → QualTimer
  | .running us => .paused us
  | t => t

/-- A paused qualification timer resumes with its time (R106). -/
def QualTimer.resume : QualTimer → QualTimer
  | .paused us => .running us
  | t => t

/-- A detector at the loss of the reference (R105): the span is discarded, the flags and the fine run are held, the
qualification timer is paused and the grace timer cancelled. -/
def Detector.loseReference (d : Detector) : Detector :=
  let d := { d with qualTimer := d.qualTimer.pause, graceTimer := none }
  match d.run with
  | .running => { d with run := .paused, spanPosition := 0, edgeCount := 0, awaitingEdge := true, due := none }
  | _ => d

/-- A detector at the return of the reference (R106): a PAUSED one runs with a fresh span at the next edge, and one with duty
WATCH gets a grace timer. -/
def Detector.regainReference (qualUs : Nat) (d : Detector) : Detector :=
  let d := { d with
    qualTimer := d.qualTimer.resume
    graceTimer := if d.duty = some Duty.watch then some qualUs else d.graceTimer }
  match d.run with
  | .paused =>
    { d with
      run := .running, spanPosition := 0, edgeCount := 0, awaitingEdge := true, due := none
      coarse := false, fine := false, fineRun := 0 }
  | _ => d

/-- The reference is lost (R105). -/
def State.loseReference (s : State) : State :=
  let s := { s with clock := { s.clock with refLost := true, frozen := true } }
  let s := s.postRack .refLost 0 []
  { s.mapSlots fun r => { r with detector := r.detector.loseReference } with
    marks := { s.marks with refLost := true } }

/-- The reference is back (R106); FROZEN stays. -/
def State.regainReference (s : State) : State :=
  let s := { s with clock := { s.clock with refLost := false, returnTimer := none } }
  let s := s.postRack .refBack 0 []
  s.mapSlots fun r => { r with detector := r.detector.regainReference s.qualUs }

/-! ## The commands -/

/-- LOCK_CHECKPOINT_16 (R97): taken while that checkpoint is due. -/
def execLockCheckpoint16 (slot : Slot) (s : State) : Host.Outcome State Fault Refusal :=
  .next <|
    match (s.det slot).dueCount .after16 with
    | some n => s.checkpoint16 slot n
    | none => s

/-- LOCK_CHECKPOINT_32 (R98): taken while that checkpoint is due. -/
def execLockCheckpoint32 (slot : Slot) (s : State) : Host.Outcome State Fault Refusal :=
  .next <|
    match (s.det slot).dueCount .after32 with
    | some n => s.checkpoint32 slot n
    | none => s

/-- LOCK_CHECKPOINT_64 (R99): taken while that checkpoint is due. -/
def execLockCheckpoint64 (slot : Slot) (s : State) : Host.Outcome State Fault Refusal :=
  .next <|
    match (s.det slot).dueCount .after64 with
    | some n => s.checkpoint64 slot n
    | none => s

/-- QUALIFICATION_TIMER_EXPIRY (R101): taken while the timer runs; a paused timer cannot expire. -/
def execQualificationTimerExpiry (slot : Slot) (s : State) : Host.Outcome State Fault Refusal :=
  .next <|
    match (s.det slot).qualTimer with
    | .running _ => (s.modDet slot fun d => { d with qualTimer := .idle }).reportFault slot .qualTimeout
    | _ => s

/-- GRACE_TIMER_EXPIRY (R107): taken while the timer runs. -/
def execGraceTimerExpiry (slot : Slot) (s : State) : Host.Outcome State Fault Refusal :=
  .next <|
    if (s.det slot).graceTimer.isSome then
      (s.modDet slot fun d => { d with graceTimer := none }).reportFault slot .lockLost
    else s

/-- WATCH_TIMER_EXPIRY (R105): taken while the timer runs. -/
def execWatchTimerExpiry (s : State) : Host.Outcome State Fault Refusal :=
  .next <|
    if s.clock.watchTimer.isSome then
      let s := { s with clock := { s.clock with watchTimer := none } }
      if s.clock.refLost then { s with clock := { s.clock with returnTimer := none } } else s.loseReference
    else s

/-- REFERENCE_RETURN_EDGE (R106): an edge of REF_IN after the watch timer has expired. -/
def execReferenceReturnEdge (s : State) : Host.Outcome State Fault Refusal := .next s.refEdge

/-- RETURN_TIMER_EXPIRY (R106): taken while the timer runs. -/
def execReturnTimerExpiry (s : State) : Host.Outcome State Fault Refusal :=
  .next (if s.clock.returnTimer.isSome then s.regainReference else s)

/-- REFERENCE_EDGE (R94, R95, R104): an edge of REF_IN. -/
def execReferenceEdge (s : State) : Host.Outcome State Fault Refusal := .next s.refEdge

/-- CLK_RET_EDGE (R95). -/
def execClkRetEdge (slot : Slot) (s : State) : Host.Outcome State Fault Refusal :=
  .next (s.modDet slot Detector.clkEdge)

end Sys2Proof.Machine
end

