-- ==== Sys2Proof/Machine/LaneEvents.lean ====
section
/-! DEFINITION. The events of the lane controller (Section 4): the card's acknowledgement, the ends of a transaction, the
lane's timers, and a card message. -/

namespace Sys2Proof.Machine

open Sys2Proof

/-! ## The ends of a transaction -/

/-- A transaction's end that leaves the read going, or the end of an orphaned one (R89): the lane goes to `st`, and R80 is
tested. DESIGN CHOICE: at a return to IDLE the waiting opening falls within this event, as R78 has it, so that a card
message, which R81 and R85 allow ahead of it, is never taken between the two (log entry 33). -/
def State.closeTransaction (s : State) (st : LaneState) : State := (s.modLane fun l => l.endTransaction st).tryOpen

/-- A read ends in a fault (R87): the lane has already left PART_BUSY, the head leaves the queue, the fault is reported, and
R80 is tested for the new head. -/
def State.failRead (s : State) (i : Slot) (c : Cause) : State :=
  ((s.modLane Lane.dropHead).reportFault i c).tryOpen

/-- NO_ANSWER (R82). -/
def State.noAnswer (s : State) (t : Transaction) : State :=
  if t.orphaned then s.closeTransaction .idle
  else
    let s := s.modLane fun l => { l.endTransaction .idle with tries := l.tries + 1 }
    if s.lane.tries < Config.maxTries then s.modLane fun l => { l with retryGap := some Config.retryGapUs }
    else s.failRead t.slot .idNoAnswer

/-- TIMEOUT (R83): the lane recovers before any other transaction is opened. -/
def State.transactionTimeout (s : State) (t : Transaction) : State :=
  if t.orphaned then s.modLane Lane.recover
  else
    let s := s.modLane fun l => { l.recover with tries := l.tries + 1 }
    if s.lane.tries < Config.maxTries then s else s.failRead t.slot .idTimeout

/-- The lane goes to CARD_BUSY to receive a message (R90). -/
def Lane.beginMessage (l : Lane) : Lane :=
  { l.endTransaction .cardBusy with holdTimer := some Config.holdUs, message := some [] }

/-- LOST (R84): a message has begun in the START phase. -/
def State.transactionLost (s : State) (t : Transaction) : State :=
  if t.orphaned then s.modLane Lane.beginMessage
  else
    let s := s.modLane fun l => { l.beginMessage with lost := l.lost + 1 }
    if s.lane.lost < Config.maxLost then s else s.failRead t.slot .laneBusy

/-- DONE or CHECK (R85, R86). -/
def State.transferComplete (s : State) (t : Transaction) (record : Vector Byte 32) : State :=
  if t.orphaned then s.closeTransaction .idle
  else if recordChecks record then
    ((s.modLane fun l => (l.endTransaction .idle).dropHead).identityRead t.slot (identityOfRecord record)).tryOpen
  else if s.lane.checkUsed then (s.modLane fun l => l.endTransaction .idle).failRead t.slot .idCheck
  else (s.modLane fun l => { l with checkUsed := true }).closeTransaction .idle

/-! ## Card messages (R90, R91) -/

/-- A received message is accepted (R91): its length is 1 to 8, its check value agrees, and its sender is an ONLINE slot. -/
def State.messageSender (s : State) (sender length : Byte) (data : List Byte) (check : HWord) : Option Slot :=
  if length.toNat = 0 ∨ 8 < length.toNat ∨ data.length ≠ length.toNat ∨ crc16 (sender :: length :: data) ≠ check then
    none
  else
    match slotOf sender with
    | none => none
    | some i => if (s.ctx i).state = .online then some i else none

/-- A received message is judged (R91): CARD_MESSAGE for an accepted one, and nothing for a discarded one. -/
def State.judgeMessage (s : State) (sender length : Byte) (data : List Byte) (check : HWord) : State :=
  match s.messageSender sender length data check with
  | none => s
  | some i => s.postSlot .cardMessage i 0 data

/-- A message ends: the hold timer is cancelled, the lane returns to IDLE and the message field is removed (R90). -/
def Lane.endMessage (l : Lane) : Lane := { l with state := .idle, holdTimer := none, message := none }

/-- The lane returns to IDLE from a recovery (R83). -/
def Lane.endRecovery (l : Lane) : Lane := { l with state := .idle, recoveryTimer := none }

/-! ## The commands -/

/-- CARD_ACKNOWLEDGE (R80): taken in the START phase. -/
def execCardAcknowledge (s : State) : Host.Outcome State Fault Refusal :=
  .next <|
    match s.lane.transaction with
    | some ⟨i, .start, o⟩ =>
      s.modLane fun l => { l with transaction := some ⟨i, .transfer, o⟩, acknowledgeTimer := none }
    | _ => s

/-- ACKNOWLEDGE_TIMER_EXPIRY (R82): taken in the START phase. -/
def execAcknowledgeTimerExpiry (s : State) : Host.Outcome State Fault Refusal :=
  .next <|
    match s.lane.transaction with
    | some ⟨i, .start, o⟩ => s.noAnswer ⟨i, .start, o⟩
    | _ => s

/-- IDENTITY_TRANSFER_COMPLETE (R85): taken in the TRANSFER phase. -/
def execIdentityTransferComplete (record : Vector Byte 32) (s : State) : Host.Outcome State Fault Refusal :=
  .next <|
    match s.lane.transaction with
    | some ⟨i, .transfer, o⟩ => s.transferComplete ⟨i, .transfer, o⟩ record
    | _ => s

/-- HOLD_TIMER_EXPIRY_TRANSACTION (R83): taken in either phase of a transaction. -/
def execHoldTimerExpiryTransaction (s : State) : Host.Outcome State Fault Refusal :=
  .next <|
    match s.lane.transaction with
    | some t => s.transactionTimeout t
    | none => s

/-- HOLD_TIMER_EXPIRY_MESSAGE (R92): taken in CARD_BUSY. -/
def execHoldTimerExpiryMessage (s : State) : Host.Outcome State Fault Refusal :=
  .next <|
    if s.lane.state = .cardBusy then s.modLane fun l => { l.recover with message := none } else s

/-- RECOVERY_TIMER_EXPIRY (R83, R92): taken in RECOVERING. -/
def execRecoveryTimerExpiry (s : State) : Host.Outcome State Fault Refusal :=
  .next (if s.lane.state = .recovering then (s.modLane Lane.endRecovery).tryOpen else s)

/-- RETRY_GAP_EXPIRY (R82): taken while a gap runs. -/
def execRetryGapExpiry (s : State) : Host.Outcome State Fault Refusal :=
  .next <|
    if s.lane.retryGap.isSome then (s.modLane fun l => { l with retryGap := none }).tryOpen else s

/-- CARD_MESSAGE_BEGIN (R90, R84): taken in IDLE and in the START phase; not received in any other state. -/
def execCardMessageBegin (s : State) : Host.Outcome State Fault Refusal :=
  .next <|
    match s.lane.state with
    | .idle => s.modLane Lane.beginMessage
    | .partBusy =>
      match s.lane.transaction with
      | some ⟨i, .start, o⟩ => s.transactionLost ⟨i, .start, o⟩
      | _ => s
    | _ => s

/-- CARD_MESSAGE_END (R90, R91): taken in CARD_BUSY. -/
def execCardMessageEnd (sender length : Byte) (data : List Byte) (check : HWord) (s : State) :
    Host.Outcome State Fault Refusal :=
  .next <|
    if s.lane.state = .cardBusy then
      ((s.modLane Lane.endMessage).judgeMessage sender length data check).tryOpen
    else s

end Sys2Proof.Machine
end

