-- ==== Sys2Proof/Decode.lean ====
section
/-! DEFINITION. What the part reads as a command. The rows of spec/opcode_table.json give no bits, so no table word spells a
command. The part's own decoding is that of a request frame's code, tag and body (R183, 10.8), with the encoder after it. -/

namespace Sys2Proof

/-- The command that a word of the table's bits spells: none, since no row gives bits. -/
def decodeTableWord (_nbits _w : Nat) : Option Instr := none

namespace Decode

open Sys2Proof.Machine (join16 be16)

/-- A request that the frame checks refuse (R183). -/
inductive Refused where
  | unknownRequest
  | badLength
deriving DecidableEq, Repr

/-- A request's reading: a command or a refusal. -/
abbrev Result := Except Refused Instr

/-- A body that must be empty. -/
def noBody (body : List Byte) (i : Instr) : Result :=
  match body with
  | [] => .ok i
  | _ => .error .badLength

/-- A body of one byte. -/
def oneByte (body : List Byte) (f : Byte → Instr) : Result :=
  match body with
  | [a] => .ok (f a)
  | _ => .error .badLength

/-- The entry body of 15 bytes (10.8). -/
def entryBody (body : List Byte) (f : EntryBytes → Instr) : Result :=
  match body with
  | [t, v1, v0, k1, k0, r, p, a, o, g, n, sv, e1, e0, u] =>
    .ok (f ⟨t, join16 v1 v0, join16 k1 k0, r, p, a, o, g, n, sv, join16 e1 e0, u⟩)
  | _ => .error .badLength

/-- The body of SET PARAMETER: a class row carries two values, every other id one. -/
def setParameter (tag : Byte) (body : List Byte) : Result :=
  match body with
  | [id, v1, v0] => if isClassRowId id then .error .badLength else .ok (.setParameter tag id (join16 v1 v0) none)
  | [id, v1, v0, w1, w0] =>
    if isClassRowId id then .ok (.setParameter tag id (join16 v1 v0) (some (join16 w1 w0))) else .error .badLength
  | _ => .error .badLength

def setSlotPolicy (tag : Byte) (body : List Byte) : Result :=
  match body with
  | [s, p, q, ip, tm, an] => .ok (.setSlotPolicy tag s p q ip tm an)
  | _ => .error .badLength

def locate (tag : Byte) (body : List Byte) : Result :=
  match body with
  | [s, n] => .ok (.locate tag s n)
  | _ => .error .badLength

def imageRead (tag : Byte) (body : List Byte) : Result :=
  match body with
  | [s, g, o1, o0, n] => .ok (.imageRead tag s g (join16 o1 o0) n)
  | _ => .error .badLength

def imageWrite (tag : Byte) (body : List Byte) : Result :=
  match body with
  | s :: o1 :: o0 :: data =>
    if 1 ≤ data.length ∧ data.length ≤ 64 then .ok (.imageWrite tag s (join16 o1 o0) data) else .error .badLength
  | _ => .error .badLength

def safeOff (tag : Byte) (body : List Byte) : Result :=
  match body with
  | [m1, m0] => .ok (.safeOff tag (join16 m1 m0))
  | _ => .error .badLength

/-- The request code table of 10.8, checks 1 and 2 of R183. -/
def request (code tag : Byte) (body : List Byte) : Result :=
  match code.toNat with
  | 0x01 => noBody body (.status tag)
  | 0x02 => oneByte body (.slotInfo tag)
  | 0x03 => oneByte body (.fetchNotices tag)
  | 0x04 => setParameter tag body
  | 0x05 => oneByte body (.getParameter tag)
  | 0x06 => noBody body (.restart tag)
  | 0x10 => setSlotPolicy tag body
  | 0x11 => oneByte body (.release tag)
  | 0x12 => oneByte body (.refuse tag)
  | 0x13 => oneByte body (.retry tag)
  | 0x14 => oneByte body (.withdraw tag)
  | 0x15 => locate tag body
  | 0x16 => oneByte body (.ackAlert tag)
  | 0x17 => oneByte body (.clearFault tag)
  | 0x20 => entryBody body (.directoryAdd tag)
  | 0x21 => oneByte body (.directoryDelete tag)
  | 0x22 => oneByte body (.directoryRead tag)
  | 0x23 => entryBody body (.directoryFind tag)
  | 0x24 => oneByte body (.directoryKeep tag)
  | 0x25 => noBody body (.ageSweep tag)
  | 0x30 => noBody body (.scanStart tag)
  | 0x31 => noBody body (.scanStop tag)
  | 0x32 => imageRead tag body
  | 0x33 => imageWrite tag body
  | 0x34 => noBody body (.imageMap tag)
  | 0x40 => oneByte body (.setMode tag)
  | 0x41 => noBody body (.freeze tag)
  | 0x42 => noBody body (.thaw tag)
  | 0x43 => safeOff tag body
  | _ => .error .unknownRequest

/-! ## The encoder -/

/-- A request as its frame carries it. -/
structure Frame where
  code : Byte
  tag : Byte
  body : List Byte
deriving DecidableEq, Repr

/-- An entry body as it is sent (10.8). -/
def entryBytes (b : EntryBytes) : List Byte :=
  [b.typeCode] ++ be16 b.vendor.toNat ++ be16 b.kind.toNat
    ++ [b.revision, b.placeSlot, b.action, b.origin, b.age, b.pinSlot, b.service] ++ be16 b.reserve.toNat ++ [b.users]

/-- The frame contents of a host request (10.8); none for an event of the part. -/
def encode : Instr → Option Frame
  | .status t => some ⟨0x01, t, []⟩
  | .slotInfo t s => some ⟨0x02, t, [s]⟩
  | .fetchNotices t n => some ⟨0x03, t, [n]⟩
  | .setParameter t id v w => some ⟨0x04, t, id :: be16 v.toNat ++ (w.map fun x => be16 x.toNat).getD []⟩
  | .getParameter t id => some ⟨0x05, t, [id]⟩
  | .restart t => some ⟨0x06, t, []⟩
  | .setSlotPolicy t s p q ip tm an => some ⟨0x10, t, [s, p, q, ip, tm, an]⟩
  | .release t s => some ⟨0x11, t, [s]⟩
  | .refuse t s => some ⟨0x12, t, [s]⟩
  | .retry t s => some ⟨0x13, t, [s]⟩
  | .withdraw t s => some ⟨0x14, t, [s]⟩
  | .locate t s n => some ⟨0x15, t, [s, n]⟩
  | .ackAlert t s => some ⟨0x16, t, [s]⟩
  | .clearFault t s => some ⟨0x17, t, [s]⟩
  | .directoryAdd t b => some ⟨0x20, t, entryBytes b⟩
  | .directoryDelete t k => some ⟨0x21, t, [k]⟩
  | .directoryRead t k => some ⟨0x22, t, [k]⟩
  | .directoryFind t b => some ⟨0x23, t, entryBytes b⟩
  | .directoryKeep t k => some ⟨0x24, t, [k]⟩
  | .ageSweep t => some ⟨0x25, t, []⟩
  | .scanStart t => some ⟨0x30, t, []⟩
  | .scanStop t => some ⟨0x31, t, []⟩
  | .imageRead t s g o n => some ⟨0x32, t, [s, g] ++ be16 o.toNat ++ [n]⟩
  | .imageWrite t s o d => some ⟨0x33, t, s :: be16 o.toNat ++ d⟩
  | .imageMap t => some ⟨0x34, t, []⟩
  | .setMode t m => some ⟨0x40, t, [m]⟩
  | .freeze t => some ⟨0x41, t, []⟩
  | .thaw t => some ⟨0x42, t, []⟩
  | .safeOff t m => some ⟨0x43, t, be16 m.toNat⟩
  | _ => none

end Decode

end Sys2Proof
end

