-- ==== Sys2Proof/Machine/Flags.lean ====
section
/-! DEFINITION. What the part shows: its output lines (READY, ATTN, FAULT, PWR_EN, SEL, LCK, LDA, LED and the data lane
frame), the marks, and the bodies of STATUS, SLOT INFO and IMAGE MAP (10.8). -/

namespace Sys2Proof.Machine

open Sys2Proof

/-! ## Marks and lines -/

/-- A slot's fault summary mark: set while its fault record is not empty (R172). -/
def State.slotMark (s : State) (i : Slot) : Bool := (s.ctx i).faultRecord.cause.isSome

/-- FAULT is asserted while at least one of the fifteen marks is set (R175). -/
def State.faultLine (s : State) : Bool :=
  allSlots.any s.slotMark || s.marks.refLost || s.marks.brownout || s.marks.safeOff

/-- READY is asserted while a reply is built and not consumed (R180). -/
def State.readyLine (s : State) : Bool := s.link.state == .replyReady

/-- ATTN is asserted while the queue is not empty or OVERFLOW is SET (R187). -/
def State.attnLine (s : State) : Bool := !s.notices.queue.isEmpty || s.notices.overflow

/-- PWR_EN of a slot (3.1). -/
def State.powerLine (s : State) (i : Slot) : Bool := (s.railOf i).closed

/-- SEL of a slot: asserted in PART_BUSY for the slot being read, and for no other (R78). -/
def State.selLine (s : State) (i : Slot) : Bool :=
  s.lane.state == .partBusy && s.lane.transaction.any fun t => t.slot == i

/-- LCK as the part has it: released in IDLE (R93) and for a card's message, which the card clocks (R90), driven in a recovery
(R83) and in a transaction, in which the part clocks in the record (R80). DEDUCED for both busy states (log entry 35). -/
def State.lckLine (s : State) : LineDrive :=
  match s.lane.state with
  | .idle | .cardBusy => .released
  | .partBusy | .recovering => .driven

/-- LDA as the part has it: driven while the part opens a transaction (R80), and released in IDLE (R93), in a recovery (R83),
for the card's record and for a card's message. DEDUCED for both busy states (log entry 35). -/
def State.ldaLine (s : State) : LineDrive :=
  match s.lane.state, s.lane.transaction with
  | .partBusy, some ⟨_, .start, _⟩ => .driven
  | _, _ => .released

/-- The part's data lane frame while it is being sent (R155), which RESTART and SAFE OFF do not cut off (R164). -/
def State.laneFrame (s : State) : Option (List Byte) :=
  match s.scan.exchange with
  | some ⟨_, .sending, _, frame, _⟩ => some frame
  | _ => none

/-! ## The slot indicator (R13 to R16) -/

/-- The phases of a pattern, each lit or dark with its count of samples (R13); none for OFF and STEADY. -/
def LedPattern.phases : LedPattern → List (Bool × Nat)
  | .off | .steady => []
  | .slow => [(true, 1000), (false, 1000)]
  | .double => [(true, 400), (false, 400), (true, 400), (false, 2800)]
  | .fast => [(true, 250), (false, 250)]

/-- The phases of a LOCATE display: a burst of eight on phases of 62.5 ms, and a gap of 1 s (R15). -/
def locatePhases : List (Bool × Nat) :=
  [(true, 250), (false, 250), (true, 250), (false, 250), (true, 250), (false, 250), (true, 250), (false, 250),
   (true, 250), (false, 250), (true, 250), (false, 250), (true, 250), (false, 250), (true, 250), (false, 250),
   (false, 4000)]

/-- The samples of a phase, if there is one. -/
def phaseLength (phases : List (Bool × Nat)) (phase : Nat) : Option Nat := (phases[phase]?).map Prod.snd

/-- The phase after a phase; the list repeats. -/
def nextPhase (phases : List (Bool × Nat)) (phase : Nat) : Nat := if phase + 1 < phases.length then phase + 1 else 0

/-- The state pattern lights the LED in its present phase (R13). -/
def Monitor.patternLit (m : Monitor) : Bool :=
  match m.pattern with
  | .off => false
  | .steady => true
  | p => ((p.phases[m.ledPhase]?).map Prod.fst).getD false

/-- The LED line: the LOCATE display, then the dark pulse, then the state pattern (R16). -/
def State.ledLine (s : State) (i : Slot) : Bool :=
  let m := s.mon i
  match m.locate with
  | some l => ((locatePhases[l.phase]?).map Prod.fst).getD false
  | none => if m.darkPulse.isSome then false else m.patternLit

/-! ## Reply bodies (10.8) -/

/-- A sum of flag bits. -/
def bit (b : Bool) (weight : Nat) : Nat := if b then weight else 0

/-- The rack flags of STATUS: REF_LOST, FROZEN, SAFE_OFF, SAG, BROWNOUT from bit 0 (10.8). -/
def State.rackFlags (s : State) : Byte :=
  byteOf (bit s.clock.refLost 1 + bit s.clock.frozen 2 + bit s.safeOff 4 + bit s.rail.sag 8 + bit s.rail.brownout 16)

/-- The rack marks as the reply to CLEAR FAULT carries them: REF_LOST, BROWNOUT, SAFE_OFF from bit 0 (10.8). -/
def RackMarks.byte (m : RackMarks) : Byte :=
  byteOf (bit m.refLost 1 + bit m.brownout 2 + bit m.safeOff 4)

/-- The STATUS body, 39 bytes (R185, 10.8). -/
def State.statusBody (s : State) : List Byte :=
  [s.mode.code, s.rackFlags, s.scan.state.code] ++ be32 s.scan.cycle.toNat
    ++ be16 s.rail.value ++ be16 s.rail.effective ++ be16 s.ci ++ be16 s.cs ++ be32 s.load ++ be32 s.budget
    ++ [byteOf s.imageIn.freeTotal, byteOf s.imageOut.freeTotal, byteOf s.notices.queue.length,
        flagCode s.notices.overflow]
    ++ allSlots.map fun i => (s.ctx i).state.code

/-- A window as start and count; 0xFF and 0 while it is absent (10.8). -/
def windowBytes : Option Window → List Byte
  | none => [0xFF, 0]
  | some w => [byteOf w.start, byteOf w.count]

/-- The seconds that remain of a LOCATE display, rounded up; 0 while none is present (10.8). A display that is present has at
least 1 (1.1), also in the instant before its expiry is taken. -/
def locateSeconds (l : Option Locate) : Nat :=
  match l with
  | none => 0
  | some x => max 1 ((x.us + (Config.usPerSecond - 1)) / Config.usPerSecond)

/-- The SLOT INFO body, 61 bytes (R185, 10.8). -/
def State.slotInfoBody (s : State) (i : Slot) : List Byte :=
  let c := s.ctx i
  let m := s.mon i
  let d := s.det i
  [byteOf i.val, c.state.code, c.policy.code, byteOf c.priority, c.inputPolicy.code, c.contact.code,
    optionCode (c.inrushClass.map fun x => byteOf x.val), flagCode c.identity.isSome]
    ++ (match c.identity with
        | none => List.replicate 30 0
        | some x => x.bytes)
    ++ [optionCode (c.verdict.map Verdict.code), optionCode (c.matched.map fun k => byteOf k.val),
        byteOf c.inrushCommitted, byteOf c.steadyCommitted]
    ++ windowBytes c.inWindow ++ windowBytes c.outWindow
    ++ [optionCode (c.inputQuality.map InputQuality.code), optionCode (c.missCount.map byteOf),
        optionCode (c.leaving.map Leaving.code),
        optionCode (c.destination.map fun x => x.slotState.code), optionCode (c.reason.map Reason.code),
        byteOf c.attempts, optionCode (c.faultRecord.cause.map Cause.code),
        byteOf (bit c.faultRecord.hard 1 + bit c.faultRecord.more 2),
        m.triggerMode.code, flagCode m.alertNotices, flagCode m.sticky, byteOf (locateSeconds m.locate),
        d.run.code, byteOf (bit d.coarse 1 + bit d.fine 2), byteOf d.fineRun]

/-- One image in the IMAGE MAP body: free total, extent count, and each extent's start and length (R146). -/
def Image.mapBytes (x : Image) : List Byte :=
  [byteOf x.freeTotal, byteOf x.free.length] ++ x.free.flatMap fun e => [byteOf e.start, byteOf e.length]

/-- The IMAGE MAP body (R146, 10.8). -/
def State.imageMapBody (s : State) : List Byte :=
  s.imageIn.mapBytes ++ s.imageOut.mapBytes
    ++ allSlots.flatMap fun i => windowBytes (s.ctx i).inWindow ++ windowBytes (s.ctx i).outWindow

/-- The slots whose switches are closed (R176). -/
def State.closedSwitches (s : State) : List Slot := s.slotsWith fun r => r.rail.closed

/-- A slot set as a mask: bit s for slot s (10.8). -/
def maskOf (slots : List Slot) : Nat := (slots.map fun i => 2 ^ i.val).sum

end Sys2Proof.Machine
end

