-- ==== Sys2Proof/Machine/DirectoryRequests.lean ====
section
/-! DEFINITION. The family of directory requests (R115 to R121) and AGE SWEEP (R131). None of their rules places the
SAFE_OFF refusal, so it comes before every other check (R183). -/

namespace Sys2Proof.Machine

open Sys2Proof

/-- DIRECTORY ADD of a checked body (R117): LOCKED, DUPLICATE, FULL, or the lowest FREE entry takes it. -/
def State.addEntry (s : State) (tag : Byte) (b : EntryBody) : State :=
  if s.mode = .run then s.reply 0x20 tag .locked []
  else
    match s.findKey b.key with
    | some k => s.reply 0x20 tag .duplicate [byteOf k.val]
    | none =>
      match s.findFree with
      | none => s.reply 0x20 tag .full []
      | some k => (s.modEntry k fun _ => ⟨some b, 0⟩).reply 0x20 tag .ok [byteOf k.val]

/-- DIRECTORY ADD (R116, R117). -/
def requestDirectoryAdd (tag : Byte) (body : EntryBytes) (s : State) : State :=
  if s.safeOff then s.reply 0x20 tag .safeOff []
  else
    match entryBodyOf body with
    | none => s.reply 0x20 tag .badValue []
    | some b => s.addEntry tag b

/-- DIRECTORY DELETE of an index (R118). -/
def State.deleteEntry (s : State) (tag : Byte) (k : EntryIndex) : State :=
  match (s.entry k).body with
  | none => s.reply 0x21 tag .already []
  | some b =>
    if b.origin = .static ∧ s.mode = .run then s.reply 0x21 tag .locked []
    else if 0 < (s.entry k).users then s.reply 0x21 tag .inUse [byteOf (s.entry k).users]
    else (s.modEntry k fun _ => Entry.free).reply 0x21 tag .ok []

/-- DIRECTORY DELETE (R115, R118). -/
def requestDirectoryDelete (tag index : Byte) (s : State) : State :=
  if s.safeOff then s.reply 0x21 tag .safeOff []
  else
    match indexOf index with
    | none => s.reply 0x21 tag .badValue []
    | some k => s.deleteEntry tag k

/-- DIRECTORY READ (R115, R119). -/
def requestDirectoryRead (tag index : Byte) (s : State) : State :=
  if s.safeOff then s.reply 0x22 tag .safeOff []
  else
    match indexOf index with
    | none => s.reply 0x22 tag .badValue []
    | some k => s.reply 0x22 tag .ok (index :: (s.entry k).bytes)

/-- DIRECTORY FIND (R120). -/
def requestDirectoryFind (tag : Byte) (body : EntryBytes) (s : State) : State :=
  if s.safeOff then s.reply 0x23 tag .safeOff []
  else
    match entryKeyOf body with
    | none => s.reply 0x23 tag .badValue []
    | some key =>
      match s.findKey key with
      | some k => s.reply 0x23 tag .ok [byteOf k.val]
      | none => s.reply 0x23 tag .notFound []

/-- DIRECTORY KEEP of an index (R121): the origin becomes STATIC, which carries no age. -/
def State.keepEntry (s : State) (tag : Byte) (k : EntryIndex) : State :=
  if s.mode = .run then s.reply 0x24 tag .locked []
  else
    match (s.entry k).body with
    | none => s.reply 0x24 tag .wrongState []
    | some b =>
      if b.origin = .static then s.reply 0x24 tag .wrongState []
      else
        (s.modEntry k fun e => { e with body := some { b with origin := .static } }).reply 0x24 tag .ok []

/-- DIRECTORY KEEP (R115, R121). -/
def requestDirectoryKeep (tag index : Byte) (s : State) : State :=
  if s.safeOff then s.reply 0x24 tag .safeOff []
  else
    match indexOf index with
    | none => s.reply 0x24 tag .badValue []
    | some k => s.keepEntry tag k

/-- AGE SWEEP (R131): the reply carries the number of entries freed. -/
def requestAgeSweep (tag : Byte) (s : State) : State :=
  if s.safeOff then s.reply 0x25 tag .safeOff []
  else s.sweep.reply 0x25 tag .ok [byteOf s.sweepFrees]

/-- DIRECTORY_ADD -/
def execDirectoryAdd (tag : Byte) (body : EntryBytes) (s : State) : Host.Outcome State Fault Refusal :=
  .next (requestDirectoryAdd tag body s)

/-- DIRECTORY_DELETE -/
def execDirectoryDelete (tag index : Byte) (s : State) : Host.Outcome State Fault Refusal :=
  .next (requestDirectoryDelete tag index s)

/-- DIRECTORY_READ -/
def execDirectoryRead (tag index : Byte) (s : State) : Host.Outcome State Fault Refusal :=
  .next (requestDirectoryRead tag index s)

/-- DIRECTORY_FIND -/
def execDirectoryFind (tag : Byte) (body : EntryBytes) (s : State) : Host.Outcome State Fault Refusal :=
  .next (requestDirectoryFind tag body s)

/-- DIRECTORY_KEEP -/
def execDirectoryKeep (tag index : Byte) (s : State) : Host.Outcome State Fault Refusal :=
  .next (requestDirectoryKeep tag index s)

/-- AGE_SWEEP -/
def execAgeSweep (tag : Byte) (s : State) : Host.Outcome State Fault Refusal := .next (requestAgeSweep tag s)

/-- AGE_INTERVAL_EXPIRY (R132): a sweep, and the timer starts again with AGE_INTERVAL. -/
def execAgeIntervalExpiry (s : State) : Host.Outcome State Fault Refusal :=
  .next <|
    match s.directory.ageTimer with
    | none => s
    | some _ =>
      let s := s.sweep
      let timer := if s.params.ageInterval = 0 then none else some (s.params.ageInterval * Config.usPerMinute)
      { s with directory := { s.directory with ageTimer := timer } }

end Sys2Proof.Machine
end

