-- ==== Sys2Proof/Machine/Parameters.lean ====
section
/-! DEFINITION. The family of SET PARAMETER and GET PARAMETER (R184), with every parameter's own rule. -/

namespace Sys2Proof.Machine

open Sys2Proof

/-- The parameters by name (R184). -/
inductive ParamId where
  | makeFilter | settleTime | maxAttempts | inrushBudget | steadyBudget | rampLimit | arbiterMode | rampTimeout
  | dischargeTime | railFullMv | railFloorMv | qualTimeout | qualRun | lockTolerance | refTimeout | ageInterval
  | imageReserveIn | imageReserveOut | cyclePeriod | fillPercent | missLimit
  | classRow (c : InrushClass)
deriving DecidableEq, Repr

/-- The ids of the parameters that carry one value, each as its owning rule gives it. -/
def paramTable : List (Nat × ParamId) :=
  [(0x01, .makeFilter), (0x02, .settleTime), (0x03, .maxAttempts), (0x10, .inrushBudget), (0x11, .steadyBudget),
   (0x12, .rampLimit), (0x13, .arbiterMode), (0x14, .rampTimeout), (0x15, .dischargeTime), (0x16, .railFullMv),
   (0x17, .railFloorMv), (0x20, .qualTimeout), (0x21, .qualRun), (0x22, .lockTolerance), (0x23, .refTimeout),
   (0x30, .ageInterval), (0x40, .imageReserveIn), (0x41, .imageReserveOut), (0x50, .cyclePeriod),
   (0x51, .fillPercent), (0x52, .missLimit)]

/-- The parameter that an id names, if any (R184); 0x18 to 0x1F are the class rows (R57). -/
def paramOf (id : Byte) : Option ParamId :=
  if h : 0x18 ≤ id.toNat ∧ id.toNat < 0x20 then some (.classRow ⟨id.toNat - 0x18, by omega⟩)
  else (paramTable.find? fun p => p.1 == id.toNat).map Prod.snd

def ArbiterMode.code : ArbiterMode → Nat
  | .fixed => 0
  | .round => 1

/-- The stored value, or the two values of a class row (R57, R184). -/
def Params.get (p : Params) : ParamId → List Nat
  | .makeFilter => [p.makeFilter]
  | .settleTime => [p.settleTime]
  | .maxAttempts => [p.maxAttempts]
  | .inrushBudget => [p.inrushBudget]
  | .steadyBudget => [p.steadyBudget]
  | .rampLimit => [p.rampLimit]
  | .arbiterMode => [p.arbiterMode.code]
  | .rampTimeout => [p.rampTimeout]
  | .dischargeTime => [p.dischargeTime]
  | .railFullMv => [p.railFullMv]
  | .railFloorMv => [p.railFloorMv]
  | .qualTimeout => [p.qualTimeout]
  | .qualRun => [p.qualRun]
  | .lockTolerance => [p.lockTolerance]
  | .refTimeout => [p.refTimeout]
  | .ageInterval => [p.ageInterval]
  | .imageReserveIn => [p.imageReserveIn]
  | .imageReserveOut => [p.imageReserveOut]
  | .cyclePeriod => [p.cyclePeriod]
  | .fillPercent => [p.fillPercent]
  | .missLimit => [p.missLimit]
  | .classRow c => [p.classTable[c].inrush, p.classTable[c].provisional]

/-- A value brought to the nearer end of a range. -/
def clampTo (lo hi v : Nat) : Nat := max lo (min hi v)

/-- The reply body of SET PARAMETER and GET PARAMETER: the id and the value or values stored (10.8). -/
def paramBody (id : Byte) (values : List Nat) : List Byte := id :: values.flatMap be16

/-- SET PARAMETER is taken: OK, or OK_CLAMPED where the value stored is not the value requested, with the value stored. -/
def State.paramTaken (s : State) (tag id : Byte) (requested used : List Nat) : State :=
  s.reply 0x04 tag (if used = requested then .ok else .okClamped) (paramBody id used)

/-- A parameter whose rule only clamps it into a range. -/
def State.setClamped (s : State) (tag id : Byte) (lo hi v : Nat) (store : Nat → Params → Params) : State :=
  let used := clampTo lo hi v
  { s with params := store used s.params }.paramTaken tag id [v] [used]

/-- One queued slot at a recheck: a class that can no longer fit leaves the queue and is refused NO_POWER (R61). -/
def State.recheckSlot (s : State) (i : Slot) : State :=
  if (s.railOf i).queued && s.neverFits i then
    (s.modRail i fun r => { r with queued := false }).refuseWith i .noPower []
  else s

/-- The recheck of the ramp queue in ascending slot order, and then the arbiter's evaluation (R61). -/
def State.recheckQueue (s : State) : State := (allSlots.foldl State.recheckSlot s).arbitrate

/-- INRUSH_BUDGET (R73). -/
def State.setInrushBudget (s : State) (tag id : Byte) (v : Nat) : State :=
  let used := min v 1023
  if used < s.ci then s.reply 0x04 tag .inUse []
  else ({ s with params := { s.params with inrushBudget := used } }.recheckQueue).paramTaken tag id [v] [used]

/-- STEADY_BUDGET (R73): E is recomputed before the recheck. -/
def State.setSteadyBudget (s : State) (tag id : Byte) (v : Nat) : State :=
  let used := min v 1023
  if used < s.cs then s.reply 0x04 tag .inUse []
  else
    ({ s with params := { s.params with steadyBudget := used } }.recomputeE.recheckQueue).paramTaken tag id [v] [used]

/-- RAMP_LIMIT (R74). -/
def State.setRampLimit (s : State) (tag id : Byte) (v : Nat) : State :=
  let used := clampTo 1 4 v
  if used < s.rampingCount then s.reply 0x04 tag .inUse []
  else ({ s with params := { s.params with rampLimit := used } }.arbitrate).paramTaken tag id [v] [used]

/-- ARBITER_MODE (R74). -/
def State.setArbiterMode (s : State) (tag id : Byte) (v : Nat) : State :=
  if v = 0 then ({ s with params := { s.params with arbiterMode := .fixed } }.arbitrate).paramTaken tag id [v] [v]
  else if v = 1 then
    ({ s with params := { s.params with arbiterMode := .round } }.arbitrate).paramTaken tag id [v] [v]
  else s.reply 0x04 tag .badValue []

/-- RAIL_FULL_MV (R76). -/
def State.setRailFull (s : State) (tag id : Byte) (v : Nat) : State :=
  let used := clampTo 10000 30000 v
  if used ≤ s.params.railFloorMv then s.reply 0x04 tag .badValue []
  else ({ s with params := { s.params with railFullMv := used } }.recomputeE.arbitrate).paramTaken tag id [v] [used]

/-- RAIL_FLOOR_MV (R76). -/
def State.setRailFloor (s : State) (tag id : Byte) (v : Nat) : State :=
  let used := clampTo 10000 30000 v
  if s.params.railFullMv ≤ used then s.reply 0x04 tag .badValue []
  else ({ s with params := { s.params with railFloorMv := used } }.recomputeE.arbitrate).paramTaken tag id [v] [used]

/-- A class row (R57): row 0 is held at 0 and 0. -/
def State.setClassRow (s : State) (tag id : Byte) (c : InrushClass) (v w : Nat) : State :=
  let row : ClassRow := if c = 0 then ⟨0, 0⟩ else ⟨min v 255, min w 255⟩
  let t := s.params.classTable.set c row
  ({ s with params := { s.params with classTable := t } }.recheckQueue).paramTaken tag id [v, w]
    [row.inrush, row.provisional]

/-- AGE_INTERVAL (R132): the timer is cancelled, and started with the new interval unless that is 0. -/
def State.setAgeInterval (s : State) (tag id : Byte) (v : Nat) : State :=
  let used := min v 255
  let timer := if used = 0 then none else some (used * Config.usPerMinute)
  { s with
    params := { s.params with ageInterval := used }
    directory := { s.directory with ageTimer := timer } }.paramTaken tag id [v] [used]

/-- CYCLE_PERIOD (R162): clamped, then rounded down to a multiple of 50. -/
def State.setCyclePeriod (s : State) (tag id : Byte) (v : Nat) : State :=
  let used := clampTo 250 20000 v / 50 * 50
  if used * 10 * s.params.fillPercent < s.load then
    s.reply 0x04 tag .tooShort (be16 (minimumPeriod s.load s.params.fillPercent))
  else { s with params := { s.params with cyclePeriod := used } }.paramTaken tag id [v] [used]

/-- FILL_PERCENT (R162): a refusal computes the minimum period at the requested fill. DESIGN CHOICE: for a request outside 50
to 95 that is the clamped fill, the one that would be stored (log entry 34). -/
def State.setFillPercent (s : State) (tag id : Byte) (v : Nat) : State :=
  let used := clampTo 50 95 v
  if s.params.cyclePeriod * 10 * used < s.load then
    s.reply 0x04 tag .tooShort (be16 (minimumPeriod s.load used))
  else { s with params := { s.params with fillPercent := used } }.paramTaken tag id [v] [used]

/-- SET PARAMETER of one parameter, by its owning rule (R184). -/
def State.setParam (s : State) (tag id : Byte) (p : ParamId) (v w : Nat) : State :=
  match p with
  | .makeFilter => s.setClamped tag id 1 15 v fun x q => { q with makeFilter := x }
  | .settleTime => s.setClamped tag id 0 255 v fun x q => { q with settleTime := x }
  | .maxAttempts => s.setClamped tag id 1 3 v fun x q => { q with maxAttempts := x }
  | .inrushBudget => s.setInrushBudget tag id v
  | .steadyBudget => s.setSteadyBudget tag id v
  | .rampLimit => s.setRampLimit tag id v
  | .arbiterMode => s.setArbiterMode tag id v
  | .rampTimeout => s.setClamped tag id 10 500 v fun x q => { q with rampTimeout := x }
  | .dischargeTime => s.setClamped tag id 0 500 v fun x q => { q with dischargeTime := x }
  | .railFullMv => s.setRailFull tag id v
  | .railFloorMv => s.setRailFloor tag id v
  | .qualTimeout => s.setClamped tag id 1 255 v fun x q => { q with qualTimeout := x }
  | .qualRun => s.setClamped tag id 1 15 v fun x q => { q with qualRun := x }
  | .lockTolerance => s.setClamped tag id 0 3 v fun x q => { q with lockTolerance := x }
  | .refTimeout => s.setClamped tag id 1 15 v fun x q => { q with refTimeout := x }
  | .ageInterval => s.setAgeInterval tag id v
  | .imageReserveIn => s.setClamped tag id 0 128 v fun x q => { q with imageReserveIn := x }
  | .imageReserveOut => s.setClamped tag id 0 128 v fun x q => { q with imageReserveOut := x }
  | .cyclePeriod => s.setCyclePeriod tag id v
  | .fillPercent => s.setFillPercent tag id v
  | .missLimit => s.setClamped tag id 1 15 v fun x q => { q with missLimit := x }
  | .classRow c => s.setClassRow tag id c v w

/-- SET PARAMETER (R184). The body length is checked before everything else (R183): two values for a class row, one for
every other id; then SAFE_OFF (R178), then the id. -/
def requestSetParameter (tag id : Byte) (value : HWord) (second : Option HWord) (s : State) : State :=
  if second.isSome != isClassRowId id then s.reply 0x04 tag .badLength []
  else if s.safeOff then s.reply 0x04 tag .safeOff []
  else
    match paramOf id with
    | none => s.reply 0x04 tag .badValue []
    | some p => s.setParam tag id p value.toNat (second.getD 0).toNat

/-- GET PARAMETER (R184), answered in every rack state. -/
def requestGetParameter (tag id : Byte) (s : State) : State :=
  match paramOf id with
  | none => s.reply 0x05 tag .badValue []
  | some p => s.reply 0x05 tag .ok (paramBody id (s.params.get p))

/-- SET_PARAMETER -/
def execSetParameter (tag id : Byte) (value : HWord) (second : Option HWord) (s : State) :
    Host.Outcome State Fault Refusal :=
  .next (requestSetParameter tag id value second s)

/-- GET_PARAMETER -/
def execGetParameter (tag id : Byte) (s : State) : Host.Outcome State Fault Refusal :=
  .next (requestGetParameter tag id s)

end Sys2Proof.Machine
end

