-- ==== Sys2Proof/Machine/Queries.lean ====
section
/-! DEFINITION. The family of requests that every rack state answers: STATUS, SLOT INFO and FETCH NOTICES (R185, R188). -/

namespace Sys2Proof.Machine

open Sys2Proof

/-- STATUS (R185). -/
def requestStatus (tag : Byte) (s : State) : State := s.reply 0x01 tag .ok s.statusBody

/-- SLOT INFO (R185). -/
def requestSlotInfo (tag slot : Byte) (s : State) : State :=
  match slotOf slot with
  | none => s.reply 0x02 tag .badSlot []
  | some i => s.reply 0x02 tag .ok (s.slotInfoBody i)

/-- The reply body of FETCH NOTICES: the count and the records, oldest first (10.8). -/
def noticesBody (ns : List Notice) : List Byte := byteOf ns.length :: ns.flatMap Notice.bytes

/-- FETCH NOTICES (R188): the reply carries OVERFLOW as it stood before the request, which then clears it. -/
def requestFetchNotices (tag maximum : Byte) (s : State) : State :=
  let n := maximum.toNat
  if n = 0 ∨ 8 < n then s.reply 0x03 tag .badValue []
  else
    let taken := s.notices.queue.take n
    let s' := s.answerWith 0x03 tag .ok (noticesBody taken) (some s.notices.overflow)
    { s' with notices := ⟨s.notices.queue.drop n, false⟩ }

/-- STATUS -/
def execStatus (tag : Byte) (s : State) : Host.Outcome State Fault Refusal := .next (requestStatus tag s)

/-- SLOT_INFO -/
def execSlotInfo (tag slot : Byte) (s : State) : Host.Outcome State Fault Refusal :=
  .next (requestSlotInfo tag slot s)

/-- FETCH_NOTICES -/
def execFetchNotices (tag maximum : Byte) (s : State) : Host.Outcome State Fault Refusal :=
  .next (requestFetchNotices tag maximum s)

end Sys2Proof.Machine
end

