-- ==== Sys2Proof/Machine/RackRequests.lean ====
section
/-! DEFINITION. The family of requests on the rack: SET MODE (R192), FREEZE (R109), THAW (R110), SAFE OFF (R176, R177) and
RESTART (R186). -/

namespace Sys2Proof.Machine

open Sys2Proof

/-! ## SET MODE, FREEZE, THAW -/

/-- A reply to SET MODE: every one carries the rack mode as it stands after the request (R192). -/
def State.modeReply (s : State) (tag : Byte) (status : Status) : State := s.reply 0x40 tag status [s.mode.code]

/-- SET MODE of a mode that the code names, outside SAFE_OFF (R192). -/
def State.changeMode (s : State) (tag : Byte) (m : RackMode) : State :=
  if s.mode = m then s.modeReply tag .already
  else if m = .commission ∧ s.scan.state ≠ .stopped then s.modeReply tag .wrongState
  else { s with mode := m }.modeReply tag .ok

/-- SET MODE (R192): BAD_VALUE, then SAFE_OFF, then the table. -/
def requestSetMode (tag mode : Byte) (s : State) : State :=
  match modeOfCode mode with
  | none => s.modeReply tag .badValue
  | some m => if s.safeOff then s.modeReply tag .safeOff else s.changeMode tag m

/-- Sets FROZEN. -/
def State.setFrozen (s : State) (b : Bool) : State := { s with clock := { s.clock with frozen := b } }

/-- FREEZE (R109). -/
def requestFreeze (tag : Byte) (s : State) : State :=
  if s.safeOff then s.reply 0x41 tag .safeOff []
  else if s.clock.frozen then s.reply 0x41 tag .already []
  else (s.setFrozen true).reply 0x41 tag .ok []

/-- FROZEN ends: the arbiter evaluates, and a STOPPED scan applies the joins it has held (R110, R152). -/
def State.thaw (s : State) : State :=
  let s := (s.setFrozen false).arbitrate
  if s.scan.state = .stopped then s.applyJoins else s

/-- THAW (R110). -/
def requestThaw (tag : Byte) (s : State) : State :=
  if s.safeOff then s.reply 0x42 tag .safeOff []
  else if s.clock.refLost then s.reply 0x42 tag .wrongState []
  else if s.clock.frozen then s.thaw.reply 0x42 tag .ok []
  else s.reply 0x42 tag .already []

/-! ## What SAFE OFF and RESTART empty -/

/-- The identify queue is emptied, the retry gap cancelled, and an open transaction orphaned (R88, R93). -/
def Lane.clear (l : Lane) : Lane :=
  { l with
    queue := []
    readBegun := false
    retryGap := none
    transaction := l.transaction.map fun t => { t with orphaned := true } }

/-- The scan is STOPPED with no cycle, and the exchange on the lane is discarded (R164). -/
def Scan.clear (c : Scan) : Scan :=
  { c with
    state := .stopped
    period := .idle
    remaining := []
    exchange := c.exchange.map fun e => { e with discarded := true } }

/-- An image with its free list whole; its bytes stand (R141). -/
def Image.clear (x : Image) : Image := { x with free := [⟨0, Config.imageSegments⟩] }

/-- A slot holds no window and no input quality (R141). -/
def Context.dropWindows (c : Context) : Context :=
  { c with inWindow := none, outWindow := none, inputQuality := none }

/-! ## SAFE OFF -/

/-- Steps 1 to 3 of SAFE OFF in one slot's record: switch open with no discharge, commitments released, ramp queue left,
roster and splice left, windows released, detector stopped, settle timer cancelled (R177). -/
def SlotRecord.safeOff (r : SlotRecord) : SlotRecord :=
  { r with
    ctx := { r.ctx.dropWindows with inrushCommitted := 0, steadyCommitted := 0, settleTimer := none }
    rail := { r.rail with closed := false, rampTimer := none, dischargeTimer := none, queued := false }
    detector := r.detector.stop
    scan := ScanSlot.reset }

/-- Step 4 of SAFE OFF for one slot: a slot that is neither DISABLED nor VACANT is withdrawn with reason SAFE_OFF and
destination QUARANTINED, and the withdrawal ends at once (R177). -/
def State.safeOffSlot (s : State) (i : Slot) : State :=
  match (s.ctx i).state with
  | .disabled | .vacant => s
  | _ => (s.markWithdrawing i .safeOff .quarantined).endWithdrawal i

/-- An honoured SAFE OFF (R177). -/
def State.enterSafeOff (s : State) : State :=
  let s := s.mapSlots SlotRecord.safeOff
  let s := { s with
    scan := s.scan.clear, lane := s.lane.clear, imageIn := s.imageIn.clear, imageOut := s.imageOut.clear }
  let s := allSlots.foldl State.safeOffSlot s
  { s with safeOff := true, marks := { s.marks with safeOff := true } }

/-- SAFE OFF (R176): a reply of NOT_ALLOWED carries the set of slots whose switches are closed. -/
def requestSafeOff (tag : Byte) (mask : HWord) (s : State) : State :=
  let closed := maskOf s.closedSwitches
  if 4096 ≤ mask.toNat then s.reply 0x43 tag .badValue []
  else if s.safeOff then s.reply 0x43 tag .safeOff []
  else if s.clock.refLost = false ∨ mask.toNat ≠ closed then s.reply 0x43 tag .notAllowed (be16 closed)
  else s.enterSafeOff.reply 0x43 tag .ok []

/-! ## RESTART -/

/-- The monitor after RESTART (R17), showing the pattern of the slot's new state. -/
def Monitor.restart (m : Monitor) (p : LedPattern) : Monitor :=
  { m with sticky := false, darkPulse := none, locate := none }.showPattern p

/-- The state that RESTART gives a slot (R52). -/
def Context.restartState (c : Context) : SlotState :=
  if c.policy = .off then .disabled else if c.contact = .seated then .settling else .vacant

/-- The context after RESTART (R52); `cls` is the seated class that the monitor holds. -/
def Context.restart (c : Context) (cls : Option InrushClass) (settleUs : Nat) : Context :=
  { Context.reset with
    state := c.restartState
    policy := c.policy
    priority := c.priority
    inputPolicy := c.inputPolicy
    contact := c.contact
    inrushClass := if c.restartState = .settling then cls else none
    settleTimer := if c.restartState = .settling then some settleUs else none }

/-- A detector after RESTART (R111). -/
def Detector.restart (d : Detector) : Detector := { d.stop with coarse := false, fine := false, fineRun := 0 }

/-- A slot's record after RESTART (R17, R52, R77, R111, R164). -/
def SlotRecord.restart (settleUs : Nat) (r : SlotRecord) : SlotRecord where
  monitor := r.monitor.restart r.ctx.restartState.pattern
  ctx := r.ctx.restart r.monitor.seatedClass settleUs
  rail := RailSlot.reset
  detector := r.detector.restart
  scan := ScanSlot.reset

/-- The age interval timer with a full interval, or none where AGE_INTERVAL is 0 (R132). -/
def Params.ageTimer (p : Params) : Option Nat :=
  if p.ageInterval = 0 then none else some (p.ageInterval * Config.usPerMinute)

/-- The directory after RESTART (R114, R132). -/
def Directory.restart (d : Directory) (timer : Option Nat) : Directory :=
  ⟨mapVector (fun e => { e with users := 0 }) d.entries, timer⟩

/-- Every block takes its RESTART effects, and the notice queue holds only STARTED with code RESTART (R186). -/
def State.restartAll (s : State) : State :=
  { s.mapSlots (SlotRecord.restart s.longSettleUs) with
    rail := { s.rail with lastGranted := 11 }
    lane := s.lane.clear
    clock := ⟨false, false, some (s.params.refTimeout * Config.watchStepUs), none⟩
    directory := s.directory.restart s.params.ageTimer
    imageIn := s.imageIn.clear
    imageOut := s.imageOut.clear
    scan := { s.scan.clear with cycle := 0 }
    notices := ⟨[⟨.started, none, 1, []⟩], false⟩
    marks := ⟨false, s.rail.brownout, false⟩ }

/-- RESTART (R186): the reply carries OVERFLOW clear. -/
def requestRestart (tag : Byte) (s : State) : State :=
  if s.safeOff then s.reply 0x06 tag .safeOff []
  else s.restartAll.answerWith 0x06 tag .ok [] (some false)

/-! ## The commands -/

/-- SET_MODE -/
def execSetMode (tag mode : Byte) (s : State) : Host.Outcome State Fault Refusal := .next (requestSetMode tag mode s)

/-- FREEZE -/
def execFreeze (tag : Byte) (s : State) : Host.Outcome State Fault Refusal := .next (requestFreeze tag s)

/-- THAW -/
def execThaw (tag : Byte) (s : State) : Host.Outcome State Fault Refusal := .next (requestThaw tag s)

/-- SAFE_OFF -/
def execSafeOff (tag : Byte) (mask : HWord) (s : State) : Host.Outcome State Fault Refusal :=
  .next (requestSafeOff tag mask s)

/-- RESTART -/
def execRestart (tag : Byte) (s : State) : Host.Outcome State Fault Refusal := .next (requestRestart tag s)

end Sys2Proof.Machine
end

