-- ==== Sys2Proof/Machine/ScanRequests.lean ====
section
/-! DEFINITION. The family of scan and image requests: SCAN START, SCAN STOP (R148), IMAGE READ (R143), IMAGE WRITE (R144)
and IMAGE MAP (R146). -/

namespace Sys2Proof.Machine

open Sys2Proof

/-- SCAN START (R148): a STOPPED scan becomes RUNNING and takes a boundary at once. -/
def requestScanStart (tag : Byte) (s : State) : State :=
  if s.safeOff then s.reply 0x30 tag .safeOff []
  else
    match s.scan.state with
    | .stopped => (s.modScanRack fun c => { c with state := .running }).boundary.reply 0x30 tag .ok []
    | .running => s.reply 0x30 tag .already []
    | .stopping => s.reply 0x30 tag .wrongState []

/-- A RUNNING scan stops (R148): the period timer is cancelled, and with no exchange in progress the scan is STOPPED at
once. -/
def State.stopScan (s : State) : State :=
  (s.modScanRack fun c => { c with state := .stopping, period := .idle }).settleCycle

/-- SCAN STOP (R148). -/
def requestScanStop (tag : Byte) (s : State) : State :=
  if s.safeOff then s.reply 0x31 tag .safeOff []
  else
    match s.scan.state with
    | .running => s.stopScan.reply 0x31 tag .ok []
    | _ => s.reply 0x31 tag .already []

/-- The card's declared byte count in an image; none is declared without an identity. -/
def State.declaredBytes (s : State) (i : Slot) (g : ImageId) : Nat :=
  ((s.ctx i).identity.map fun d => d.declared g).getD 0

/-- The slot's windows can be read (R143 test 4). -/
def State.canReadWindow (s : State) (i : Slot) (g : ImageId) : Bool :=
  ((s.ctx i).state == .online || (s.ctx i).state == .withdrawing) && ((s.ctx i).window g).isSome

/-- IMAGE READ (R143). -/
def requestImageRead (tag slot image : Byte) (offset : HWord) (length : Byte) (s : State) : State :=
  match slotOf slot with
  | none => s.reply 0x32 tag .badSlot []
  | some i =>
    match imageOfCode image with
    | none => s.reply 0x32 tag .badValue []
    | some g =>
      let o := offset.toNat
      let n := length.toNat
      if 511 < o ∨ n = 0 ∨ 64 < n then s.reply 0x32 tag .badValue []
      else if s.safeOff then s.reply 0x32 tag .safeOff []
      else if !s.canReadWindow i g then s.reply 0x32 tag .wrongState []
      else if s.declaredBytes i g < o + n then s.reply 0x32 tag .outOfWindow []
      else
        s.reply 0x32 tag .ok
          ([slot, image] ++ be16 o ++ [length, optionCode ((s.ctx i).inputQuality.map InputQuality.code)]
            ++ s.readWindow i g o n)

/-- IMAGE WRITE (R144); the frame checks refuse 0 data bytes or more than 64 (R183). -/
def requestImageWrite (tag slot : Byte) (offset : HWord) (data : List Byte) (s : State) : State :=
  if data.length = 0 ∨ 64 < data.length then s.reply 0x33 tag .badLength []
  else
    match slotOf slot with
    | none => s.reply 0x33 tag .badSlot []
    | some i =>
      if 511 < offset.toNat then s.reply 0x33 tag .badValue []
      else if s.safeOff then s.reply 0x33 tag .safeOff []
      else if (s.ctx i).state ≠ .online ∨ ((s.ctx i).window .output).isNone then s.reply 0x33 tag .wrongState []
      else if s.declaredBytes i .output < offset.toNat + data.length then s.reply 0x33 tag .outOfWindow []
      else (s.writeWindow i .output offset.toNat data).reply 0x33 tag .ok []

/-- IMAGE MAP (R146), answered in every rack state. -/
def requestImageMap (tag : Byte) (s : State) : State := s.reply 0x34 tag .ok s.imageMapBody

/-- SCAN_START -/
def execScanStart (tag : Byte) (s : State) : Host.Outcome State Fault Refusal := .next (requestScanStart tag s)

/-- SCAN_STOP -/
def execScanStop (tag : Byte) (s : State) : Host.Outcome State Fault Refusal := .next (requestScanStop tag s)

/-- IMAGE_READ -/
def execImageRead (tag slot image : Byte) (offset : HWord) (length : Byte) (s : State) :
    Host.Outcome State Fault Refusal :=
  .next (requestImageRead tag slot image offset length s)

/-- IMAGE_WRITE -/
def execImageWrite (tag slot : Byte) (offset : HWord) (data : List Byte) (s : State) :
    Host.Outcome State Fault Refusal :=
  .next (requestImageWrite tag slot offset data s)

/-- IMAGE_MAP -/
def execImageMap (tag : Byte) (s : State) : Host.Outcome State Fault Refusal := .next (requestImageMap tag s)

end Sys2Proof.Machine
end

