-- ==== Sys2Proof/Machine/SlotRequests.lean ====
section
/-! DEFINITION. The family of requests that name one slot: SET SLOT POLICY, RELEASE, REFUSE, RETRY, WITHDRAW, LOCATE,
ACK ALERT and CLEAR FAULT. Each tests BAD_SLOT, then SAFE_OFF, then its own checks (R183). -/

namespace Sys2Proof.Machine

open Sys2Proof

/-! ## Alert settings (R9, R11, R14) -/

/-- A setting of a slot's sticky flag: CARD_ALERT is offered where alert notices are ON, and a dark pulse starts or is
extended (R9, R11, R14). -/
def State.setSticky (s : State) (i : Slot) : State :=
  let s := s.modMon i fun m => { m with sticky := true, darkPulse := some Config.darkPulseUs }
  if (s.mon i).alertNotices then s.postSlot .cardAlert i 0 [] else s

/-- ACK ALERT of a flag that is SET: cleared, and set again at once in LEVEL mode while the line is LOW (R12). -/
def State.acknowledgeAlert (s : State) (i : Slot) : State :=
  let s := s.modMon i fun m => { m with sticky := false }
  if (s.mon i).triggerMode = .level ∧ (s.mon i).lastAlert = .low then s.setSticky i else s

/-! ## SET SLOT POLICY (R19, R47, R48) -/

/-- The five fields of SET SLOT POLICY, decoded. -/
structure PolicyFields where
  policy : Policy
  priority : Nat
  inputPolicy : InputPolicy
  triggerMode : TriggerMode
  alertNotices : Bool
deriving DecidableEq, Repr

/-- The fields, or none where a code or the priority is outside its list or range (R10, R19). -/
def policyFieldsOf (policy priority inputPolicy triggerMode alertNotices : Byte) : Option PolicyFields := do
  let p ← policyOfCode policy
  let ip ← inputPolicyOfCode inputPolicy
  let tm ← triggerModeOfCode triggerMode
  let an ← flagOfCode alertNotices
  if priority.toNat ≤ 3 then some ⟨p, priority.toNat, ip, tm, an⟩ else none

/-- All five fields are written at once (R19). -/
def State.writePolicy (s : State) (i : Slot) (f : PolicyFields) : State :=
  s.modSlot i fun r =>
    { r with
      ctx := { r.ctx with policy := f.policy, priority := f.priority, inputPolicy := f.inputPolicy }
      monitor := { r.monitor with triggerMode := f.triggerMode, alertNotices := f.alertNotices } }

/-- The effect of a policy set to OFF on the slot's state (R47). -/
def State.policyOff (s : State) (i : Slot) : State :=
  match (s.ctx i).state with
  | .disabled | .withdrawing => s
  | .vacant | .settling | .refused | .quarantined => s.enterEmpty i .disabled
  | _ => s.beginWithdrawal i .policyOff .settling false []

/-- The effect of a policy other than OFF: a DISABLED slot becomes VACANT or SETTLING (R48). -/
def State.policyOn (s : State) (i : Slot) : State :=
  if (s.ctx i).state = .disabled then
    if (s.ctx i).contact = .seated then
      let s := s.enterSettling i s.settleUs
      s.postSlot .inserted i 0 [optionCode ((s.ctx i).inrushClass.map fun c => byteOf c.val)]
    else s.enterEmpty i .vacant
  else s

/-- SET SLOT POLICY taken: the fields, the effect on the state, and the evaluation for a slot that was in the ramp queue
(R64). -/
def State.takePolicy (s : State) (i : Slot) (f : PolicyFields) : State :=
  let waiting := (s.railOf i).queued
  let s := s.writePolicy i f
  let s := if f.policy = .off then s.policyOff i else s.policyOn i
  if waiting then s.arbitrate else s

/-- SET SLOT POLICY (R19). -/
def requestSetSlotPolicy (tag slot policy priority inputPolicy triggerMode alertNotices : Byte) (s : State) : State :=
  match slotOf slot with
  | none => s.reply 0x10 tag .badSlot []
  | some i =>
    if s.safeOff then s.reply 0x10 tag .safeOff []
    else
      match policyFieldsOf policy priority inputPolicy triggerMode alertNotices with
      | none => s.reply 0x10 tag .badValue []
      | some f => (s.takePolicy i f).reply 0x10 tag .ok []

/-! ## RELEASE, REFUSE, RETRY, WITHDRAW -/

/-- RELEASE (R35). -/
def requestRelease (tag slot : Byte) (s : State) : State :=
  match slotOf slot with
  | none => s.reply 0x11 tag .badSlot []
  | some i =>
    if s.safeOff then s.reply 0x11 tag .safeOff []
    else if (s.ctx i).state = .parked then
      ((s.setState i .qualifying).startDetector i .qualify).reply 0x11 tag .ok []
    else s.reply 0x11 tag .wrongState []

/-- REFUSE (R36). -/
def requestRefuse (tag slot : Byte) (s : State) : State :=
  match slotOf slot with
  | none => s.reply 0x12 tag .badSlot []
  | some i =>
    if s.safeOff then s.reply 0x12 tag .safeOff []
    else if (s.ctx i).state = .parked then (s.refuseWith i .hostRefused []).reply 0x12 tag .ok []
    else s.reply 0x12 tag .wrongState []

/-- RETRY taken (R46): the attempts count is 0 and the slot settles afresh. -/
def State.retrySlot (s : State) (i : Slot) : State :=
  (s.enterSettling i s.settleUs).modCtx i fun c => { c with attempts := 0 }

/-- RETRY (R46). -/
def requestRetry (tag slot : Byte) (s : State) : State :=
  match slotOf slot with
  | none => s.reply 0x13 tag .badSlot []
  | some i =>
    if s.safeOff then s.reply 0x13 tag .safeOff []
    else if (s.ctx i).state = .refused ∨ (s.ctx i).state = .quarantined then
      (s.retrySlot i).reply 0x13 tag .ok []
    else s.reply 0x13 tag .wrongState []

/-- A WITHDRAW in SETTLING, RAMP_WAIT or an active state (R45). -/
def State.withdrawSlot (s : State) (i : Slot) : State :=
  (s.setVerdict i .hostRefused).beginWithdrawal i .host .refused false []

/-- WITHDRAW (R45). -/
def requestWithdraw (tag slot : Byte) (s : State) : State :=
  match slotOf slot with
  | none => s.reply 0x14 tag .badSlot []
  | some i =>
    if s.safeOff then s.reply 0x14 tag .safeOff []
    else
      match (s.ctx i).state with
      | .withdrawing => s.reply 0x14 tag .already []
      | .disabled | .vacant | .refused | .quarantined => s.reply 0x14 tag .wrongState []
      | _ => (s.withdrawSlot i).reply 0x14 tag .ok []

/-! ## LOCATE and ACK ALERT -/

/-- A LOCATE display begins, or begins again, with a burst (R15). -/
def State.startLocate (s : State) (i : Slot) (seconds : Nat) : State :=
  s.modMon i fun m => { m with locate := some ⟨seconds * Config.usPerSecond, 0, 0⟩ }

/-- LOCATE (R15). -/
def requestLocate (tag slot seconds : Byte) (s : State) : State :=
  match slotOf slot with
  | none => s.reply 0x15 tag .badSlot []
  | some i =>
    if s.safeOff then s.reply 0x15 tag .safeOff []
    else if seconds = 0 then
      if (s.mon i).locate.isSome then (s.modMon i fun m => { m with locate := none }).reply 0x15 tag .ok []
      else s.reply 0x15 tag .already []
    else if seconds.toNat ≤ Config.locateMaxSeconds then (s.startLocate i seconds.toNat).reply 0x15 tag .ok []
    else
      (s.startLocate i Config.locateMaxSeconds).reply 0x15 tag .okClamped [byteOf Config.locateMaxSeconds]

/-- ACK ALERT (R12). -/
def requestAckAlert (tag slot : Byte) (s : State) : State :=
  match slotOf slot with
  | none => s.reply 0x16 tag .badSlot []
  | some i =>
    if s.safeOff then s.reply 0x16 tag .safeOff []
    else if (s.mon i).sticky then (s.acknowledgeAlert i).reply 0x16 tag .ok []
    else s.reply 0x16 tag .already []

/-! ## CLEAR FAULT (R173, R174) -/

/-- At least one rack mark is set. -/
def RackMarks.any (m : RackMarks) : Bool := m.refLost || m.brownout || m.safeOff

/-- The rack marks after a clear: each is set again where its condition holds (R174). -/
def State.marksAfterClear (s : State) : RackMarks := ⟨s.clock.refLost, s.rail.brownout, s.safeOff⟩

/-- CLEAR FAULT for the rack (R174): the reply carries the marks as they stand after it. -/
def State.clearRackMarks (s : State) (tag : Byte) : State :=
  let status := if s.marks.any then Status.ok else Status.already
  { s with marks := s.marksAfterClear }.reply 0x17 tag status [s.marksAfterClear.byte]

/-- CLEAR FAULT for a slot (R173). -/
def State.clearSlotFault (s : State) (tag : Byte) (i : Slot) : State :=
  if s.slotMark i then
    (s.modCtx i fun c => { c with faultRecord := FaultRecord.empty }).reply 0x17 tag .ok []
  else s.reply 0x17 tag .already []

/-- CLEAR FAULT (R173): 0xFF names the rack, any other value above 11 is BAD_SLOT. -/
def requestClearFault (tag slot : Byte) (s : State) : State :=
  if slot = 0xFF then
    if s.safeOff then s.reply 0x17 tag .safeOff [] else s.clearRackMarks tag
  else
    match slotOf slot with
    | none => s.reply 0x17 tag .badSlot []
    | some i => if s.safeOff then s.reply 0x17 tag .safeOff [] else s.clearSlotFault tag i

/-! ## The commands -/

/-- SET_SLOT_POLICY -/
def execSetSlotPolicy (tag slot policy priority inputPolicy triggerMode alertNotices : Byte) (s : State) :
    Host.Outcome State Fault Refusal :=
  .next (requestSetSlotPolicy tag slot policy priority inputPolicy triggerMode alertNotices s)

/-- RELEASE -/
def execRelease (tag slot : Byte) (s : State) : Host.Outcome State Fault Refusal := .next (requestRelease tag slot s)

/-- REFUSE -/
def execRefuse (tag slot : Byte) (s : State) : Host.Outcome State Fault Refusal := .next (requestRefuse tag slot s)

/-- RETRY -/
def execRetry (tag slot : Byte) (s : State) : Host.Outcome State Fault Refusal := .next (requestRetry tag slot s)

/-- WITHDRAW -/
def execWithdraw (tag slot : Byte) (s : State) : Host.Outcome State Fault Refusal :=
  .next (requestWithdraw tag slot s)

/-- LOCATE -/
def execLocate (tag slot seconds : Byte) (s : State) : Host.Outcome State Fault Refusal :=
  .next (requestLocate tag slot seconds s)

/-- ACK_ALERT -/
def execAckAlert (tag slot : Byte) (s : State) : Host.Outcome State Fault Refusal :=
  .next (requestAckAlert tag slot s)

/-- CLEAR_FAULT -/
def execClearFault (tag slot : Byte) (s : State) : Host.Outcome State Fault Refusal :=
  .next (requestClearFault tag slot s)

end Sys2Proof.Machine
end

