-- ==== Sys2Proof/Machine/Link.lean ====
section
/-! DEFINITION. The link unit (Section 10): the transfer window, the judging and dispatch of a request frame, the building of
a reply, and hard reset (R194). -/

namespace Sys2Proof.Machine

open Sys2Proof

/-! ## Dispatch (R183) -/

/-- A request that the frame checks have passed goes to the block that owns it (R183). -/
def serve (i : Instr) (s : State) : State :=
  match i with
  | .status t => requestStatus t s
  | .slotInfo t x => requestSlotInfo t x s
  | .fetchNotices t n => requestFetchNotices t n s
  | .setParameter t id v w => requestSetParameter t id v w s
  | .getParameter t id => requestGetParameter t id s
  | .restart t => requestRestart t s
  | .setSlotPolicy t x p q ip tm an => requestSetSlotPolicy t x p q ip tm an s
  | .release t x => requestRelease t x s
  | .refuse t x => requestRefuse t x s
  | .retry t x => requestRetry t x s
  | .withdraw t x => requestWithdraw t x s
  | .locate t x n => requestLocate t x n s
  | .ackAlert t x => requestAckAlert t x s
  | .clearFault t x => requestClearFault t x s
  | .directoryAdd t b => requestDirectoryAdd t b s
  | .directoryDelete t k => requestDirectoryDelete t k s
  | .directoryRead t k => requestDirectoryRead t k s
  | .directoryFind t b => requestDirectoryFind t b s
  | .directoryKeep t k => requestDirectoryKeep t k s
  | .ageSweep t => requestAgeSweep t s
  | .scanStart t => requestScanStart t s
  | .scanStop t => requestScanStop t s
  | .imageRead t x g o n => requestImageRead t x g o n s
  | .imageWrite t x o d => requestImageWrite t x o d s
  | .imageMap t => requestImageMap t s
  | .setMode t m => requestSetMode t m s
  | .freeze t => requestFreeze t s
  | .thaw t => requestThaw t s
  | .safeOff t m => requestSafeOff t m s
  | _ => s

/-- The body of a BAD_LENGTH reply: the rack mode to SET MODE, whose every reply carries it (R192), and nothing otherwise.
DEDUCED (log entry 11). -/
def State.badLengthBody (s : State) (code : Byte) : List Byte := if code = 0x40 then [s.mode.code] else []

/-- A taken request (R183). -/
def State.takeRequest (s : State) (code tag : Byte) (body : List Byte) : State :=
  match Decode.request code tag body with
  | .ok i => serve i s
  | .error .unknownRequest => s.reply code tag .unknownRequest []
  | .error .badLength => s.reply code tag .badLength (s.badLengthBody code)

/-! ## Frames (R181) -/

/-- The byte at a place of the bytes received, 0 where it did not arrive. -/
def byteAt (bytes : List Byte) (k : Nat) : Byte := (bytes[k]?).getD 0

/-- The bytes of a frame whose length byte has arrived. -/
def frameSize (sdi : List Byte) : Nat := 6 + (byteAt sdi 1).toNat

/-- The frame has ended: its last CRC byte has been shifted in (R181). -/
def frameEnded (sdi : List Byte) : Bool := decide (2 ≤ sdi.length ∧ frameSize sdi ≤ sdi.length)

/-- The bytes that the check of a request frame covers (R189): from the length byte to the end of the body. -/
def frameCovered (sdi : List Byte) : List Byte := (sdi.drop 1).take (3 + (byteAt sdi 1).toNat)

/-- The body of a request frame. -/
def frameBody (sdi : List Byte) : List Byte := (sdi.drop 4).take (byteAt sdi 1).toNat

/-- A request frame is complete and correct (R181). -/
def frameGood (sdi : List Byte) : Bool :=
  frameEnded sdi && byteAt sdi 0 == 0xD1 && decide ((byteAt sdi 1).toNat ≤ 80)
    && (sdi.drop (4 + (byteAt sdi 1).toNat)).take 2 == crcTail (frameCovered sdi)

/-! ## Replies (R180, R182) -/

/-- A reply is built: it carries DROPPED and clears it, and the link becomes REPLY_READY (R180, R182). -/
def Link.build (l : Link) (code tag : Byte) (status : Status) (body : List Byte) (overflow : Bool) : Link :=
  { l with
    state := .replyReady
    answer := none
    reply := some ⟨code, tag, status, l.dropped, overflow, body⟩
    dropped := false }

/-- A discarded frame is answered with FRAME_ERROR, built at the end of the window (R181). -/
def State.frameError (s : State) (sdi : List Byte) : State :=
  { s with link := s.link.build (byteAt sdi 2) (byteAt sdi 3) .frameError [] s.notices.overflow }

/-- The frame of a window that started while the link was IDLE or REPLY_READY (R181). -/
def State.judgeFrame (s : State) (sdi : List Byte) : State :=
  if sdi = [] then s
  else if frameGood sdi then s.takeRequest (byteAt sdi 2) (byteAt sdi 3) (frameBody sdi)
  else s.frameError sdi

/-- The bytes on SDO: the reply from its marker onward, then 0xFF (R180). -/
def sdoBytes (reply : Option Reply) (n : Nat) : List Byte :=
  (((reply.map Reply.frame).getD []) ++ List.replicate n 0xFF).take n

/-- The reply that a window shifts out: the one that waited at its start (R180). -/
def Link.shifted (l : Link) (start : LinkState) : Option Reply :=
  if start = .replyReady then l.reply else none

/-- A window ends: what SDO carried is recorded, and a reply shifted out is consumed (R180). -/
def Link.closeWindow (l : Link) (start : LinkState) (n : Nat) : Link :=
  let sdo := sdoBytes (l.shifted start) n
  if start = .replyReady ∧ l.state = .replyReady then
    { l with window := .closed, sdo := sdo, state := .idle, reply := none }
  else { l with window := .closed, sdo := sdo }

/-- A frame in a window that started while the link was HANDLING sets DROPPED, once (R182). -/
def Link.dropFrame (l : Link) (frameSeen : Bool) (sdi : List Byte) : Link :=
  if sdi ≠ [] ∧ frameSeen = false then { l with dropped := true } else l

/-- A window in which a request has been taken ends: the link becomes HANDLING (R181). -/
def Link.endTaken (l : Link) : Link := { l with state := .handling, reply := none }

/-- An open window ends (R180 to R182). A frame that has been judged within the window is not judged again. -/
def State.endWindow (s : State) (start : LinkState) (frameSeen : Bool) (sdi : List Byte) : State :=
  let s := { s with link := s.link.closeWindow start sdi.length }
  match start with
  | .handling => { s with link := s.link.dropFrame frameSeen sdi }
  | _ => if frameSeen then { s with link := s.link.endTaken } else s.judgeFrame sdi

/-- A reply is built while a window is open: a frame of that window that has ended already, in a window that started
HANDLING, has set DROPPED before the reply (R182). -/
def Link.noteDrop (l : Link) (seen : List Byte) : Link :=
  match l.window with
  | .opened .handling false =>
    if frameEnded seen then { l with dropped := true, window := .opened .handling true } else l
  | _ => l

/-! ## The commands -/

/-- TRANSFER_WINDOW_START (R180): the link state at the start is kept for the window. -/
def execTransferWindowStart (s : State) : Host.Outcome State Fault Refusal :=
  .next <|
    match s.link.window with
    | .closed => { s with link := { s.link with window := .opened s.link.state false } }
    | _ => s

/-- TRANSFER_WINDOW_END (R181): a window that was open when hard reset ended is ignored to its end (R190). -/
def execTransferWindowEnd (sdi : List Byte) (s : State) : Host.Outcome State Fault Refusal :=
  .next <|
    match s.link.window with
    | .closed => s
    | .ignored => { s with link := { s.link with window := .closed, sdo := sdoBytes none sdi.length } }
    | .opened start frameSeen => s.endWindow start frameSeen sdi

/-- REPLY_BUILT (R180, R182, R183): taken in HANDLING. -/
def execReplyBuilt (seen : List Byte) (s : State) : Host.Outcome State Fault Refusal :=
  .next <|
    match s.link.state, s.link.answer with
    | .handling, some a =>
      let overflow := a.overflow.getD s.notices.overflow
      { s with link := (s.link.noteDrop seen).build a.code a.tag a.status a.body overflow }
    | _, _ => s

/-- The window after hard reset: one that is open is ignored to its end (R190). -/
def WindowState.afterReset : WindowState → WindowState
  | .closed => .closed
  | _ => .ignored

/-- HARD_RESET (R194): every block takes its hard-reset values. -/
def execHardReset (s : State) : Host.Outcome State Fault Refusal :=
  .next { State.reset with
    link := { Link.reset with window := s.link.window.afterReset }
    pending := s.pending }

end Sys2Proof.Machine
end

