-- ==== Sys2Proof/Machine/MonitorEvents.lean ====
section
/-! DEFINITION. The events of the slot monitor (Section 1): the sample of a slot's lines, the ends of the dark pulse, of the
LOCATE display and of an LED phase, and the settle timer's expiry (R30). -/

namespace Sys2Proof.Machine

open Sys2Proof

/-! ## The contacts (R2 to R7) -/

/-- The raw contact state (R2). -/
def rawContact : ContactLine → ContactLine → ContactState
  | .broken, _ => .opened
  | .made, .broken => .partway
  | .made, .made => .seated

/-- How far the card is made (R2). -/
def ContactState.rank : ContactState → Nat
  | .opened => 0
  | .partway => 1
  | .seated => 2

/-- The threshold of a candidate: MAKE_FILTER toward more made, 2 toward less made (R3). -/
def debounceThreshold (makeFilter : Nat) (contact candidate : ContactState) : Nat :=
  if contact.rank < candidate.rank then makeFilter else Config.breakFilter

/-- The step of R3 before the threshold is compared. -/
def Monitor.track (m : Monitor) (raw : ContactState) : Monitor :=
  if raw = m.contact then { m with candidate := none, run := 0 }
  else if m.candidate = some raw then { m with run := m.run + 1 }
  else { m with candidate := some raw, run := 1 }

/-- The contact state moves to a candidate whose run has reached its threshold (R3). -/
def Monitor.settle (m : Monitor) (makeFilter : Nat) : Monitor :=
  match m.candidate with
  | none => m
  | some c =>
    if debounceThreshold makeFilter m.contact c ≤ m.run then
      { m with contact := c, candidate := none, run := 0 }
    else m

/-- The class that the keying pins give (R7). -/
def classOfKey (key : BitVec 3) : InrushClass := key.toFin

/-- The seated class after a change of contact state (R7). -/
def Monitor.readKey (m : Monitor) (key : BitVec 3) : Monitor :=
  match m.contact with
  | .seated => { m with seatedClass := some (classOfKey key) }
  | .partway => m
  | .opened => { m with seatedClass := none }

/-- The debounce step, and the reading of the keying pins where the contact state changes (R3, R7). -/
def Monitor.debounce (m : Monitor) (makeFilter : Nat) (raw : ContactState) (key : BitVec 3) : Monitor :=
  let n := (m.track raw).settle makeFilter
  if n.contact = m.contact then n else n.readKey key

/-- The report of a contact change to the sequencer, which copies the new state in every slot state (R6). -/
def State.contactChange (s : State) (i : Slot) (old new : ContactState) (key : BitVec 3) : State :=
  let s := s.modCtx i fun c => { c with contact := new }
  match new with
  | .seated => s.seatCard i (classOfKey key)
  | .partway => if old = .seated then s.removeCard i .partway else s
  | .opened => if old = .seated then s.removeCard i .opened else s

/-- The debounce step of a sample, with its report (R1, R3, R6). -/
def State.sampleContacts (s : State) (i : Slot) (raw : ContactState) (key : BitVec 3) : State :=
  let old := (s.mon i).contact
  let s := s.modMon i fun m => m.debounce s.params.makeFilter raw key
  let new := (s.mon i).contact
  if new = old then s else s.contactChange i old new key

/-! ## The alert line (R8, R9) -/

/-- The trigger condition at a sample (R8). -/
def TriggerMode.met : TriggerMode → Level → Level → Bool
  | .level, now, _ => now == .low
  | .change, now, last => now != last
  | .fall, now, last => now == .low && last == .high
  | .rise, now, last => now == .high && last == .low

/-- The alert line of a sample: evaluated in ONLINE, and recorded in every state (R8, R9). -/
def State.sampleAlert (s : State) (i : Slot) (alert : Level) : State :=
  let m := s.mon i
  let s :=
    if (s.ctx i).state = .online ∧ m.triggerMode.met alert m.lastAlert = true ∧ m.sticky = false then s.setSticky i
    else s
  s.modMon i fun m => { m with lastAlert := alert }

/-! ## The indicator (R1, R13 to R15) -/

/-- A sample counts toward the LED phases (R1). -/
def Monitor.countSample (m : Monitor) : Monitor :=
  { m with
    ledSamples := m.ledSamples + 1
    locate := m.locate.map fun l => { l with samples := l.samples + 1 } }

/-- The pattern moves to its next phase if the samples of this one have been counted (R13). -/
def Monitor.endPatternPhase (m : Monitor) : Monitor :=
  match phaseLength m.pattern.phases m.ledPhase with
  | none => m
  | some n =>
    if n ≤ m.ledSamples then
      { m with ledPhase := nextPhase m.pattern.phases m.ledPhase, ledSamples := m.ledSamples - n }
    else m

/-- The LOCATE display moves to its next phase if the samples of this one have been counted (R15). -/
def Locate.endPhase (l : Locate) : Locate :=
  match phaseLength locatePhases l.phase with
  | none => l
  | some n =>
    if n ≤ l.samples then { l with phase := nextPhase locatePhases l.phase, samples := l.samples - n } else l

/-! ## The settle timer (R30) -/

/-- A settle timer expires in SETTLING (R30, R59). -/
def State.settleExpired (s : State) (i : Slot) : State :=
  let s := s.modCtx i fun c => { c with settleTimer := none }
  if (s.ctx i).inrushClass.getD 0 = 0 then s.identify i
  else if s.neverFits i then s.refuseWith i .noPower []
  else s.joinRampQueue i

/-! ## The commands -/

/-- SLOT_SAMPLE (R1): the sample ends the sample period that the LED has shown, and then the contacts and the alert line are
read, so that a pattern that this sample begins starts at 0 samples. -/
def execSlotSample (slot : Slot) (presL presS : ContactLine) (key : BitVec 3) (alert : Level) (s : State) :
    Host.Outcome State Fault Refusal :=
  .next (((s.modMon slot Monitor.countSample).sampleContacts slot (rawContact presL presS) key).sampleAlert slot alert)

/-- DARK_PULSE_EXPIRY (R14). -/
def execDarkPulseExpiry (slot : Slot) (s : State) : Host.Outcome State Fault Refusal :=
  .next (s.modMon slot fun m => { m with darkPulse := none })

/-- LOCATE_EXPIRY (R15). -/
def execLocateExpiry (slot : Slot) (s : State) : Host.Outcome State Fault Refusal :=
  .next (s.modMon slot fun m => { m with locate := none })

/-- LED_PHASE_END (R13, R15). -/
def execLedPhaseEnd (slot : Slot) (layer : LedLayer) (s : State) : Host.Outcome State Fault Refusal :=
  .next <|
    match layer with
    | .pattern => s.modMon slot Monitor.endPatternPhase
    | .locate => s.modMon slot fun m => { m with locate := m.locate.map Locate.endPhase }

/-- SETTLE_TIMER_EXPIRY (R30): nothing where no settle timer runs. -/
def execSettleTimerExpiry (slot : Slot) (s : State) : Host.Outcome State Fault Refusal :=
  .next (if (s.ctx slot).state = .settling ∧ (s.ctx slot).settleTimer.isSome = true then s.settleExpired slot else s)

end Sys2Proof.Machine
end

