-- ==== Sys2Proof/Machine/RailEvents.lean ====
section
/-! DEFINITION. The events of the rail budget unit (Section 3): the rail sample, power-good and its loss, a trip, and the
expiries of the ramp and discharge timers. -/

namespace Sys2Proof.Machine

open Sys2Proof

/-! ## The rail sample (R53 to R56) -/

/-- SAG at a sample, with its hysteresis and its notices (R55). -/
def State.updateSag (s : State) : State :=
  if s.rail.sag = false ∧ s.rail.value < s.params.railFullMv then
    { s with rail := { s.rail with sag := true } }.postRack .railSag 0 (be16 s.rail.value)
  else if s.rail.sag = true ∧ s.params.railFullMv + Config.sagHysteresisMv ≤ s.rail.value then
    { s with rail := { s.rail with sag := false } }.postRack .railSag 1 (be16 s.rail.value)
  else s

/-- BROWNOUT at a sample; its mark is set where it becomes true (R56, R174). -/
def State.updateBrownout (s : State) : State :=
  let now := decide (s.rail.value < s.params.railFloorMv)
  { s with
    rail := { s.rail with brownout := now }
    marks := { s.marks with brownout := s.marks.brownout || (now && !s.rail.brownout) } }

/-- Steps 1 to 3 of a rail sample (R53). -/
def State.sampleRail (s : State) (reading : Nat) : State :=
  let s := { s with rail := { s.rail with value := min reading Config.railMaxMv } }
  s.recomputeE.updateSag.updateBrownout

/-! ## Power-good -/

/-- Power-good is taken for a slot in RAMPING (R66). -/
def State.powerGood (s : State) (i : Slot) : State :=
  let s := s.modSlot i fun r =>
    { r with
      ctx := { r.ctx with inrushCommitted := 0 }
      rail := { r.rail with rampTimer := none, powerSeen := true } }
  (s.identify i).arbitrate

/-- Power-good falls after it was seen, and has not been reported yet (R68). -/
def RailSlot.losesPower (r : RailSlot) : Bool := r.closed && r.powerSeen && !r.lossReported

/-! ## The commands -/

/-- RAIL_SAMPLE (R53): the arbiter evaluates where BROWNOUT ended or E rose. -/
def execRailSample (reading : Nat) (s : State) : Host.Outcome State Fault Refusal :=
  let t := s.sampleRail reading
  .next (if (s.rail.brownout && !t.rail.brownout) || decide (s.rail.effective < t.rail.effective) then t.arbitrate
    else t)

/-- PWR_GOOD_ASSERT (R66): taken in RAMPING with the switch closed. -/
def execPwrGoodAssert (slot : Slot) (s : State) : Host.Outcome State Fault Refusal :=
  .next (if (s.ctx slot).state = .ramping ∧ (s.railOf slot).closed = true then s.powerGood slot else s)

/-- RAMP_TIMER_EXPIRY (R67). -/
def execRampTimerExpiry (slot : Slot) (s : State) : Host.Outcome State Fault Refusal :=
  .next <|
    if (s.ctx slot).state = .ramping ∧ (s.railOf slot).rampTimer.isSome = true then
      (s.modRail slot fun r => { r with rampTimer := none }).reportFault slot .powerGoodTimeout
    else s

/-- PWR_GOOD_DEASSERT (R68). -/
def execPwrGoodDeassert (slot : Slot) (s : State) : Host.Outcome State Fault Refusal :=
  .next <|
    if (s.railOf slot).losesPower then
      (s.modRail slot fun r => { r with lossReported := true }).reportFault slot .powerLost
    else s

/-- PWR_TRIP (R69). -/
def execPwrTrip (slot : Slot) (s : State) : Host.Outcome State Fault Refusal :=
  .next <|
    if (s.railOf slot).closed then ((s.openSwitch slot).reportFault slot .overcurrent).arbitrate else s

/-- DISCHARGE_TIMER_EXPIRY (R72, R165). -/
def execDischargeTimerExpiry (slot : Slot) (s : State) : Host.Outcome State Fault Refusal :=
  .next <|
    if (s.railOf slot).dischargeTimer.isSome then
      (s.modRail slot fun r => { r with dischargeTimer := none }).endIfDone slot
    else s

end Sys2Proof.Machine
end

