-- ==== Sys2Proof/Machine/ScanEvents.lean ====
section
/-! DEFINITION. The events of the scan engine (Section 8): the period timer's expiry and the events of an exchange. -/

namespace Sys2Proof.Machine

open Sys2Proof

/-- The exchange on the lane moves to a phase (R155). -/
def State.setPhase (s : State) (p : ExchangePhase) : State :=
  s.modScanRack fun c => { c with exchange := c.exchange.map fun e => { e with phase := p } }

/-- The exchange on the lane, if it stands in a phase. -/
def State.exchangeIn (s : State) (p : ExchangePhase) : Option Exchange :=
  s.scan.exchange.filter fun e => e.phase == p

/-- The inputs of a reply of `1 + n + 2` bytes that carries the slot's number and a correct check value (R155). -/
def replyInputs (i : Slot) (n : Nat) (reply : List Byte) : Option (List Byte) :=
  let covered := reply.take (1 + n)
  if covered.head? = some (byteOf i.val) ∧ (reply.drop (1 + n)).take 2 = crcTail covered then some (covered.drop 1)
  else none

/-- A reply has ended by count (R155): OK or CHECK_FAIL, or nothing but the exchange's end where it was discarded (R164). A
reply that is shorter than the count has not ended. DEDUCED: the count is the one fixed as the exchange began, also for a
discarded exchange (log entry 17). -/
def State.judgeReply (s : State) (e : Exchange) (reply : List Byte) : State :=
  if reply.length < 1 + e.inputs + 2 then s
  else if e.discarded then s.endDiscarded
  else
    match replyInputs e.slot e.inputs reply with
    | some inputs => (s.exchangeOk e.slot inputs).endExchange e.slot
    | none => (s.exchangeFailed e.slot).endExchange e.slot

/-- The exchange ends NO_RESPONSE or CHECK_FAIL (R157), or is discarded (R164). -/
def State.failExchange (s : State) (e : Exchange) : State :=
  if e.discarded then s.endDiscarded else (s.exchangeFailed e.slot).endExchange e.slot

/-! ## The commands -/

/-- PERIOD_TIMER_EXPIRY (R149): taken while the timer runs. -/
def execPeriodTimerExpiry (s : State) : Host.Outcome State Fault Refusal :=
  .next <|
    match s.scan.period with
    | .running _ =>
      let s := s.modScanRack fun c => { c with period := .expired }
      if s.scan.state = .running ∧ s.exchangesEnded = true then s.boundary else s
    | _ => s

/-- EXCHANGE_FRAME_SENT (R155): the response window opens. -/
def execExchangeFrameSent (s : State) : Host.Outcome State Fault Refusal :=
  .next (if (s.exchangeIn .sending).isSome then s.setPhase .window else s)

/-- REPLY_BEGIN (R155): taken in the response window. -/
def execReplyBegin (s : State) : Host.Outcome State Fault Refusal :=
  .next (if (s.exchangeIn .window).isSome then s.setPhase .replying else s)

/-- REPLY_END (R155, R156, R157): taken while a reply is being received. -/
def execReplyEnd (reply : List Byte) (s : State) : Host.Outcome State Fault Refusal :=
  .next <|
    match s.exchangeIn .replying with
    | some e => s.judgeReply e reply
    | none => s

/-- RESPONSE_WINDOW_EXPIRY (R155): NO_RESPONSE, taken in the response window. -/
def execResponseWindowExpiry (s : State) : Host.Outcome State Fault Refusal :=
  .next <|
    match s.exchangeIn .window with
    | some e => s.failExchange e
    | none => s

/-- REPLY_SILENCE_TIMEOUT (R155): CHECK_FAIL, taken while a reply is being received. -/
def execReplySilenceTimeout (s : State) : Host.Outcome State Fault Refusal :=
  .next <|
    match s.exchangeIn .replying with
    | some e => s.failExchange e
    | none => s

end Sys2Proof.Machine
end

