-- ==== Sys2Proof/Machine/Dispatch.lean ====
section
/-! DEFINITION. The effect of each command on everything but the queue: one arm for each row of spec/opcode_table.json. -/

namespace Sys2Proof.Machine

open Sys2Proof

def exec (i : Instr) (s : State) : Host.Outcome State Fault Refusal :=
  match i with
  | .hardReset => Sys2Proof.Machine.execHardReset s
  | .transferWindowStart => Sys2Proof.Machine.execTransferWindowStart s
  | .transferWindowEnd sdi => Sys2Proof.Machine.execTransferWindowEnd sdi s
  | .replyBuilt seen => Sys2Proof.Machine.execReplyBuilt seen s
  | .status tag => Sys2Proof.Machine.execStatus tag s
  | .slotInfo tag slot => Sys2Proof.Machine.execSlotInfo tag slot s
  | .fetchNotices tag maximum => Sys2Proof.Machine.execFetchNotices tag maximum s
  | .setParameter tag id value second => Sys2Proof.Machine.execSetParameter tag id value second s
  | .getParameter tag id => Sys2Proof.Machine.execGetParameter tag id s
  | .restart tag => Sys2Proof.Machine.execRestart tag s
  | .setSlotPolicy tag slot policy priority inputPolicy triggerMode alertNotices => Sys2Proof.Machine.execSetSlotPolicy tag slot policy priority inputPolicy triggerMode alertNotices s
  | .release tag slot => Sys2Proof.Machine.execRelease tag slot s
  | .refuse tag slot => Sys2Proof.Machine.execRefuse tag slot s
  | .retry tag slot => Sys2Proof.Machine.execRetry tag slot s
  | .withdraw tag slot => Sys2Proof.Machine.execWithdraw tag slot s
  | .locate tag slot seconds => Sys2Proof.Machine.execLocate tag slot seconds s
  | .ackAlert tag slot => Sys2Proof.Machine.execAckAlert tag slot s
  | .clearFault tag slot => Sys2Proof.Machine.execClearFault tag slot s
  | .directoryAdd tag body => Sys2Proof.Machine.execDirectoryAdd tag body s
  | .directoryDelete tag index => Sys2Proof.Machine.execDirectoryDelete tag index s
  | .directoryRead tag index => Sys2Proof.Machine.execDirectoryRead tag index s
  | .directoryFind tag body => Sys2Proof.Machine.execDirectoryFind tag body s
  | .directoryKeep tag index => Sys2Proof.Machine.execDirectoryKeep tag index s
  | .ageSweep tag => Sys2Proof.Machine.execAgeSweep tag s
  | .scanStart tag => Sys2Proof.Machine.execScanStart tag s
  | .scanStop tag => Sys2Proof.Machine.execScanStop tag s
  | .imageRead tag slot image offset length => Sys2Proof.Machine.execImageRead tag slot image offset length s
  | .imageWrite tag slot offset data => Sys2Proof.Machine.execImageWrite tag slot offset data s
  | .imageMap tag => Sys2Proof.Machine.execImageMap tag s
  | .setMode tag mode => Sys2Proof.Machine.execSetMode tag mode s
  | .freeze tag => Sys2Proof.Machine.execFreeze tag s
  | .thaw tag => Sys2Proof.Machine.execThaw tag s
  | .safeOff tag mask => Sys2Proof.Machine.execSafeOff tag mask s
  | .slotSample slot presL presS key alert => Sys2Proof.Machine.execSlotSample slot presL presS key alert s
  | .darkPulseExpiry slot => Sys2Proof.Machine.execDarkPulseExpiry slot s
  | .locateExpiry slot => Sys2Proof.Machine.execLocateExpiry slot s
  | .ledPhaseEnd slot layer => Sys2Proof.Machine.execLedPhaseEnd slot layer s
  | .settleTimerExpiry slot => Sys2Proof.Machine.execSettleTimerExpiry slot s
  | .railSample reading => Sys2Proof.Machine.execRailSample reading s
  | .pwrGoodAssert slot => Sys2Proof.Machine.execPwrGoodAssert slot s
  | .rampTimerExpiry slot => Sys2Proof.Machine.execRampTimerExpiry slot s
  | .pwrGoodDeassert slot => Sys2Proof.Machine.execPwrGoodDeassert slot s
  | .pwrTrip slot => Sys2Proof.Machine.execPwrTrip slot s
  | .dischargeTimerExpiry slot => Sys2Proof.Machine.execDischargeTimerExpiry slot s
  | .cardAcknowledge => Sys2Proof.Machine.execCardAcknowledge s
  | .acknowledgeTimerExpiry => Sys2Proof.Machine.execAcknowledgeTimerExpiry s
  | .identityTransferComplete record => Sys2Proof.Machine.execIdentityTransferComplete record s
  | .holdTimerExpiryTransaction => Sys2Proof.Machine.execHoldTimerExpiryTransaction s
  | .holdTimerExpiryMessage => Sys2Proof.Machine.execHoldTimerExpiryMessage s
  | .recoveryTimerExpiry => Sys2Proof.Machine.execRecoveryTimerExpiry s
  | .retryGapExpiry => Sys2Proof.Machine.execRetryGapExpiry s
  | .cardMessageBegin => Sys2Proof.Machine.execCardMessageBegin s
  | .cardMessageEnd sender length data check => Sys2Proof.Machine.execCardMessageEnd sender length data check s
  | .lockCheckpoint16 slot => Sys2Proof.Machine.execLockCheckpoint16 slot s
  | .lockCheckpoint32 slot => Sys2Proof.Machine.execLockCheckpoint32 slot s
  | .lockCheckpoint64 slot => Sys2Proof.Machine.execLockCheckpoint64 slot s
  | .qualificationTimerExpiry slot => Sys2Proof.Machine.execQualificationTimerExpiry slot s
  | .graceTimerExpiry slot => Sys2Proof.Machine.execGraceTimerExpiry slot s
  | .watchTimerExpiry => Sys2Proof.Machine.execWatchTimerExpiry s
  | .referenceReturnEdge => Sys2Proof.Machine.execReferenceReturnEdge s
  | .returnTimerExpiry => Sys2Proof.Machine.execReturnTimerExpiry s
  | .periodTimerExpiry => Sys2Proof.Machine.execPeriodTimerExpiry s
  | .replyEnd reply => Sys2Proof.Machine.execReplyEnd reply s
  | .responseWindowExpiry => Sys2Proof.Machine.execResponseWindowExpiry s
  | .replySilenceTimeout => Sys2Proof.Machine.execReplySilenceTimeout s
  | .ageIntervalExpiry => Sys2Proof.Machine.execAgeIntervalExpiry s
  | .referenceEdge => Sys2Proof.Machine.execReferenceEdge s
  | .clkRetEdge slot => Sys2Proof.Machine.execClkRetEdge slot s
  | .exchangeFrameSent => Sys2Proof.Machine.execExchangeFrameSent s
  | .replyBegin => Sys2Proof.Machine.execReplyBegin s

end Sys2Proof.Machine
end

