-- ==== Sys2Proof/Machine/Time.lean ====
section
/-! DEFINITION. The passing of one microsecond, which is what a step does when no command waits: every running timer has one
microsecond less. DESIGN CHOICE (log entry 12). An expiry is its own command. -/

namespace Sys2Proof.Machine

open Sys2Proof

/-- A running timer after one microsecond. -/
def tickTimer (t : Option Nat) : Option Nat := t.map fun us => us - 1

/-- A slot monitor after one microsecond. DESIGN CHOICE: the dark pulse's 100 ms (R14) is a timer in microseconds like the
LOCATE display's time, and SLOT_SAMPLE does not count it (log entry 32); the phases of the LED are counted in samples (R1). -/
def Monitor.tick (m : Monitor) : Monitor :=
  { m with
    darkPulse := tickTimer m.darkPulse
    locate := m.locate.map fun l => { l with us := l.us - 1 } }

/-- A paused qualification timer keeps its time (R105). -/
def QualTimer.tick : QualTimer → QualTimer
  | .running us => .running (us - 1)
  | t => t

def Detector.tick (d : Detector) : Detector :=
  { d with qualTimer := d.qualTimer.tick, graceTimer := tickTimer d.graceTimer }

def RailSlot.tick (r : RailSlot) : RailSlot :=
  { r with rampTimer := tickTimer r.rampTimer, dischargeTimer := tickTimer r.dischargeTimer }

def SlotRecord.tick (r : SlotRecord) : SlotRecord :=
  { r with
    monitor := r.monitor.tick
    ctx := { r.ctx with settleTimer := tickTimer r.ctx.settleTimer }
    rail := r.rail.tick
    detector := r.detector.tick }

def Lane.tick (l : Lane) : Lane :=
  { l with
    retryGap := tickTimer l.retryGap
    holdTimer := tickTimer l.holdTimer
    acknowledgeTimer := tickTimer l.acknowledgeTimer
    recoveryTimer := tickTimer l.recoveryTimer }

def Clock.tick (c : Clock) : Clock :=
  { c with watchTimer := tickTimer c.watchTimer, returnTimer := tickTimer c.returnTimer }

def PeriodTimer.tick : PeriodTimer → PeriodTimer
  | .running us => .running (us - 1)
  | t => t

/-- One microsecond passes. -/
def tick (s : State) : State :=
  { s.mapSlots SlotRecord.tick with
    lane := s.lane.tick
    clock := s.clock.tick
    directory := { s.directory with ageTimer := tickTimer s.directory.ageTimer }
    scan := { s.scan with period := s.scan.period.tick } }

end Sys2Proof.Machine
end

