-- ==== Sys2Proof/Safety.lean ====
section
/-! DEFINITION. What a safe run keeps: the invariants that the spec states for every state of the part, each as a predicate
on one state, and the frames that the statements use. -/

namespace Sys2Proof.Safety

open Sys2Proof Sys2Proof.Machine

/-! ## Frames -/

/-- `t` differs from `s` at most in the link unit. -/
def OnlyLink (s t : State) : Prop := { t with link := s.link } = s

/-- `t` differs from `s` at most in the link unit and the notice queue. -/
def OnlyLinkAndNotices (s t : State) : Prop := { t with link := s.link, notices := s.notices } = s

/-- `t` differs from `s` at most in the record of slot `i`. -/
def OnlySlot (i : Slot) (s t : State) : Prop :=
  (∀ j, j ≠ i → t.slot j = s.slot j) ∧ { t with slots := s.slots } = s

/-- `t` differs from `s` at most in the record of slot `i` and the link unit. -/
def OnlySlotAndLink (i : Slot) (s t : State) : Prop :=
  (∀ j, j ≠ i → t.slot j = s.slot j) ∧ { t with slots := s.slots, link := s.link } = s

/-- `t` differs from `s` at most in the record of slot `i` and the notice queue. -/
def OnlySlotAndNotices (i : Slot) (s t : State) : Prop :=
  (∀ j, j ≠ i → t.slot j = s.slot j) ∧ { t with slots := s.slots, notices := s.notices } = s

/-- `t` differs from `s` at most in the directory's entries and the link unit. -/
def OnlyDirectoryAndLink (s t : State) : Prop := { t with directory := s.directory, link := s.link } = s

/-- `t` differs from `s` at most in the lane controller. -/
def OnlyLane (s t : State) : Prop := { t with lane := s.lane } = s

/-- The request is taken: the link unit takes the answer with the code, tag, status and body given, and OVERFLOW is left to
the moment at which the reply is built (R180, R183). What taking does to the link is stated in
`Obligations.TakenFrameRunsItsRequest`. -/
def Answers (s t : State) (code tag : Byte) (status : Status) (body : List Byte) : Prop :=
  t.link = s.link.take ⟨code, tag, status, body, none⟩

/-- `t` differs from `s` at most in the record of slot `i`, the directory's users counts, the notice queue and the link
unit. -/
def OnlySlotAndMatch (i : Slot) (s t : State) : Prop :=
  (∀ j, j ≠ i → t.slot j = s.slot j)
    ∧ { t with slots := s.slots, directory := s.directory, notices := s.notices, link := s.link } = s
    ∧ t.directory.ageTimer = s.directory.ageTimer

/-- Slot `i` has dropped its match: the entry that the match named has one user less, and every other entry is as it was
(R113). -/
def MatchDropped (i : Slot) (s t : State) : Prop :=
  (t.ctx i).matched = none
    ∧ ∀ k, t.entry k
        = if (s.ctx i).matched = some k then { s.entry k with users := (s.entry k).users - 1 } else s.entry k

/-- `t` differs from `s` at most in the record of slot `i`, in slots of the ramp queue and in last granted, as an
evaluation of the arbiter changes them, and in the notice queue and the link unit. -/
def OnlySlotAndGrants (i : Slot) (s t : State) : Prop :=
  (∀ j, j ≠ i → (s.slot j).rail.queued = false → t.slot j = s.slot j)
    ∧ { t with
        slots := s.slots, notices := s.notices, link := s.link
        rail := { t.rail with lastGranted := s.rail.lastGranted } } = s

/-- Slot `i` is withdrawing with its switch open, its commitments released and its discharge running (R29, R71). -/
def PoweredDown (i : Slot) (s t : State) (reason : Reason) (dest : Destination) : Prop :=
  (t.ctx i).state = .withdrawing ∧ (t.ctx i).reason = some reason ∧ (t.ctx i).destination = some dest
    ∧ (t.ctx i).leaving = some .none ∧ (t.ctx i).inrushCommitted = 0 ∧ (t.ctx i).steadyCommitted = 0
    ∧ (t.railOf i).closed = false ∧ (t.railOf i).rampTimer = none
    ∧ (t.railOf i).dischargeTimer = some (s.params.dischargeTime * 1000)
    ∧ (t.ctx i).identity = (s.ctx i).identity ∧ (t.ctx i).matched = (s.ctx i).matched
    ∧ (t.ctx i).policy = (s.ctx i).policy ∧ (t.ctx i).contact = (s.ctx i).contact

/-- Slot `i` is in a state of its bring-up in which its switch is closed, it waits on no lane read and it has no roster
place. -/
def PoweredBringUp (i : Slot) (s : State) : Prop :=
  ((s.ctx i).state = .ramping ∨ (s.ctx i).state = .parked ∨ (s.ctx i).state = .qualifying)
    ∧ (s.railOf i).closed = true ∧ (s.railOf i).queued = false ∧ s.inRoster i = false

/-- Slot `i` is in SETTLING, RAMP_WAIT or an active state before ONLINE, and has no roster place. -/
def InBringUp (i : Slot) (s : State) : Prop :=
  ((s.ctx i).state = .settling ∨ (s.ctx i).state = .rampWait ∨ (s.ctx i).state = .ramping
    ∨ (s.ctx i).state = .identifying ∨ (s.ctx i).state = .parked ∨ (s.ctx i).state = .qualifying
    ∨ (s.ctx i).state = .spliceWait) ∧ s.inRoster i = false

/-- The fields of a taken SET SLOT POLICY stand in slot `i` (R10, R19). -/
def FieldsWritten (i : Slot) (f : PolicyFields) (t : State) : Prop :=
  (t.ctx i).policy = f.policy ∧ (t.ctx i).priority = f.priority ∧ (t.ctx i).inputPolicy = f.inputPolicy
    ∧ (t.mon i).triggerMode = f.triggerMode ∧ (t.mon i).alertNotices = f.alertNotices

/-- The run of slot `i`'s debounce after a sample that reads `raw`, a state other than the contact state: one more for the
candidate, and 1 for a new one (R3). -/
def runAfter (i : Slot) (raw : ContactState) (s : State) : Nat :=
  if (s.mon i).candidate = some raw then (s.mon i).run + 1 else 1

/-- Slot `i` is in the roster, ONLINE, with its switch closed. -/
def OnlineInRoster (i : Slot) (s : State) : Prop :=
  (s.ctx i).state = .online ∧ s.inRoster i = true ∧ (s.railOf i).closed = true ∧ (s.railOf i).queued = false

/-- `t` differs from `s` at most in the record of slot `i`, in slots of the ramp queue, in last granted, in the lane
controller, in the images and the users counts, and in the notice queue and the link unit. -/
def OnlySlotAndWork (i : Slot) (s t : State) : Prop :=
  (∀ j, j ≠ i → (s.railOf j).queued = false → t.slot j = s.slot j)
    ∧ { t with
        slots := s.slots, lane := s.lane, imageIn := s.imageIn, imageOut := s.imageOut, directory := s.directory
        notices := s.notices, link := s.link, rail := { t.rail with lastGranted := s.rail.lastGranted } } = s
    ∧ t.directory.ageTimer = s.directory.ageTimer

/-- `t` differs from `s` at most in the record of slot `i`, in slots of the ramp queue and in last granted, in the lane
controller and in the notice queue. -/
def OnlySlotLaneAndGrants (i : Slot) (s t : State) : Prop :=
  (∀ j, j ≠ i → (s.railOf j).queued = false → t.slot j = s.slot j)
    ∧ { t with
        slots := s.slots, lane := s.lane, notices := s.notices
        rail := { t.rail with lastGranted := s.rail.lastGranted } } = s

/-- The segments that a window counts, none where it is absent. -/
def windowCount (w : Option Window) : Nat := (w.map Window.count).getD 0

/-- Slot `i` holds no window and no input quality in `t`; the bytes of both images stand, and their free totals have grown by
the windows that the slot held (R140). -/
def WindowsReleased (i : Slot) (s t : State) : Prop :=
  (t.ctx i).inWindow = none ∧ (t.ctx i).outWindow = none ∧ (t.ctx i).inputQuality = none
    ∧ t.imageIn.mem = s.imageIn.mem ∧ t.imageOut.mem = s.imageOut.mem
    ∧ t.imageIn.freeTotal = s.imageIn.freeTotal + windowCount (s.ctx i).inWindow
    ∧ t.imageOut.freeTotal = s.imageOut.freeTotal + windowCount (s.ctx i).outWindow

/-- The work that slot `i` was waiting in is aborted by the block that owns it, and nothing else of the lane and the images
changes (R88, R151, R166). -/
def WorkAborted (i : Slot) (s t : State) : Prop :=
  ((s.ctx i).state = .settling → (t.ctx i).settleTimer = none)
    ∧ ((s.ctx i).state = .rampWait → (t.railOf i).queued = false)
    ∧ ((s.ctx i).state = .qualifying → (t.det i).run = .stopped ∧ (t.det i).duty = none ∧ (t.det i).qualTimer = .idle)
    ∧ ((s.ctx i).state ≠ .identifying → t.lane = s.lane)
    ∧ ((s.ctx i).state = .identifying → s.lane.queue.Nodup → t.lane.queue = s.lane.queue.filter (· ≠ i))
    ∧ ((s.ctx i).state = .identifying → ∀ p rest, s.lane.queue = i :: rest → s.lane.state = .partBusy →
        s.lane.transaction = some ⟨i, p, false⟩ →
        t.lane.transaction = some ⟨i, p, true⟩ ∧ t.lane.state = .partBusy)
    ∧ ((s.ctx i).state ≠ .spliceWait → t.imageIn = s.imageIn ∧ t.imageOut = s.imageOut)
    ∧ ((s.ctx i).state = .spliceWait →
        (t.scanOf i).splice = none ∧ (t.scanOf i).cost = none ∧ WindowsReleased i s t)

/-- The state in which a withdrawal ends (R49). -/
def endOf (policy : Policy) (contact : ContactState) (dest : Destination) : SlotState :=
  if policy = .off then .disabled
  else if contact ≠ .seated then .vacant
  else
    match dest with
    | .settling => .settling
    | .refused => .refused
    | .quarantined => .quarantined

/-- A withdrawal of slot `i` has ended in `t` in the state `st`: its fields are gone and its match is dropped (R22 to R24,
R50). -/
def WithdrawalEnded (i : Slot) (s t : State) (st : SlotState) : Prop :=
  (t.ctx i).state = st ∧ (t.ctx i).reason = none ∧ (t.ctx i).destination = none ∧ (t.ctx i).leaving = none
    ∧ MatchDropped i s t
    ∧ (st = .settling → (t.ctx i).settleTimer
        = some (max (s.params.settleTime * 10000) (s.params.dischargeTime * 1000)))

/-- The destination of a soft fault (R41). -/
def softDestination (i : Slot) (s : State) : Destination :=
  if (s.ctx i).attempts + 1 < s.params.maxAttempts then .settling else .quarantined

/-- A read of slot `i` has ended in a soft fault of a powered card: counted, recorded, posted, and the card powered down
(R41, R87). -/
def ReadFailed (i : Slot) (s t : State) (c : Cause) (code : Byte) : Prop :=
  OnlySlotLaneAndGrants i s t ∧ PoweredDown i s t .fault (softDestination i s)
    ∧ (t.ctx i).attempts = min ((s.ctx i).attempts + 1) 3
    ∧ (t.ctx i).faultRecord = (s.ctx i).faultRecord.add c
    ∧ t.notices = s.notices.offer ⟨.fault, some i, code, []⟩

/-- Slot `i` is powered and IDENTIFYING, the head of an identify queue in which no slot stands twice, and its transaction is
on the lane. -/
def HeadIsRead (i : Slot) (p : LanePhase) (rest : List Slot) (s : State) : Prop :=
  s.lane.transaction = some ⟨i, p, false⟩ ∧ s.lane.queue = i :: rest ∧ (i :: rest).Nodup
    ∧ (s.ctx i).state = .identifying ∧ (s.railOf i).closed = true ∧ (s.railOf i).queued = false
    ∧ s.inRoster i = false

/-- The lane with no transaction, message or timer but what it has in IDLE, for the queue that a read's end has left: the
next head's transaction opens at once (R80, R87). -/
def NextReadOpens (rest : List Slot) (s t : State) : Prop :=
  t.lane.queue = rest
    ∧ (rest = [] → t.lane.state = .idle ∧ t.lane.transaction = none ∧ t.lane.holdTimer = none
        ∧ t.lane.acknowledgeTimer = none ∧ t.lane.readBegun = false)
    ∧ (s.lane.retryGap = none → ∀ k more, rest = k :: more → t.lane.state = .partBusy
        ∧ t.lane.transaction = some ⟨k, .start, false⟩ ∧ t.lane.tries = 0 ∧ t.lane.lost = 0
        ∧ t.lane.checkUsed = false ∧ t.lane.holdTimer = some 25000)

/-- A lane with no transaction and neither of a transaction's timers, in IDLE (R80). -/
def laneIdle (l : Lane) : Lane :=
  { l with state := .idle, transaction := none, holdTimer := none, acknowledgeTimer := none }

/-- A lane that has opened a transaction for the head `k`: the first of a read sets the read's counters to 0 (R80). -/
def laneOpened (k : Slot) (l : Lane) : Lane :=
  { l with
    state := .partBusy, transaction := some ⟨k, .start, false⟩, holdTimer := some 25000, acknowledgeTimer := some 1000
    tries := if l.readBegun = true then l.tries else 0, lost := if l.readBegun = true then l.lost else 0
    checkUsed := l.readBegun && l.checkUsed, readBegun := true }

/-- The lane has returned to IDLE as `l`, and a waiting head's transaction is open by the end of the event (R78, R80; log
entry 33). -/
def LaneReturns (l : Lane) (t : State) : Prop :=
  (l.queue = [] ∨ l.retryGap ≠ none → t.lane = l)
    ∧ ∀ k more, l.queue = k :: more → l.retryGap = none → t.lane = laneOpened k l

/-- Slot `i` is IDENTIFYING at the head of an identify queue in which no slot stands twice, its transfer
is on the lane, and it is not in the ramp queue. -/
def TransferEnds (i : Slot) (rest : List Slot) (s : State) : Prop :=
  s.lane.transaction = some ⟨i, .transfer, false⟩ ∧ s.lane.queue = i :: rest ∧ (i :: rest).Nodup
    ∧ (s.ctx i).state = .identifying ∧ (s.ctx i).matched = none ∧ (s.railOf i).queued = false

/-- A valid record arrives for slot `i`. -/
def IdentityArrives (i : Slot) (rest : List Slot) (record : Vector Byte 32) (s : State) : Prop :=
  TransferEnds i rest s ∧ recordChecks record = true ∧ (identityOfRecord record).valid = true

/-- Slot `i` is neither in the ramp queue nor in the roster, and no discharge of an open switch runs. -/
def FreeOfQueues (i : Slot) (s : State) : Prop :=
  (s.railOf i).queued = false ∧ s.inRoster i = false
    ∧ ((s.railOf i).closed = true ∨ (s.railOf i).dischargeTimer = none)

/-- The card of slot `i` is refused with REFUSED posted for its verdict and the verdict's data (R29, R34, R128): a card whose
switch is closed is powered down, and the withdrawal of one whose switch is open, a class 0 card, ends within the event. -/
def CardRefused (i : Slot) (s t : State) (v : Verdict) (code : Byte) (data : List Byte) : Prop :=
  (∀ j, j ≠ i → (s.railOf j).queued = false → t.slot j = s.slot j)
    ∧ (t.ctx i).faultRecord = (s.ctx i).faultRecord ∧ (t.ctx i).policy = (s.ctx i).policy
    ∧ ((s.railOf i).closed = true → PoweredDown i s t .refused .refused ∧ (t.ctx i).verdict = some v
        ∧ (t.ctx i).attempts = (s.ctx i).attempts
        ∧ t.notices = s.notices.offer ⟨.refused, some i, code, data⟩)
    ∧ ((s.railOf i).closed = false →
        WithdrawalEnded i s t (endOf (s.ctx i).policy (s.ctx i).contact .refused)
        ∧ t.railOf i = s.railOf i ∧ ((t.ctx i).state = .refused → (t.ctx i).verdict = some v)
        ∧ t.notices = (s.notices.offer ⟨.refused, some i, code, data⟩).offer
            ⟨.withdrawn, some i, 5, [(t.ctx i).state.code]⟩)

/-- The card is refused as its record arrives, with its identity stored, and the lane goes on to the next head (R33, R34). What
becomes of the directory, in which the slot has no match, is stated beside it. -/
def ReadRefused (i : Slot) (rest : List Slot) (s t : State) (d : Identity) (v : Verdict) (code : Byte)
    (data : List Byte) : Prop :=
  { t with
      slots := s.slots, lane := s.lane, directory := s.directory, notices := s.notices
      rail := { t.rail with lastGranted := s.rail.lastGranted } } = s
    ∧ LaneReturns { laneIdle s.lane with queue := rest, readBegun := false } t
    ∧ CardRefused i { s.modCtx i fun c => { c with identity := some d } with directory := t.directory } t v code data

/-- What the steady check of R70 makes of `s` where it passes: the units of a card that is not of class 0 replace the
provisional figure, and the arbiter evaluates where Cs falls. -/
def steadyTaken (i : Slot) (units : Nat) (s : State) : State :=
  if (s.ctx i).inrushClass.getD 0 = 0 then s
  else
    let u := s.modCtx i fun c => { c with steadyCommitted := units }
    if units < (s.ctx i).steadyCommitted then u.arbitrate else u

/-- The card is taken as its record arrives: its identity, verdict, match and steady units are stored, its slot is in `st`,
neither its switch nor its roster place changes, and the lane goes on to the next head (R34, R70). -/
def ReadTaken (i : Slot) (rest : List Slot) (s t : State) (d : Identity) (v : Verdict) (st : SlotState)
    (k : Option EntryIndex) (units : Nat) : Prop :=
  (∀ j, j ≠ i → t.slot j = (steadyTaken i units s).slot j) ∧ t.rail = (steadyTaken i units s).rail
    ∧ { t with
        slots := s.slots, rail := s.rail, lane := s.lane, directory := s.directory, notices := s.notices } = s
    ∧ LaneReturns { laneIdle s.lane with queue := rest, readBegun := false } t
    ∧ (t.ctx i).state = st ∧ (t.ctx i).identity = some d ∧ (t.ctx i).verdict = some v ∧ (t.ctx i).matched = k
    ∧ (t.ctx i).steadyCommitted
        = (if (s.ctx i).inrushClass.getD 0 = 0 then (s.ctx i).steadyCommitted else units)
    ∧ t.railOf i = s.railOf i ∧ t.scanOf i = s.scanOf i
    ∧ (st = .qualifying → (t.det i).duty = some .qualify
        ∧ (t.det i).run = if s.clock.refLost = true then .paused else .running)
    ∧ (st = .parked → t.det i = s.det i)

/-- Steady units that the check of R70 passes, or a class 0 card, which it does not judge. -/
def SteadyFits (i : Slot) (units : Nat) (s : State) : Prop :=
  (s.ctx i).inrushClass.getD 0 = 0 ∨ s.cs - (s.ctx i).steadyCommitted + units ≤ s.rail.effective

/-- The steady units of a card that declares `d` with an entry's reserve (R70). -/
def unitsOf (d : Identity) (reserve : Nat) : Nat := (max d.steadyCurrent.toNat reserve + 24) / 25

/-- The only entry that differs between `s` and `t` is `k`, which `t` has as `e`. -/
def OnlyEntry (k : EntryIndex) (e : Entry) (s t : State) : Prop :=
  t.entry k = e ∧ (∀ j, j ≠ k → t.entry j = s.entry j) ∧ t.directory.ageTimer = s.directory.ageTimer

/-- An entry that a lookup has matched: a LEARNED one is SEEN (R124). -/
def matchedEntry (b : EntryBody) : EntryBody :=
  match b.origin with
  | .static => b
  | .learned _ => { b with origin := .learned .seen }

/-- The lowest entry that has a key, if there is one, is `k` (R112, R120). -/
def KeyAt (key : EntryKey) (k : EntryIndex) (s : State) : Prop :=
  (s.entry k).body.map EntryBody.key = some key ∧ ∀ j, j < k → (s.entry j).body.map EntryBody.key ≠ some key

/-- No entry has a key. -/
def KeyNowhere (key : EntryKey) (s : State) : Prop := ∀ j, (s.entry j).body.map EntryBody.key ≠ some key

/-- A LEAVE of slot `i` has been applied: the slot is out of the roster and holds no windows (R154). -/
def Departed (i : Slot) (t : State) : Prop :=
  t.scanOf i = ⟨none, none, none, none, none⟩ ∧ (t.ctx i).inWindow = none ∧ (t.ctx i).outWindow = none
    ∧ (t.ctx i).inputQuality = none

/-- Slot `i` has taken its power step: its switch is open, its commitments are released and its discharge runs (R71). -/
def PowerStepTaken (i : Slot) (s t : State) : Prop :=
  (t.railOf i).closed = false ∧ (t.railOf i).rampTimer = none
    ∧ (t.railOf i).dischargeTimer = some (s.params.dischargeTime * 1000)
    ∧ (t.ctx i).inrushCommitted = 0 ∧ (t.ctx i).steadyCommitted = 0

/-- The ONLINE card of slot `i` has left a STOPPED scan within the event that began its withdrawal: its LEAVE is applied, and then
it takes its power step, or its withdrawal ends where its switch is open (R152, R154, R167). -/
def LeftStoppedScan (i : Slot) (s t : State) (reason : Reason) (dest : Destination) : Prop :=
  OnlySlotAndWork i s t ∧ t.lane = s.lane ∧ t.link = s.link ∧ Departed i t ∧ WindowsReleased i s t
    ∧ (t.det i).run = .stopped ∧ (t.mon i).sticky = false ∧ (t.ctx i).missCount = none
    ∧ ((s.railOf i).closed = true → PowerStepTaken i s t ∧ (t.ctx i).state = .withdrawing
        ∧ (t.ctx i).reason = some reason ∧ (t.ctx i).destination = some dest
        ∧ (t.ctx i).leaving = some .leavePending ∧ t.directory = s.directory)
    ∧ ((s.railOf i).closed = false → WithdrawalEnded i s t (endOf (s.ctx i).policy (s.ctx i).contact dest)
        ∧ t.railOf i = s.railOf i)

/-- The command at which an ONLINE card of slot `i` is found to have lost its lock: its grace timer's expiry (R107), no edge at
the checkpoint after 16 periods, in a grace too (R97), or a coarse mismatch outside a grace (R98). -/
def LosesLock (i : Slot) (c : Instr) (s : State) : Prop :=
  (c = .graceTimerExpiry i ∧ (s.det i).graceTimer ≠ none)
    ∨ ((s.det i).run = .running ∧ (s.det i).duty = some .watch
      ∧ ((c = .lockCheckpoint16 i ∧ (s.det i).due = some ⟨.after16, 0⟩)
        ∨ (c = .lockCheckpoint32 i ∧ (s.det i).graceTimer = none
          ∧ ∃ n e, (s.det i).due = some ⟨.after32, n⟩ ∧ (s.det i).expected = some e
            ∧ (n + s.params.lockTolerance < e.e32 ∨ e.e32 + s.params.lockTolerance < n))))

/-- A JOIN of slot `i` has been applied: the slot is ONLINE in the roster, and its detector watches (R153). -/
def Joined (i : Slot) (s t : State) : Prop :=
  (t.ctx i).state = .online ∧ (t.ctx i).attempts = 0 ∧ (t.ctx i).missCount = some 0
    ∧ (t.scanOf i).splice = none ∧ (t.scanOf i).skip = some false
    ∧ (t.det i).duty = some .watch ∧ (t.det i).qualTimer = .idle
    ∧ (t.det i).run = (if s.clock.refLost = true then .paused else .running)
    ∧ (t.ctx i).steadyCommitted = (s.ctx i).steadyCommitted ∧ t.railOf i = s.railOf i

/-- As the scan becomes STOPPED every JOIN is applied with its ONLINE notice, in ascending slot order (log entry 5), unless the
rack is FROZEN, which holds them (R152). -/
def JoinsApplied (s t : State) : Prop :=
  t.notices = (if s.clock.frozen = true then s.notices
      else (allSlots.filter fun i => (s.scanOf i).splice == some .join).foldl
        (fun q i => q.offer ⟨.online, some i, 0, be32 s.scan.cycle.toNat⟩) s.notices)
    ∧ ∀ i, (s.scanOf i).splice = some .join →
      if s.clock.frozen = true then t.slot i = s.slot i
      else Joined i s t ∧ (t.scanOf i).cost = (s.scanOf i).cost ∧ (t.ctx i).inWindow = (s.ctx i).inWindow
        ∧ (t.ctx i).outWindow = (s.ctx i).outWindow

/-- Slot `i` is withdrawing and waits for its LEAVE, out of the ramp queue (R29, R154, R165). -/
def WaitsForLeave (i : Slot) (s : State) : Prop :=
  (s.ctx i).state = .withdrawing ∧ (s.ctx i).leaving = some .leavePending ∧ (s.ctx i).reason ≠ none
    ∧ (s.ctx i).destination ≠ none ∧ (s.railOf i).queued = false

/-- The slots whose withdrawal their LEAVE ends, ascending (log entry 5): their power step is behind them (R165). -/
def leavesEnding (s : State) : List Slot :=
  allSlots.filter fun i =>
    (s.scanOf i).splice == some .leave && !(s.railOf i).closed && (s.railOf i).dischargeTimer.isNone

/-- The slots whose JOIN is applied, ascending (log entry 5): none while the rack is FROZEN (R152). -/
def joinsDue (s : State) : List Slot :=
  allSlots.filter fun j => (s.scanOf j).splice == some .join && !s.clock.frozen

/-- The notice that ends the withdrawal of slot `i` (R49, R50). -/
def withdrawnNotice (i : Slot) (s : State) : Notice :=
  let c := s.ctx i
  ⟨.withdrawn, some i, (c.reason.map Reason.code).getD 0,
    [(endOf c.policy c.contact (c.destination.getD .settling)).code]⟩

/-- A command that takes a boundary in `s`: SCAN START of a STOPPED scan, or the period timer's expiry in a RUNNING scan once
every exchange of the cycle has ended (R148, R149). -/
def TakesBoundary (tag : Byte) (c : Instr) (s : State) : Prop :=
  s.scan.exchange = none
    ∧ ((c = .scanStart tag ∧ s.scan.state = .stopped)
      ∨ (c = .periodTimerExpiry ∧ s.scan.state = .running ∧ (∃ us, s.scan.period = .running us)
        ∧ s.scan.remaining = []))

/-- The roster slots of a list whose exchanges are made, from the first whose skip mark is not SET (R158). -/
def unskipped (s : State) (l : List Slot) : List Slot := l.dropWhile fun j => (s.scanOf j).skip == some true

/-- The roster slots at the front of a list whose exchanges are SKIPPED (R158). -/
def skipped (s : State) (l : List Slot) : List Slot := l.takeWhile fun j => (s.scanOf j).skip == some true

/-- A slot's record once an exchange of its, SKIPPED or not, has ended: a RELEASE marker takes a LEAVE into the splice list
(R159). -/
def markerTaken (r : SlotRecord) : SlotRecord :=
  if r.scan.marker = some .release then
    { r with ctx := { r.ctx with leaving := some .leavePending }, scan := { r.scan with splice := some .leave } }
  else r

/-- The exchange of a slot as it begins: the part's frame is its slot number, its marker, its snapshot and their check value,
and the reply ends by the count of the input bytes that its card declares (R155, 8.5). -/
def exchangeOf (s : State) (j : Slot) : Exchange :=
  let covered := [byteOf j.val, ((s.scanOf j).marker.getD .normal).code] ++ (s.scanOf j).snapshot.getD []
  ⟨j, .sending, false, covered ++ crcTail covered, ((s.ctx j).identity.map fun d => d.inputBytes.toNat).getD 0⟩

/-- The next exchange after the one on the lane: that of the first remaining slot whose skip mark is not SET (R155, R158). -/
def NextExchange (s t : State) : Prop :=
  t.scan = { s.scan with
    exchange := (unskipped s s.scan.remaining).head?.map (exchangeOf s)
    remaining := (unskipped s s.scan.remaining).tail }

/-- The slots other than `i` as an exchange of `i` ends: a SKIPPED exchange that carries RELEASE takes its slot's LEAVE (R159),
and no other slot changes. -/
def OthersSkipped (i : Slot) (s t : State) : Prop :=
  ∀ j, j ≠ i → t.slot j = if j ∈ skipped s s.scan.remaining then markerTaken (s.slot j) else s.slot j

/-- The match of slot `i` names an entry whose service flag is YES (R129). -/
def isService (i : Slot) (s : State) : Bool :=
  ((s.ctx i).matched.bind fun k => (s.entry k).body).any EntryBody.service

/-- An image cannot serve a need of slot `i`: the reserve keeps it, or no extent is long enough (R136, R137). -/
def NoRoom (i : Slot) (g : ImageId) (reserve need : Nat) (s : State) : Prop :=
  need ≠ 0 ∧ ((isService i s = false ∧ (s.image g).freeTotal < reserve + need)
    ∨ ∀ e ∈ (s.image g).free, e.length < need)

/-- The window that slot `i` has been given for a need: none for a need of 0, and else at the low end of the lowest extent that is
long enough, which shrinks or leaves the free list; its bytes are 0, and no other byte changes (R136, R139). -/
def WindowPlaced (i : Slot) (g : ImageId) (need : Nat) (s t : State) : Prop :=
  (need = 0 → (t.ctx i).window g = none ∧ t.image g = s.image g)
    ∧ ∀ (low : List Extent) (x : Extent) (high : List Extent), 0 < need → (s.image g).free = low ++ x :: high →
      (∀ e ∈ low, e.length < need) → need ≤ x.length →
      (t.ctx i).window g = some ⟨x.start, need⟩
      ∧ (t.image g).free
          = low ++ (if x.length = need then high else ⟨x.start + need, x.length - need⟩ :: high)
      ∧ ∀ a, Memory.read (t.image g).mem a
          = if 16 * x.start ≤ a ∧ a < 16 * x.start + 16 * need then 0 else Memory.read (s.image g).mem a

/-- The card of slot `i` is refused at its qualification pass: its detector is stopped and it gets no place (R37, R138). -/
def PassRefused (i : Slot) (s t : State) (v : Verdict) (code : Byte) (data : List Byte) : Prop :=
  CardRefused i s t v code data ∧ (t.det i).run = .stopped ∧ t.scanOf i = s.scanOf i
    ∧ { t with
        slots := s.slots, directory := s.directory, notices := s.notices
        rail := { t.rail with lastGranted := s.rail.lastGranted } } = s
    ∧ ((s.railOf i).closed = true → t.directory = s.directory)

/-- A fine match that completes the run of slot `i` in QUALIFYING (R100), where no slot holds a window (R140). -/
def PassCompletes (i : Slot) (n : Nat) (e : Expected) (d : Identity) (s : State) : Prop :=
  (s.ctx i).state = .qualifying ∧ (s.ctx i).inWindow = none ∧ (s.ctx i).outWindow = none
    ∧ (s.ctx i).identity = some d ∧ (s.det i).run = .running
    ∧ (s.det i).expected = some e ∧ (s.det i).duty = some .qualify ∧ (s.det i).due = some ⟨.after64, n⟩
    ∧ n ≤ e.e64 + s.params.lockTolerance ∧ e.e64 ≤ n + s.params.lockTolerance
    ∧ s.params.qualRun ≤ min 15 ((s.det i).fineRun + 1)

/-- The arbiter's five conditions for a grant to slot `i` (R63). -/
def MayBeGranted (i : Slot) (s : State) : Prop :=
  s.ci + s.params.classTable[(s.ctx i).inrushClass.getD 0].inrush ≤ s.params.inrushBudget
    ∧ s.cs + s.params.classTable[(s.ctx i).inrushClass.getD 0].provisional ≤ s.rail.effective
    ∧ s.rampingCount < s.params.rampLimit ∧ s.rail.brownout = false ∧ s.clock.frozen = false

/-- What a grant to slot `i` makes of `s`: the slot is out of the queue and RAMPING with its class's figures committed, its
switch closed and its ramp timer running, and it is the last granted (R65). -/
def Granted (i : Slot) (s u : State) : Prop :=
  (∀ j, j ≠ i → u.slot j = s.slot j) ∧ { u with slots := s.slots, rail := s.rail } = s
    ∧ u.rail = { s.rail with lastGranted := i } ∧ (u.ctx i).state = .ramping
    ∧ { u.ctx i with
        state := (s.ctx i).state, missCount := (s.ctx i).missCount
        inrushCommitted := (s.ctx i).inrushCommitted, steadyCommitted := (s.ctx i).steadyCommitted } = s.ctx i
    ∧ (u.ctx i).inrushCommitted = s.params.classTable[(s.ctx i).inrushClass.getD 0].inrush
    ∧ (u.ctx i).steadyCommitted = s.params.classTable[(s.ctx i).inrushClass.getD 0].provisional
    ∧ u.railOf i = { s.railOf i with
        queued := false, powerSeen := false, lossReported := false, closed := true
        rampTimer := some (s.params.rampTimeout * 1000) }
    ∧ u.det i = s.det i ∧ u.scanOf i = s.scanOf i

/-- `t` differs from `s` at most in the parameters and the link unit, in slots of the ramp queue and in last granted. -/
def OnlyParamsAndGrants (s t : State) : Prop :=
  (∀ j, (s.railOf j).queued = false → t.slot j = s.slot j)
    ∧ { t with
        slots := s.slots, params := s.params, link := s.link
        rail := { t.rail with lastGranted := s.rail.lastGranted } } = s

/-- Slot `i` waits in the ramp queue: in RAMP_WAIT, its card seated under a policy other than OFF, its switch open with no
discharge, and outside the roster (R59). -/
def WaitsForRamp (i : Slot) (s : State) : Prop :=
  (s.railOf i).queued = true ∧ (s.ctx i).state = .rampWait ∧ (s.ctx i).contact = .seated ∧ (s.ctx i).policy ≠ .off
    ∧ (s.railOf i).closed = false ∧ (s.railOf i).dischargeTimer = none ∧ s.inRoster i = false

/-- The class of slot `i` can never be granted under the budgets and the class table of `p` (R59). -/
def classNeverFits (i : Slot) (p : Params) (s : State) : Bool :=
  decide (p.inrushBudget < p.classTable[(s.ctx i).inrushClass.getD 0].inrush
    ∨ p.steadyBudget < p.classTable[(s.ctx i).inrushClass.getD 0].provisional)

/-- The queued slots whose class can never be granted under `p`, ascending. -/
def nowRefused (p : Params) (s : State) : List Slot :=
  allSlots.filter fun i => (s.railOf i).queued && classNeverFits i p s

/-- The ramp queue has been rechecked under the parameters of `t`, and the arbiter has evaluated (R61): no slot is left in the
queue whose class can never be granted, and no head that could be granted. Where every queued slot waits in RAMP_WAIT, each that
fails is refused NO_POWER within the event, with REFUSED and WITHDRAWN in ascending slot order, and nothing changes but the
slots, the users counts, last granted and those notices. -/
def QueueRechecked (s t : State) : Prop :=
  (∀ i, (t.railOf i).queued = true → classNeverFits i t.params s = false)
    ∧ (∀ i rest, t.rampOrder = i :: rest → ¬ MayBeGranted i t)
    ∧ ((∀ i, (s.railOf i).queued = true → WaitsForRamp i s) →
      (∀ i, i ∈ nowRefused t.params s → (t.ctx i).state = .refused ∧ (t.ctx i).verdict = some .noPower
        ∧ (t.ctx i).matched = none ∧ (t.ctx i).attempts = (s.ctx i).attempts ∧ (t.railOf i).queued = false
        ∧ (t.railOf i).closed = false)
      ∧ t.notices = (nowRefused t.params s).foldl
          (fun q i => (q.offer ⟨.refused, some i, 7, []⟩).offer
            ⟨.withdrawn, some i, 5, [SlotState.refused.code]⟩) s.notices
      ∧ t.directory.ageTimer = s.directory.ageTimer
      ∧ { t with
          slots := s.slots, params := s.params, directory := s.directory, notices := s.notices, link := s.link
          rail := { t.rail with lastGranted := s.rail.lastGranted } } = s)

/-- The requests that SAFE_OFF does not refuse (R178). -/
def isQuery : Instr → Bool
  | .status _ | .slotInfo _ _ | .fetchNotices _ _ | .getParameter _ _ | .imageMap _ => true
  | _ => false

/-- The refusal that a request's rule places before the SAFE_OFF refusal, if it applies (R143, R144, R173, R176, R183,
R192). -/
def refusedBeforeSafeOff : Instr → Option Status
  | .setSlotPolicy _ x _ _ _ _ _ | .release _ x | .refuse _ x | .retry _ x | .withdraw _ x | .locate _ x _
  | .ackAlert _ x => if 11 < x.toNat then some .badSlot else none
  | .clearFault _ x => if 11 < x.toNat ∧ x.toNat ≠ 255 then some .badSlot else none
  | .imageRead _ x g o n =>
    if 11 < x.toNat then some .badSlot
    else if 1 < g.toNat ∨ 511 < o.toNat ∨ n.toNat = 0 ∨ 64 < n.toNat then some .badValue else none
  | .imageWrite _ x o _ =>
    if 11 < x.toNat then some .badSlot else if 511 < o.toNat then some .badValue else none
  | .setMode _ m => if 1 < m.toNat then some .badValue else none
  | .safeOff _ m => if 4095 < m.toNat then some .badValue else none
  | _ => none

/-- An entry body that DIRECTORY ADD refuses with BAD_VALUE (R116); for the service byte by log entry 9. -/
def badEntry (b : EntryBytes) : Bool :=
  decide (b.typeCode.toNat = 0 ∨ 4 < b.typeCode.toNat ∨ 2 < b.action.toNat ∨ 1 < b.service.toNat
    ∨ (b.typeCode.toNat = 4 ∧ 11 < b.placeSlot.toNat)
    ∨ (b.pinSlot.toNat ≠ 255 ∧ (11 < b.pinSlot.toNat ∨ b.action.toNat = 2 ∨ b.typeCode.toNat = 4))
    ∨ (b.reserve.toNat ≠ 65535 ∧ (6000 < b.reserve.toNat ∨ b.action.toNat = 2)))

/-- The ids that name a parameter (R184). -/
def knownParameter (id : Byte) : Bool :=
  [0x01, 0x02, 0x03, 0x10, 0x11, 0x12, 0x13, 0x14, 0x15, 0x16, 0x17, 0x18, 0x19, 0x1A, 0x1B, 0x1C, 0x1D, 0x1E, 0x1F,
    0x20, 0x21, 0x22, 0x23, 0x30, 0x40, 0x41, 0x50, 0x51, 0x52].contains id.toNat

/-- The requests that carry a field value outside its list or range, and are refused BAD_VALUE for it outside SAFE_OFF (R10,
R19, R115, R116, R120, R184, R188). -/
def carriesBadValue : Instr → Bool
  | .setSlotPolicy _ x p q ip tm an =>
    decide (x.toNat ≤ 11 ∧ (3 < p.toNat ∨ 3 < q.toNat ∨ 1 < ip.toNat ∨ 3 < tm.toNat ∨ 1 < an.toNat))
  | .setParameter _ id _ none => !knownParameter id
  | .getParameter _ id => !knownParameter id
  | .fetchNotices _ n => decide (n.toNat = 0 ∨ 8 < n.toNat)
  | .directoryAdd _ b => badEntry b
  | .directoryFind _ b =>
    decide (b.typeCode.toNat = 0 ∨ 4 < b.typeCode.toNat ∨ (b.typeCode.toNat = 4 ∧ 11 < b.placeSlot.toNat))
  | .directoryDelete _ k | .directoryRead _ k | .directoryKeep _ k => decide (47 < k.toNat)
  | _ => false

/-- An entry after an ageing sweep (R130). -/
def Aged (e : Entry) : Entry :=
  match e.body.map EntryBody.origin with
  | some (.learned age) =>
    if 0 < e.users then { e with body := e.body.map fun b => { b with origin := .learned .seen } }
    else
      match age with
      | .seen => { e with body := e.body.map fun b => { b with origin := .learned .fresh } }
      | .fresh => ⟨none, 0⟩
  | _ => e

/-- The entries that an ageing sweep frees (R130). -/
def Expires (e : Entry) : Bool := e.body.map EntryBody.origin == some (.learned .fresh) && e.users == 0

/-- The request codes and the body lengths that each of them takes (10.8). -/
def requestBodies : List (Nat × List Nat) :=
  [(0x01, [0]), (0x02, [1]), (0x03, [1]), (0x04, [3, 5]), (0x05, [1]), (0x06, [0]),
   (0x10, [6]), (0x11, [1]), (0x12, [1]), (0x13, [1]), (0x14, [1]), (0x15, [2]), (0x16, [1]), (0x17, [1]),
   (0x20, [15]), (0x21, [1]), (0x22, [1]), (0x23, [15]), (0x24, [1]), (0x25, [0]),
   (0x30, [0]), (0x31, [0]), (0x32, [5]), (0x33, (List.range 64).map (· + 4)), (0x34, [0]),
   (0x40, [1]), (0x41, [0]), (0x42, [0]), (0x43, [2])]

/-- The body of a known request has a length that the table of 10.8 does not allow; a class row carries two values and every
other id of SET PARAMETER one (log entry 20). -/
def WrongLength (code : Byte) (body : List Byte) : Prop :=
  ∃ p ∈ requestBodies, p.1 = code.toNat
    ∧ (body.length ∉ p.2
      ∨ (code = 0x04 ∧ body.length ≠ if 0x18 ≤ (body.headD 0).toNat ∧ (body.headD 0).toNat ≤ 0x1F then 5 else 3))

/-- The parameters whose rule only clamps them, with the ends of their ranges (R4, R20, R21, R75, R103, R104, R142,
R163). -/
def rangedParameters : List (Byte × ParamId × Nat × Nat) :=
  [(0x01, .makeFilter, 1, 15), (0x02, .settleTime, 0, 255), (0x03, .maxAttempts, 1, 3), (0x14, .rampTimeout, 10, 500),
   (0x15, .dischargeTime, 0, 500), (0x20, .qualTimeout, 1, 255), (0x21, .qualRun, 1, 15), (0x22, .lockTolerance, 0, 3),
   (0x23, .refTimeout, 1, 15), (0x40, .imageReserveIn, 0, 128), (0x41, .imageReserveOut, 0, 128),
   (0x52, .missLimit, 1, 15)]

/-! ## Invariants -/

/-- The queue never holds more than 24 notices (R187). -/
def NoticesBounded (s : State) : Prop := s.notices.queue.length ≤ 24

/-- Ci and Cs stay within their budgets, and E is at most STEADY_BUDGET (R54, R58). -/
def AccountsBounded (s : State) : Prop :=
  s.ci ≤ s.params.inrushBudget ∧ s.cs ≤ s.params.steadyBudget ∧ s.rail.effective ≤ s.params.steadyBudget

/-- The number of slots in RAMPING never exceeds RAMP_LIMIT (R63). -/
def RampsBounded (s : State) : Prop := s.rampingCount ≤ s.params.rampLimit

/-- The scan load never exceeds the cycle budget (R161). -/
def LoadBounded (s : State) : Prop := s.load ≤ s.budget

/-- Every entry's users count is the number of slot contexts whose match names it, and an entry with users above 0 is not
FREE (R113). -/
def UsersCounted (s : State) : Prop :=
  ∀ k : EntryIndex, (s.entry k).users = (s.slotsWith fun r => r.ctx.matched == some k).length
    ∧ ((s.entry k).body = none → (s.entry k).users = 0)

/-- The context's contact state is the monitor's (R6), and the LED pattern is that of the slot's state (R13). -/
def SlotsShown (s : State) : Prop :=
  ∀ i : Slot, (s.ctx i).contact = (s.mon i).contact ∧ (s.mon i).pattern = (s.ctx i).state.pattern

/-- Both images keep the canonical form of their bytes. -/
def ImagesCanonical (s : State) : Prop := Memory.wf s.imageIn.mem ∧ Memory.wf s.imageOut.mem

/-- Two runs of segments share none. -/
def Apart (a n b m : Nat) : Prop := a + n ≤ b ∨ b + m ≤ a

/-- The extents of a list stand in ascending order, are not empty, do not overlap, and no extent ends at the segment where
the next begins; all lie in the image (R134). -/
def FreeListSound (l : List Extent) : Prop :=
  l.Pairwise (fun a b => a.start + a.length < b.start) ∧ ∀ e ∈ l, 0 < e.length ∧ e.start + e.length ≤ 128

/-- The free list of an image is sound, every window of the image lies in it, and no segment belongs to two of the windows
and extents (R134). -/
def SegmentsSound (s : State) (g : ImageId) : Prop :=
  FreeListSound (s.image g).free
    ∧ (∀ i w, (s.ctx i).window g = some w →
        0 < w.count ∧ w.start + w.count ≤ 128
          ∧ ∀ e ∈ (s.image g).free, Apart w.start w.count e.start e.length)
    ∧ ∀ i j w v, i ≠ j → (s.ctx i).window g = some w → (s.ctx j).window g = some v →
        Apart w.start w.count v.start v.count

/-- The segments of the free extents and of the windows of an image number exactly 128 (R134). -/
def SegmentsCounted (s : State) (g : ImageId) : Prop :=
  (s.image g).freeTotal + s.total (fun r => windowCount (r.ctx.window g)) = 128

/-- A transaction is present exactly in PART_BUSY, a message exactly in CARD_BUSY, and the recovery timer runs exactly in
RECOVERING (R78, 4.1). -/
def LaneSound (s : State) : Prop :=
  (s.lane.transaction.isSome = true ↔ s.lane.state = .partBusy)
    ∧ (s.lane.message.isSome = true ↔ s.lane.state = .cardBusy)
    ∧ (s.lane.recoveryTimer.isSome = true ↔ s.lane.state = .recovering)

/-- What an honoured SAFE OFF leaves in one slot (R177, R178). -/
def SlotQuiet (r : SlotRecord) : Prop :=
  (r.ctx.state = .disabled ∨ r.ctx.state = .vacant ∨ r.ctx.state = .quarantined)
    ∧ r.ctx.inrushCommitted = 0 ∧ r.ctx.steadyCommitted = 0 ∧ r.ctx.settleTimer = none
    ∧ r.rail.closed = false ∧ r.rail.queued = false ∧ r.rail.rampTimer = none ∧ r.rail.dischargeTimer = none
    ∧ r.detector.run = .stopped ∧ r.detector.duty = none ∧ r.detector.qualTimer = .idle ∧ r.detector.graceTimer = none
    ∧ r.scan = ScanSlot.reset

/-- In SAFE_OFF every slot is quiet, the scan is STOPPED with no exchange but a discarded one, and the lane works for no
slot (R177, R178). -/
def QuietInSafeOff (s : State) : Prop :=
  s.safeOff = true →
    (∀ i, SlotQuiet (s.slot i)) ∧ s.scan.state = .stopped ∧ s.scan.period = .idle ∧ s.scan.remaining = []
      ∧ s.scan.exchange.all Exchange.discarded = true ∧ s.lane.queue = []
      ∧ s.lane.transaction.all Transaction.orphaned = true

end Sys2Proof.Safety
end

