-- ==== Sys2Proof/Certificates/Slice0/Obligations.lean ====
section
/-! DEFINITION. What the provers are asked to prove: statements over all states, commands and operands, from the numbered
rules of spec/. A statement about every state holds in unreachable states too. -/

open Sys2Proof Sys2Proof.Machine Sys2Proof.Safety

/-! ## The step and the queue -/

/-- The step takes the command at the front of the queue and is `exec` of it with the queue's rest. -/
def Obligations.StepTakesTheFrontCommand : Prop :=
  ∀ (c : Instr) (rest : List Instr) (s : State),
    step { s with pending := c :: rest } = exec c { s with pending := rest }

/-- The model's choice (log entries 12 and 32): with no command waiting, one microsecond passes. Every running timer has one
microsecond less, a paused qualification timer keeps its time, and nothing else changes. -/
def Obligations.IdleStepPassesOneMicrosecond : Prop :=
  ∀ s : State, s.pending = [] → ∃ t, step s = .next t
    ∧ { t with slots := s.slots, lane := s.lane, clock := s.clock, directory := s.directory, scan := s.scan } = s
    ∧ t.directory = { s.directory with ageTimer := s.directory.ageTimer.map (· - 1) }
    ∧ t.scan = { s.scan with period := match s.scan.period with
        | .running us => .running (us - 1)
        | p => p }
    ∧ t.clock = { s.clock with
        watchTimer := s.clock.watchTimer.map (· - 1), returnTimer := s.clock.returnTimer.map (· - 1) }
    ∧ t.lane = { s.lane with
        retryGap := s.lane.retryGap.map (· - 1), holdTimer := s.lane.holdTimer.map (· - 1)
        acknowledgeTimer := s.lane.acknowledgeTimer.map (· - 1)
        recoveryTimer := s.lane.recoveryTimer.map (· - 1) }
    ∧ ∀ i, t.scanOf i = s.scanOf i
      ∧ t.ctx i = { s.ctx i with settleTimer := (s.ctx i).settleTimer.map (· - 1) }
      ∧ t.mon i = { s.mon i with
          darkPulse := (s.mon i).darkPulse.map (· - 1)
          locate := (s.mon i).locate.map fun l => { l with us := l.us - 1 } }
      ∧ t.railOf i = { s.railOf i with
          rampTimer := (s.railOf i).rampTimer.map (· - 1)
          dischargeTimer := (s.railOf i).dischargeTimer.map (· - 1) }
      ∧ t.det i = { s.det i with
          graceTimer := (s.det i).graceTimer.map (· - 1)
          qualTimer := match (s.det i).qualTimer with
            | .running us => .running (us - 1)
            | q => q }

/-- The model's readings (log entries 22 and 25): every command completes in every state, since the spec gives each an effect
in every state, and no command touches the queue of waiting commands. -/
def Obligations.EveryCommandCompletesAndKeepsTheQueue : Prop :=
  ∀ (c : Instr) (s : State), ∃ t, exec c s = .next t ∧ t.pending = s.pending

/-! ## Hard reset and the link (Section 10) -/

/-- R194, R190: hard reset sets every block to its hard-reset values; a window that is open is ignored to its end. The span
position and edge count of a detector, the bytes last on SDO and the flags of an empty fault record are the model's choice (log
entries 1, 22 and 36). -/
def Obligations.HardResetRestoresEveryBlock : Prop :=
  ∀ s : State, ∃ t, exec .hardReset s = .next t
    ∧ t.pending = s.pending
    ∧ { t with pending := [], link := Link.reset } = State.reset
    ∧ (s.link.window = .closed → t.link = Link.reset)
    ∧ (s.link.window ≠ .closed → t.link = { Link.reset with window := .ignored })

/-- The values after hard reset that R4, R5, R17, R20, R21, R51, R57, R73 to R77, R93, R103, R104, R111, R114, R132, R142, R147,
R162 to R164, R179, R190 and R191 give. The hard and more flags of an empty fault record are the model's choice (log entry 36). -/
def Obligations.ResetValuesAreTheSpecs : Prop :=
  (∀ i, let m := State.reset.mon i
      m.contact = .opened ∧ m.candidate = none ∧ m.run = 0 ∧ m.seatedClass = none ∧ m.lastAlert = .high
        ∧ m.triggerMode = .level ∧ m.alertNotices = false ∧ m.sticky = false ∧ m.darkPulse = none ∧ m.locate = none
        ∧ m.pattern = .off ∧ State.reset.ledLine i = false)
    ∧ (∀ i, State.reset.ctx i = {
        state := .disabled, policy := .off, priority := 0, inputPolicy := .hold, contact := .opened
        inrushClass := none, identity := none, verdict := none, matched := none, inrushCommitted := 0
        steadyCommitted := 0, inWindow := none, outWindow := none, inputQuality := none, missCount := none
        leaving := none, destination := none, reason := none, attempts := 0, faultRecord := ⟨none, false, false⟩
        settleTimer := none })
    ∧ (∀ i, State.reset.railOf i = {
        closed := false, rampTimer := none, powerSeen := false, lossReported := false, dischargeTimer := none
        queued := false })
    ∧ (∀ i, let d := State.reset.det i
      d.run = .stopped ∧ d.duty = none ∧ d.ratio = none ∧ d.expected = none ∧ d.coarse = false ∧ d.fine = false
        ∧ d.fineRun = 0 ∧ d.qualTimer = .idle ∧ d.graceTimer = none)
    ∧ (∀ i, State.reset.scanOf i
        = { splice := none, cost := none, skip := none, marker := none, snapshot := none })
    ∧ State.reset.params = {
        makeFilter := 8, settleTime := 30, maxAttempts := 2, inrushBudget := 120, steadyBudget := 200, rampLimit := 2
        arbiterMode := .fixed, rampTimeout := 100, dischargeTime := 100, railFullMv := 22800, railFloorMv := 19200
        classTable := #v[⟨0, 0⟩, ⟨8, 2⟩, ⟨16, 4⟩, ⟨24, 8⟩, ⟨32, 12⟩, ⟨48, 16⟩, ⟨64, 24⟩, ⟨96, 32⟩]
        qualTimeout := 20, qualRun := 4, lockTolerance := 1, refTimeout := 5, ageInterval := 0
        imageReserveIn := 0, imageReserveOut := 0, cyclePeriod := 2000, fillPercent := 85, missLimit := 3 }
    ∧ State.reset.rail = { value := 0, effective := 0, sag := false, brownout := false, lastGranted := 11 }
    ∧ State.reset.ci = 0 ∧ State.reset.cs = 0 ∧ State.reset.load = 0 ∧ State.reset.budget = 1700000
    ∧ (let l := State.reset.lane
      l.state = .idle ∧ l.queue = [] ∧ l.transaction = none ∧ l.tries = 0 ∧ l.lost = 0 ∧ l.checkUsed = false
        ∧ l.retryGap = none ∧ l.holdTimer = none ∧ l.acknowledgeTimer = none ∧ l.recoveryTimer = none
        ∧ l.message = none ∧ State.reset.lckLine = .released ∧ State.reset.ldaLine = .released
        ∧ ∀ i, State.reset.selLine i = false)
    ∧ State.reset.clock = { refLost := false, frozen := false, watchTimer := some 10, returnTimer := none }
    ∧ (∀ k, State.reset.entry k = ⟨none, 0⟩) ∧ State.reset.directory.ageTimer = none
    ∧ State.reset.imageIn = ⟨[], [⟨0, 128⟩]⟩ ∧ State.reset.imageOut = ⟨[], [⟨0, 128⟩]⟩
    ∧ (∀ a, Memory.read State.reset.imageIn.mem a = 0 ∧ Memory.read State.reset.imageOut.mem a = 0)
    ∧ State.reset.scan = { state := .stopped, cycle := 0, period := .idle, exchange := none, remaining := [] }
    ∧ State.reset.link.state = .idle ∧ State.reset.link.answer = none ∧ State.reset.link.reply = none
    ∧ State.reset.link.dropped = false
    ∧ State.reset.notices = ⟨[⟨.started, none, 0, []⟩], false⟩ ∧ State.reset.marks = ⟨false, false, false⟩
    ∧ State.reset.faultLine = false ∧ State.reset.attnLine = true ∧ State.reset.readyLine = false
    ∧ State.reset.mode = .commission ∧ State.reset.safeOff = false

/-- R180: the start of a window keeps the link state of that moment, and changes nothing else. -/
def Obligations.WindowStartKeepsTheLinkState : Prop :=
  ∀ s : State, s.link.window = .closed →
    exec .transferWindowStart s
      = .next { s with link := { s.link with window := .opened s.link.state false } }

/-- R180, R181, R183: the window that carries the frame of a request runs exactly that request, once the reply that the
window has shifted out is consumed; SDO carried that reply, then 0xFF. Bytes after the frame's last CRC byte are discarded. A
request taken within an open window leaves the link state and the reply being shifted out to the end of the window, which
consumes the reply and makes the link HANDLING; taken with no window open it makes the link HANDLING at once. By log entries 2
and 3 a request is commanded by its row, or by the bytes of its window, and then takes effect in the step that ends the window.
A frame with a good CRC is refused UNKNOWN_REQUEST where its code is not in the table of 10.8, and BAD_LENGTH where its body has
not the length of its code, in every state, and changes no state beyond the link. The body of that reply is empty, but that of
BAD_LENGTH to SET MODE carries the rack mode (log entry 11); a SET PARAMETER whose id names no parameter has the length of three
(log entry 20). -/
def Obligations.TakenFrameRunsItsRequest : Prop :=
  ∀ s : State,
    (∀ (i : Instr) (f : Decode.Frame) (extra : List Byte), i.WellFormed → Decode.encode i = some f →
      let sdi := requestFrame f.code f.tag f.body ++ extra
      (s.link.window = .opened .idle false →
        exec (.transferWindowEnd sdi) s
          = exec i { s with link := { s.link with
              window := .closed, sdo := List.replicate (f.body.length + 6 + extra.length) 0xFF } })
      ∧ (∀ r, s.link.window = .opened .replyReady false → s.link.state = .replyReady → s.link.reply = some r →
        exec (.transferWindowEnd sdi) s
          = exec i { s with link := { s.link with
              window := .closed, state := .idle, reply := none
              sdo := (r.frame ++ List.replicate (f.body.length + 6 + extra.length) 0xFF).take
                (f.body.length + 6 + extra.length) } })
      ∧ (∀ (start : LinkState) (x : Bool), s.link.window = .opened start x → start ≠ .handling →
        ∃ t a, exec i s = .next t ∧ a.code = f.code ∧ a.tag = f.tag
          ∧ t.link = { s.link with window := .opened start true, answer := some a })
      ∧ (s.link.window = .closed →
        ∃ t a, exec i s = .next t ∧ a.code = f.code ∧ a.tag = f.tag
          ∧ t.link = { s.link with state := .handling, answer := some a, reply := none }))
    ∧ (∀ sdi, s.link.window = .opened .idle true →
      exec (.transferWindowEnd sdi) s = .next { s with link := { s.link with
        window := .closed, state := .handling, reply := none, sdo := List.replicate sdi.length 0xFF } })
    ∧ (∀ sdi r, s.link.window = .opened .replyReady true → s.link.reply = some r →
      exec (.transferWindowEnd sdi) s = .next { s with link := { s.link with
        window := .closed, state := .handling, reply := none
        sdo := (r.frame ++ List.replicate sdi.length 0xFF).take sdi.length } })
    ∧ ∀ (start : LinkState) (code tag : Byte) (body extra : List Byte),
      s.link.window = .opened start false → start ≠ .handling → body.length ≤ 80 →
      let sdi := requestFrame code tag body ++ extra
      let refused := fun (status : Status) (data : List Byte) =>
        { s with link := { s.link with
            window := .closed, state := .handling, reply := none, answer := some ⟨code, tag, status, data, none⟩
            sdo := ((if start = LinkState.replyReady then (s.link.reply.map Reply.frame).getD [] else [])
              ++ List.replicate sdi.length 0xFF).take sdi.length } }
      ((∀ p ∈ requestBodies, p.1 ≠ code.toNat) →
        exec (.transferWindowEnd sdi) s = .next (refused .unknownRequest []))
      ∧ (WrongLength code body →
        exec (.transferWindowEnd sdi) s
          = .next (refused .badLength (if code = 0x40 then [s.mode.code] else [])))

/-- R181, R182: in a window that started IDLE or REPLY_READY, a frame that is truncated, or has a wrong marker, length or CRC,
is answered with FRAME_ERROR once a reply shifted out has gone, with the code and tag as received or 0, and changes no state
beyond the link; the reply's body is empty also for the code of SET MODE (log entry 11). A window with no byte carries no
request. A frame in a window that started while the link was HANDLING is discarded unjudged and sets DROPPED, unless it has
set it within the window. -/
def Obligations.UntakenFramesChangeOnlyTheLink : Prop :=
  ∀ (sdi : List Byte) (s : State),
    (∀ start : LinkState, s.link.window = .opened start false → start ≠ .handling → sdi ≠ [] →
      ((sdi[0]?).getD 0 ≠ 0xD1 ∨ 80 < ((sdi[1]?).getD 0).toNat ∨ sdi.length < 6 + ((sdi[1]?).getD 0).toNat
        ∨ (sdi.drop (4 + ((sdi[1]?).getD 0).toNat)).take 2
            ≠ crcTail ((sdi.drop 1).take (3 + ((sdi[1]?).getD 0).toNat))) →
      ∃ t, exec (.transferWindowEnd sdi) s = .next t ∧ OnlyLink s t
        ∧ t.link.state = .replyReady ∧ t.link.window = .closed ∧ t.link.dropped = false
        ∧ t.link.sdo = ((if start = LinkState.replyReady then (s.link.reply.map Reply.frame).getD [] else [])
            ++ List.replicate sdi.length 0xFF).take sdi.length
        ∧ t.link.reply
            = some ⟨(sdi[2]?).getD 0, (sdi[3]?).getD 0, .frameError, s.link.dropped, s.notices.overflow, []⟩)
    ∧ (s.link.window = .opened .idle false →
      exec (.transferWindowEnd []) s = .next { s with link := { s.link with window := .closed, sdo := [] } })
    ∧ (s.link.window = .opened .replyReady false → s.link.state = .replyReady →
      exec (.transferWindowEnd []) s
        = .next { s with link := { s.link with window := .closed, sdo := [], state := .idle, reply := none } })
    ∧ (s.link.window = .opened .handling false → sdi ≠ [] →
      exec (.transferWindowEnd sdi) s
        = .next { s with link := { s.link with
            dropped := true, window := .closed, sdo := List.replicate sdi.length 0xFF } })
    ∧ (s.link.window = .opened .handling true ∨ (s.link.window = .opened .handling false ∧ sdi = []) →
      exec (.transferWindowEnd sdi) s
        = .next { s with link := { s.link with window := .closed, sdo := List.replicate sdi.length 0xFF } })

/-- R180, R182, R183, R186, R188: the reply is built with DROPPED and OVERFLOW in its flags, DROPPED becomes CLEAR and READY is
asserted. OVERFLOW is the flag as it stands, but for RESTART and FETCH NOTICES, whose rules fix it with their answer (log
entry 28). Where a window that started HANDLING is open and its frame has ended without having set DROPPED yet, the reply
carries DROPPED, and the end of the window will not set it again (log entry 4). -/
def Obligations.ReplyIsBuiltWithItsFlags : Prop :=
  ∀ (seen : List Byte) (s : State) (a : Answer), s.link.state = .handling → s.link.answer = some a →
    (s.link.window ≠ .opened .handling false ∨ seen.length < 2
        ∨ seen.length < 6 + ((seen[1]?).getD 0).toNat →
      ∃ t, exec (.replyBuilt seen) s = .next t ∧ t.readyLine = true
        ∧ t = { s with link := { s.link with
            state := .replyReady, answer := none, dropped := false
            reply := some ⟨a.code, a.tag, a.status, s.link.dropped, a.overflow.getD s.notices.overflow, a.body⟩ } })
    ∧ (s.link.window = .opened .handling false → 2 ≤ seen.length →
      6 + ((seen[1]?).getD 0).toNat ≤ seen.length →
      ∃ t, exec (.replyBuilt seen) s = .next t ∧ t.readyLine = true
        ∧ t = { s with link := { s.link with
            state := .replyReady, answer := none, dropped := false, window := .opened .handling true
            reply := some ⟨a.code, a.tag, a.status, true, a.overflow.getD s.notices.overflow, a.body⟩ } })

/-- R183, 10.8: the request codes and bodies. Reading what the encoder writes gives the request back, for every well-formed
request; and whatever is read as a request is written back byte for byte. A SET PARAMETER of an id that names no parameter is
read with one value (log entry 20). -/
def Obligations.RequestReadingAndWritingAgree : Prop :=
  (∀ (i : Instr) (f : Decode.Frame), i.WellFormed → Decode.encode i = some f →
      Decode.request f.code f.tag f.body = .ok i ∧ f.body.length ≤ 80)
    ∧ ∀ (code tag : Byte) (body : List Byte) (i : Instr), Decode.request code tag body = .ok i →
        i.WellFormed ∧ Decode.encode i = some ⟨code, tag, body⟩

/-- R85, R86, 10.8: the identity read from a record that carries an identity's bytes is that identity, and a record made
with its own check value passes the check. -/
def Obligations.IdentityRecordIsReadBack : Prop :=
  ∀ (d : Identity) (r : Vector Byte 32), r.toList.take 30 = d.bytes → identityOfRecord r = d
    ∧ (r.toList.drop 30 = crcTail d.bytes → recordChecks r = true)

/-! ## Queries (R184, R185, R188) -/

/-- R184, R185, R146: STATUS, SLOT INFO, GET PARAMETER and IMAGE MAP are answered in every rack state and change nothing
but the link. -/
def Obligations.QueriesAreAnsweredInEveryState : Prop :=
  ∀ (tag : Byte) (s : State),
    (∃ t, exec (.status tag) s = .next t ∧ OnlyLink s t ∧ Answers s t 0x01 tag .ok s.statusBody)
    ∧ (∀ i : Slot, ∃ t, exec (.slotInfo tag (byteOf i.val)) s = .next t ∧ OnlyLink s t
        ∧ Answers s t 0x02 tag .ok (s.slotInfoBody i))
    ∧ (∀ b : Byte, 11 < b.toNat → ∃ t, exec (.slotInfo tag b) s = .next t ∧ OnlyLink s t
        ∧ Answers s t 0x02 tag .badSlot [])
    ∧ (∀ (id : Byte) (p : ParamId), paramOf id = some p → ∃ t, exec (.getParameter tag id) s = .next t
        ∧ OnlyLink s t ∧ Answers s t 0x05 tag .ok (id :: (s.params.get p).flatMap be16))
    ∧ ∃ t, exec (.imageMap tag) s = .next t ∧ OnlyLink s t ∧ Answers s t 0x34 tag .ok s.imageMapBody

/-- 10.8: the STATUS body has 39 bytes and the SLOT INFO body 61, each field at its place; the directory entry body of 15 bytes,
the notice record and the IMAGE MAP body have their fields in place; and the codes of the value lists count from 0 in the
order of 10.8. The bytes of a field that an entry does not carry are read by log entry 10, and the LOCATE seconds are rounded
up by log entry 29. -/
def Obligations.ReportBodiesHaveTheirLayout : Prop :=
  (∀ s : State, s.statusBody.length = 39
      ∧ s.statusBody[0]? = some s.mode.code
      ∧ s.statusBody[1]? = some (byteOf ((if s.clock.refLost then 1 else 0) + (if s.clock.frozen then 2 else 0)
          + (if s.safeOff then 4 else 0) + (if s.rail.sag then 8 else 0) + (if s.rail.brownout then 16 else 0)))
      ∧ s.statusBody[2]? = some s.scan.state.code
      ∧ (s.statusBody.drop 3).take 4 = be32 s.scan.cycle.toNat
      ∧ (s.statusBody.drop 7).take 2 = be16 s.rail.value ∧ (s.statusBody.drop 9).take 2 = be16 s.rail.effective
      ∧ (s.statusBody.drop 11).take 2 = be16 s.ci ∧ (s.statusBody.drop 13).take 2 = be16 s.cs
      ∧ (s.statusBody.drop 15).take 4 = be32 s.load ∧ (s.statusBody.drop 19).take 4 = be32 s.budget
      ∧ s.statusBody[23]? = some (byteOf s.imageIn.freeTotal)
      ∧ s.statusBody[24]? = some (byteOf s.imageOut.freeTotal)
      ∧ s.statusBody[25]? = some (byteOf s.notices.queue.length)
      ∧ s.statusBody[26]? = some (if s.notices.overflow then 1 else 0)
      ∧ ∀ i : Slot, s.statusBody[27 + i.val]? = some (s.ctx i).state.code)
  ∧ (∀ (s : State) (i : Slot), (s.slotInfoBody i).length = 61
      ∧ (s.slotInfoBody i).take 6 = [byteOf i.val, (s.ctx i).state.code, (s.ctx i).policy.code,
          byteOf (s.ctx i).priority, (s.ctx i).inputPolicy.code, (s.ctx i).contact.code]
      ∧ ((s.slotInfoBody i).drop 6).take 1 = [match (s.ctx i).inrushClass with
          | none => 0xFF
          | some c => byteOf c.val]
      ∧ (s.slotInfoBody i)[7]? = some (if (s.ctx i).identity.isSome then 1 else 0)
      ∧ (∀ d, (s.ctx i).identity = some d → ((s.slotInfoBody i).drop 8).take 30 = d.bytes)
      ∧ ((s.ctx i).identity = none → ((s.slotInfoBody i).drop 8).take 30 = List.replicate 30 0)
      ∧ (s.slotInfoBody i)[38]? = some (((s.ctx i).verdict.map Verdict.code).getD 0xFF)
      ∧ ((s.slotInfoBody i).drop 39).take 1 = [match (s.ctx i).matched with
          | none => 0xFF
          | some k => byteOf k.val]
      ∧ (s.slotInfoBody i)[40]? = some (byteOf (s.ctx i).inrushCommitted)
      ∧ (s.slotInfoBody i)[41]? = some (byteOf (s.ctx i).steadyCommitted)
      ∧ ((s.slotInfoBody i).drop 42).take 2 = (match (s.ctx i).inWindow with
          | none => [0xFF, 0]
          | some w => [byteOf w.start, byteOf w.count])
      ∧ ((s.slotInfoBody i).drop 44).take 2 = (match (s.ctx i).outWindow with
          | none => [0xFF, 0]
          | some w => [byteOf w.start, byteOf w.count])
      ∧ (s.slotInfoBody i)[46]? = some (((s.ctx i).inputQuality.map InputQuality.code).getD 0xFF)
      ∧ (s.slotInfoBody i)[47]? = some (((s.ctx i).missCount.map byteOf).getD 0xFF)
      ∧ (s.slotInfoBody i)[48]? = some (((s.ctx i).leaving.map Leaving.code).getD 0xFF)
      ∧ ((s.slotInfoBody i).drop 49).take 1 = [match (s.ctx i).destination with
          | none => 0xFF
          | some .settling => 2
          | some .refused => 11
          | some .quarantined => 12]
      ∧ (s.slotInfoBody i)[50]? = some (((s.ctx i).reason.map Reason.code).getD 0xFF)
      ∧ (s.slotInfoBody i)[51]? = some (byteOf (s.ctx i).attempts)
      ∧ (s.slotInfoBody i)[52]? = some (((s.ctx i).faultRecord.cause.map Cause.code).getD 0xFF)
      ∧ (s.slotInfoBody i)[53]? = some (byteOf ((if (s.ctx i).faultRecord.hard then 1 else 0)
          + (if (s.ctx i).faultRecord.more then 2 else 0)))
      ∧ (s.slotInfoBody i)[54]? = some (s.mon i).triggerMode.code
      ∧ (s.slotInfoBody i)[55]? = some (if (s.mon i).alertNotices then 1 else 0)
      ∧ (s.slotInfoBody i)[56]? = some (if (s.mon i).sticky then 1 else 0)
      ∧ ((s.mon i).locate = none → (s.slotInfoBody i)[57]? = some 0)
      ∧ (∀ l, (s.mon i).locate = some l → ∃ n, (s.slotInfoBody i)[57]? = some (byteOf n) ∧ 1 ≤ n
          ∧ l.us ≤ n * 1000000 ∧ (1 < n → (n - 1) * 1000000 < l.us))
      ∧ (s.slotInfoBody i)[58]? = some (s.det i).run.code
      ∧ (s.slotInfoBody i)[59]? = some (byteOf ((if (s.det i).coarse then 1 else 0)
          + (if (s.det i).fine then 2 else 0)))
      ∧ (s.slotInfoBody i)[60]? = some (byteOf (s.det i).fineRun))
  ∧ (∀ (b : EntryBody) (users : Nat), let e := (Entry.mk (some b) users).bytes
      e.length = 15 ∧ e[7]? = some b.action.code
        ∧ e.take 7 = (match b.key with
          | .exact v k r => 1 :: be16 v.toNat ++ be16 k.toNat ++ [r, 0]
          | .kind v k => 2 :: be16 v.toNat ++ be16 k.toNat ++ [0, 0]
          | .vendor v => 3 :: be16 v.toNat ++ [0, 0, 0, 0]
          | .placed v k p => 4 :: be16 v.toNat ++ be16 k.toNat ++ [0, byteOf p.val])
        ∧ (e.drop 8).take 2 = (match b.origin with
          | .static => [0, 0]
          | .learned .fresh => [1, 0]
          | .learned .seen => [1, 1])
        ∧ (e.drop 10).take 1 = [match b.pinSlot with
          | none => 0xFF
          | some p => byteOf p.val]
        ∧ e[11]? = some (if b.service then 1 else 0)
        ∧ (e.drop 12).take 2 = (match b.reserve with
          | none => [0xFF, 0xFF]
          | some r => be16 r)
        ∧ e[14]? = some (byteOf users))
  ∧ (∀ n : Notice, n.bytes = [n.kind.code, (match n.slot with
          | none => 0xFF
          | some i => byteOf i.val), n.code, byteOf n.data.length] ++ n.data)
  ∧ (∀ (s : State), let a := s.imageIn.free.length; let b := s.imageOut.free.length
      s.imageMapBody.length = 52 + 2 * a + 2 * b
        ∧ s.imageMapBody[0]? = some (byteOf s.imageIn.freeTotal) ∧ s.imageMapBody[1]? = some (byteOf a)
        ∧ (∀ k e, s.imageIn.free[k]? = some e →
            (s.imageMapBody.drop (2 + 2 * k)).take 2 = [byteOf e.start, byteOf e.length])
        ∧ s.imageMapBody[2 + 2 * a]? = some (byteOf s.imageOut.freeTotal)
        ∧ s.imageMapBody[3 + 2 * a]? = some (byteOf b)
        ∧ (∀ k e, s.imageOut.free[k]? = some e →
            (s.imageMapBody.drop (4 + 2 * a + 2 * k)).take 2 = [byteOf e.start, byteOf e.length])
        ∧ ∀ i : Slot, (s.imageMapBody.drop (4 + 2 * a + 2 * b + 4 * i.val)).take 4
            = (match (s.ctx i).inWindow with
              | none => [0xFF, 0]
              | some w => [byteOf w.start, byteOf w.count])
            ++ (match (s.ctx i).outWindow with
              | none => [0xFF, 0]
              | some w => [byteOf w.start, byteOf w.count]))
  ∧ [SlotState.disabled, .vacant, .settling, .rampWait, .ramping, .identifying, .parked, .qualifying, .spliceWait,
      .online, .withdrawing, .refused, .quarantined].map SlotState.code = [0, 1, 2, 3, 4, 5, 6, 7, 8, 9, 10, 11, 12]
  ∧ [Verdict.admitCard, .admitLearned, .admitUnlearned, .park, .deny, .unknown, .wrongSlot, .noPower, .noRoom,
      .noScanTime, .badRecord, .hostRefused].map Verdict.code = [0, 1, 2, 3, 4, 5, 6, 7, 8, 9, 10, 11]
  ∧ [Cause.powerGoodTimeout, .idNoAnswer, .idTimeout, .laneBusy, .idCheck, .qualNoClock, .qualTimeout, .lockLost,
      .exchangeLost, .overcurrent, .powerLost].map Cause.code = [0, 1, 2, 3, 4, 5, 6, 7, 8, 9, 10]
  ∧ [Reason.host, .policyOff, .earlyRemoval, .removed, .fault, .refused, .safeOff].map Reason.code
      = [0, 1, 2, 3, 4, 5, 6]
  ∧ [NoticeKind.started, .inserted, .removed, .parked, .online, .refused, .fault, .withdrawn, .cardAlert, .cardMessage,
      .lockWarn, .learned, .agedOut, .railSag, .refLost, .refBack, .scanOverrun].map NoticeKind.code
      = [1, 2, 3, 4, 5, 6, 7, 8, 9, 10, 11, 12, 13, 14, 15, 16, 17]
  ∧ [Policy.off, .hold, .admitCard, .learn].map Policy.code = [0, 1, 2, 3]
  ∧ [InputPolicy.hold, .zero].map InputPolicy.code = [0, 1]
  ∧ [TriggerMode.level, .change, .fall, .rise].map TriggerMode.code = [0, 1, 2, 3]
  ∧ [ContactState.opened, .partway, .seated].map ContactState.code = [0, 1, 2]
  ∧ [InputQuality.none, .fresh, .held, .zeroed].map InputQuality.code = [0, 1, 2, 3]
  ∧ [Leaving.none, .releasePending, .leavePending].map Leaving.code = [0, 1, 2]
  ∧ [ScanState.stopped, .running, .stopping].map ScanState.code = [0, 1, 2]
  ∧ [RunState.stopped, .running, .paused].map RunState.code = [0, 1, 2]
  ∧ [Action.admitCard, .park, .deny].map Action.code = [0, 1, 2]
  ∧ [RackMode.commission, .run].map RackMode.code = [0, 1] ∧ [ImageId.input, .output].map ImageId.code = [0, 1]
  ∧ [Marker.normal, .release].map Marker.code = [0, 1]

/-- R188: FETCH NOTICES removes the oldest notices, up to the maximum, answers them with OVERFLOW as it stood, and clears
OVERFLOW; a maximum of 0 or above 8 is refused and changes nothing. -/
def Obligations.FetchNoticesRemovesTheOldest : Prop :=
  ∀ (tag maximum : Byte) (s : State),
    (1 ≤ maximum.toNat ∧ maximum.toNat ≤ 8 →
      ∃ t, exec (.fetchNotices tag maximum) s = .next t
        ∧ t.notices = ⟨s.notices.queue.drop maximum.toNat, false⟩
        ∧ OnlyLinkAndNotices s t
        ∧ t.link = s.link.take ⟨0x03, tag, .ok,
            byteOf (s.notices.queue.take maximum.toNat).length
              :: (s.notices.queue.take maximum.toNat).flatMap Notice.bytes,
            some s.notices.overflow⟩)
    ∧ (maximum.toNat = 0 ∨ 8 < maximum.toNat →
      ∃ t, exec (.fetchNotices tag maximum) s = .next t ∧ OnlyLink s t ∧ Answers s t 0x03 tag .badValue [])

/-! ## Parameters (R184) -/

/-- R4, R20, R21, R57, R61, R74 to R76, R103, R104, R132, R142, R163: a parameter whose rule clamps it takes the value, or the
nearer end of its range, answers the value used, and changes no other parameter. AGE_INTERVAL also restarts or stops its timer.
A rail threshold is clamped, and is refused BAD_VALUE where it does not stay on its side of the other; ARBITER_MODE takes 0 or 1
and is refused BAD_VALUE for any other value; each of the three, once taken, is followed by the arbiter's evaluation, which
leaves no head that could be granted. A class row is clamped to 255, and row 0 to zero, and the ramp queue is rechecked: a
queued slot whose class can no longer be granted is refused NO_POWER. -/
def Obligations.RangedParametersAreClamped : Prop :=
  ∀ (tag : Byte) (v : HWord) (s : State), s.safeOff = false →
    (∀ (id : Byte) (p : ParamId) (lo hi : Nat), (id, p, lo, hi) ∈ rangedParameters →
      ∃ t, exec (.setParameter tag id v none) s = .next t
        ∧ t.params.get p = [max lo (min hi v.toNat)]
        ∧ (∀ q, q ≠ p → t.params.get q = s.params.get q)
        ∧ { t with params := s.params, link := s.link } = s
        ∧ Answers s t 0x04 tag (if lo ≤ v.toNat ∧ v.toNat ≤ hi then .ok else .okClamped)
            (id :: be16 (max lo (min hi v.toNat))))
    ∧ (∃ t, exec (.setParameter tag 0x30 v none) s = .next t
        ∧ t.params = { s.params with ageInterval := min 255 v.toNat }
        ∧ t.directory = { s.directory with
            ageTimer := if v.toNat = 0 then none else some (min 255 v.toNat * 60000000) }
        ∧ { t with params := s.params, directory := s.directory, link := s.link } = s
        ∧ Answers s t 0x04 tag (if v.toNat ≤ 255 then .ok else .okClamped) (0x30 :: be16 (min 255 v.toNat)))
    ∧ (max 10000 (min 30000 v.toNat) ≤ s.params.railFloorMv →
      ∃ t, exec (.setParameter tag 0x16 v none) s = .next t ∧ OnlyLink s t ∧ Answers s t 0x04 tag .badValue [])
    ∧ (s.params.railFloorMv < max 10000 (min 30000 v.toNat) →
      ∃ t, exec (.setParameter tag 0x16 v none) s = .next t
        ∧ t.params = { s.params with railFullMv := max 10000 (min 30000 v.toNat) }
        ∧ t.rail.effective = effectiveSteady s.params.steadyBudget s.rail.value (max 10000 (min 30000 v.toNat))
            s.params.railFloorMv
        ∧ OnlyParamsAndGrants s { t with rail := { t.rail with effective := s.rail.effective } }
        ∧ (∀ i rest, t.rampOrder = i :: rest → ¬ MayBeGranted i t)
        ∧ Answers s t 0x04 tag (if 10000 ≤ v.toNat ∧ v.toNat ≤ 30000 then .ok else .okClamped)
            (0x16 :: be16 (max 10000 (min 30000 v.toNat))))
    ∧ (s.params.railFullMv ≤ max 10000 (min 30000 v.toNat) →
      ∃ t, exec (.setParameter tag 0x17 v none) s = .next t ∧ OnlyLink s t ∧ Answers s t 0x04 tag .badValue [])
    ∧ (max 10000 (min 30000 v.toNat) < s.params.railFullMv →
      ∃ t, exec (.setParameter tag 0x17 v none) s = .next t
        ∧ t.params = { s.params with railFloorMv := max 10000 (min 30000 v.toNat) }
        ∧ t.rail.effective = effectiveSteady s.params.steadyBudget s.rail.value s.params.railFullMv
            (max 10000 (min 30000 v.toNat))
        ∧ OnlyParamsAndGrants s { t with rail := { t.rail with effective := s.rail.effective } }
        ∧ (∀ i rest, t.rampOrder = i :: rest → ¬ MayBeGranted i t)
        ∧ Answers s t 0x04 tag (if 10000 ≤ v.toNat ∧ v.toNat ≤ 30000 then .ok else .okClamped)
            (0x17 :: be16 (max 10000 (min 30000 v.toNat))))
    ∧ (1 < v.toNat →
      ∃ t, exec (.setParameter tag 0x13 v none) s = .next t ∧ OnlyLink s t ∧ Answers s t 0x04 tag .badValue [])
    ∧ (v.toNat ≤ 1 →
      ∃ t, exec (.setParameter tag 0x13 v none) s = .next t
        ∧ t.params = { s.params with arbiterMode := if v.toNat = 0 then .fixed else .round }
        ∧ OnlyParamsAndGrants s t ∧ (∀ i rest, t.rampOrder = i :: rest → ¬ MayBeGranted i t)
        ∧ Answers s t 0x04 tag .ok (0x13 :: be16 v.toNat))
    ∧ ∀ (c : InrushClass) (w : HWord),
      let row : ClassRow := if c = 0 then ⟨0, 0⟩ else ⟨min 255 v.toNat, min 255 w.toNat⟩
      ∃ t, exec (.setParameter tag (byteOf (0x18 + c.val)) v (some w)) s = .next t
        ∧ t.params = { s.params with classTable := s.params.classTable.set c row }
        ∧ (∀ i, (s.railOf i).queued = false → t.slot i = s.slot i)
        ∧ ((∀ i, (s.railOf i).queued = false) → { t with params := s.params, link := s.link } = s)
        ∧ QueueRechecked s t
        ∧ Answers s t 0x04 tag (if row = ⟨v.toNat, w.toNat⟩ then .ok else .okClamped)
            (byteOf (0x18 + c.val) :: be16 row.inrush ++ be16 row.provisional)

/-- R61, R73, R74, R161, R162: CYCLE_PERIOD is clamped to 250 to 20000 and rounded down to a multiple of 50, and FILL_PERCENT is
clamped to 50 to 95; either is refused TOO_SHORT with the minimum period, the least multiple of 50 from 250 on whose budget
carries the load, where the budget would fall below the scan load (for a fill out of its range the model uses the clamped one,
log entry 34). A budget or RAMP_LIMIT is not lowered below what is in use: IN_USE, and nothing changes. A budget taken is
stored, a queued card whose class no longer fits is refused NO_POWER, and no slot outside the ramp queue changes. -/
def Obligations.FiguresInUseAreNotLowered : Prop :=
  (∀ load fill : Nat, 0 < fill →
      minimumPeriod load fill % 50 = 0 ∧ 250 ≤ minimumPeriod load fill
        ∧ load ≤ minimumPeriod load fill * 10 * fill
        ∧ ∀ p, p % 50 = 0 → 250 ≤ p → load ≤ p * 10 * fill → minimumPeriod load fill ≤ p)
    ∧ ∀ (tag : Byte) (v : HWord) (s : State), s.safeOff = false →
      (∃ t, exec (.setParameter tag 0x50 v none) s = .next t
        ∧ (s.load ≤ max 250 (min 20000 v.toNat) / 50 * 50 * 10 * s.params.fillPercent →
            t.params.cyclePeriod = max 250 (min 20000 v.toNat) / 50 * 50
              ∧ { t with params := { t.params with cyclePeriod := s.params.cyclePeriod }, link := s.link } = s
              ∧ Answers s t 0x04 tag (if max 250 (min 20000 v.toNat) / 50 * 50 = v.toNat then .ok else .okClamped)
                  (0x50 :: be16 (max 250 (min 20000 v.toNat) / 50 * 50)))
        ∧ (max 250 (min 20000 v.toNat) / 50 * 50 * 10 * s.params.fillPercent < s.load →
            OnlyLink s t ∧ Answers s t 0x04 tag .tooShort (be16 (minimumPeriod s.load s.params.fillPercent))))
      ∧ (∃ t, exec (.setParameter tag 0x51 v none) s = .next t
        ∧ (s.load ≤ s.params.cyclePeriod * 10 * max 50 (min 95 v.toNat) →
            t.params.fillPercent = max 50 (min 95 v.toNat)
              ∧ { t with params := { t.params with fillPercent := s.params.fillPercent }, link := s.link } = s
              ∧ Answers s t 0x04 tag (if max 50 (min 95 v.toNat) = v.toNat then .ok else .okClamped)
                  (0x51 :: be16 (max 50 (min 95 v.toNat))))
        ∧ (s.params.cyclePeriod * 10 * max 50 (min 95 v.toNat) < s.load →
            OnlyLink s t
              ∧ Answers s t 0x04 tag .tooShort (be16 (minimumPeriod s.load (max 50 (min 95 v.toNat))))))
      ∧ (min v.toNat 1023 < s.ci → ∃ t, exec (.setParameter tag 0x10 v none) s = .next t ∧ OnlyLink s t
          ∧ Answers s t 0x04 tag .inUse [])
      ∧ (s.ci ≤ min v.toNat 1023 → ∃ t, exec (.setParameter tag 0x10 v none) s = .next t
          ∧ t.params = { s.params with inrushBudget := min v.toNat 1023 }
          ∧ (∀ i, (s.railOf i).queued = false → t.slot i = s.slot i)
          ∧ ((∀ i, (s.railOf i).queued = false) → { t with params := s.params, link := s.link } = s)
          ∧ (∀ i, (s.railOf i).queued = true → (s.ctx i).state = .rampWait → (s.railOf i).closed = false →
              (s.railOf i).dischargeTimer = none → s.inRoster i = false → (s.ctx i).policy ≠ .off →
              (s.ctx i).contact = .seated →
              min v.toNat 1023 < s.params.classTable[(s.ctx i).inrushClass.getD 0].inrush →
              (t.ctx i).state = .refused ∧ (t.ctx i).verdict = some .noPower ∧ (t.railOf i).queued = false
                ∧ (t.ctx i).attempts = (s.ctx i).attempts)
          ∧ Answers s t 0x04 tag (if v.toNat ≤ 1023 then .ok else .okClamped) (0x10 :: be16 (min v.toNat 1023)))
      ∧ (min v.toNat 1023 < s.cs → ∃ t, exec (.setParameter tag 0x11 v none) s = .next t ∧ OnlyLink s t
          ∧ Answers s t 0x04 tag .inUse [])
      ∧ (s.cs ≤ min v.toNat 1023 → ∃ t, exec (.setParameter tag 0x11 v none) s = .next t
          ∧ t.params = { s.params with steadyBudget := min v.toNat 1023 }
          ∧ t.rail.effective = effectiveSteady (min v.toNat 1023) s.rail.value s.params.railFullMv s.params.railFloorMv
          ∧ (∀ i, (s.railOf i).queued = false → t.slot i = s.slot i)
          ∧ ((∀ i, (s.railOf i).queued = false) → { t with
              params := s.params, link := s.link, rail := { t.rail with effective := s.rail.effective } } = s)
          ∧ (∀ i, (s.railOf i).queued = true → (s.ctx i).state = .rampWait → (s.railOf i).closed = false →
              (s.railOf i).dischargeTimer = none → s.inRoster i = false → (s.ctx i).policy ≠ .off →
              (s.ctx i).contact = .seated →
              min v.toNat 1023 < s.params.classTable[(s.ctx i).inrushClass.getD 0].provisional →
              (t.ctx i).state = .refused ∧ (t.ctx i).verdict = some .noPower ∧ (t.railOf i).queued = false
                ∧ (t.ctx i).attempts = (s.ctx i).attempts)
          ∧ Answers s t 0x04 tag (if v.toNat ≤ 1023 then .ok else .okClamped) (0x11 :: be16 (min v.toNat 1023)))
      ∧ (max 1 (min 4 v.toNat) < s.rampingCount → ∃ t, exec (.setParameter tag 0x12 v none) s = .next t
          ∧ OnlyLink s t ∧ Answers s t 0x04 tag .inUse [])
      ∧ (s.rampingCount ≤ max 1 (min 4 v.toNat) → ∃ t, exec (.setParameter tag 0x12 v none) s = .next t
          ∧ t.params = { s.params with rampLimit := max 1 (min 4 v.toNat) }
          ∧ OnlyParamsAndGrants s t ∧ (∀ i rest, t.rampOrder = i :: rest → ¬ MayBeGranted i t)
          ∧ Answers s t 0x04 tag (if 1 ≤ v.toNat ∧ v.toNat ≤ 4 then .ok else .okClamped)
              (0x12 :: be16 (max 1 (min 4 v.toNat))))

/-- R54: E at a rail value, for every budget and every pair of thresholds: S at or above full, 0 at or below the floor, the
floor of the proportion between; never above S, and never lower at a higher rail value. -/
def Obligations.EffectiveSteadyFollowsTheRail : Prop :=
  ∀ S F L : Nat, L < F → ∀ v : Nat,
    (F ≤ v → effectiveSteady S v F L = S)
    ∧ (v ≤ L → effectiveSteady S v F L = 0)
    ∧ (L < v → v < F → effectiveSteady S v F L = S * (v - L) / (F - L))
    ∧ effectiveSteady S v F L ≤ S
    ∧ ∀ w, v ≤ w → effectiveSteady S v F L ≤ effectiveSteady S w F L

/-! ## RESTART (R186) -/

/-- R17, R52, R77, R93, R111, R114, R132, R141, R164, R179, R186: what RESTART makes of every block. The hard and
more flags of a fault record that it empties are the model's choice (log entry 36). -/
def Obligations.RestartRebuildsEveryBlock : Prop :=
  ∀ (tag : Byte) (s : State), s.safeOff = false → ∃ t, exec (.restart tag) s = .next t
    ∧ (∀ i, (t.ctx i).state
          = (if (s.ctx i).policy = .off then .disabled else if (s.ctx i).contact = .seated then .settling else .vacant)
        ∧ t.ctx i = {
            state := (t.ctx i).state, policy := (s.ctx i).policy, priority := (s.ctx i).priority
            inputPolicy := (s.ctx i).inputPolicy, contact := (s.ctx i).contact
            inrushClass := if (t.ctx i).state = .settling then (s.mon i).seatedClass else none
            identity := none, verdict := none, matched := none, inrushCommitted := 0, steadyCommitted := 0
            inWindow := none, outWindow := none, inputQuality := none, missCount := none, leaving := none
            destination := none, reason := none, attempts := 0, faultRecord := ⟨none, false, false⟩
            settleTimer := if (t.ctx i).state = .settling then
              some (max (s.params.settleTime * 10000) (s.params.dischargeTime * 1000)) else none }
        ∧ { t.mon i with pattern := (s.mon i).pattern, ledPhase := (s.mon i).ledPhase, ledSamples := (s.mon i).ledSamples }
          = { s.mon i with sticky := false, darkPulse := none, locate := none }
        ∧ (t.mon i).pattern = (if (t.ctx i).state = .settling then .slow else .off)
        ∧ ((t.mon i).pattern = (s.mon i).pattern →
            (t.mon i).ledPhase = (s.mon i).ledPhase ∧ (t.mon i).ledSamples = (s.mon i).ledSamples)
        ∧ ((t.mon i).pattern ≠ (s.mon i).pattern → (t.mon i).ledPhase = 0 ∧ (t.mon i).ledSamples = 0)
        ∧ t.railOf i = {
            closed := false, rampTimer := none, powerSeen := false, lossReported := false, dischargeTimer := none
            queued := false }
        ∧ t.scanOf i = { splice := none, cost := none, skip := none, marker := none, snapshot := none }
        ∧ (t.det i).run = .stopped ∧ (t.det i).duty = none ∧ (t.det i).ratio = none ∧ (t.det i).expected = none
        ∧ (t.det i).coarse = false ∧ (t.det i).fine = false ∧ (t.det i).fineRun = 0 ∧ (t.det i).qualTimer = .idle
        ∧ (t.det i).graceTimer = none)
    ∧ t.ci = 0 ∧ t.cs = 0 ∧ t.load = 0
    ∧ t.rail = { s.rail with lastGranted := 11 }
    ∧ t.lane = { s.lane with
        queue := [], readBegun := false, retryGap := none
        transaction := s.lane.transaction.map fun x => { x with orphaned := true } }
    ∧ t.clock = ⟨false, false, some (s.params.refTimeout * 2), none⟩
    ∧ (∀ k, t.entry k = { s.entry k with users := 0 })
    ∧ t.directory.ageTimer
        = (if s.params.ageInterval = 0 then none else some (s.params.ageInterval * 60000000))
    ∧ t.imageIn = { s.imageIn with free := [⟨0, 128⟩] } ∧ t.imageOut = { s.imageOut with free := [⟨0, 128⟩] }
    ∧ t.scan = {
        state := .stopped, cycle := 0, period := .idle, remaining := []
        exchange := s.scan.exchange.map fun e => { e with discarded := true } }
    ∧ t.notices = ⟨[⟨.started, none, 1, []⟩], false⟩
    ∧ t.marks = ⟨false, s.rail.brownout, false⟩
    ∧ t.params = s.params ∧ t.mode = s.mode ∧ t.safeOff = s.safeOff ∧ t.pending = s.pending
    ∧ t.link = s.link.take ⟨0x06, tag, .ok, [], some false⟩

/-! ## Requests on one slot (Sections 1, 2 and 9) -/

/-- R19, R22, R23, R47, R48: a taken SET SLOT POLICY writes its five fields at once. For a slot outside the ramp queue: a
policy other than OFF changes nothing more, but takes a DISABLED slot to VACANT, or to SETTLING where its card is seated;
and OFF takes a slot in VACANT, SETTLING, REFUSED or QUARANTINED to DISABLED. -/
def Obligations.SlotPolicyIsWritten : Prop :=
  ∀ (tag policy priority ip tm an : Byte) (i : Slot) (f : PolicyFields) (s : State), s.safeOff = false →
    policyFieldsOf policy priority ip tm an = some f → (s.railOf i).queued = false →
    ((f.policy ≠ .off ∨ (s.ctx i).state = .vacant ∨ (s.ctx i).state = .settling ∨ (s.ctx i).state = .refused
        ∨ (s.ctx i).state = .quarantined ∨ (s.ctx i).state = .disabled ∨ (s.ctx i).state = .withdrawing) →
      ∃ t, exec (.setSlotPolicy tag (byteOf i.val) policy priority ip tm an) s = .next t
        ∧ OnlySlotAndMatch i s t ∧ Answers s t 0x10 tag .ok []
        ∧ (t.ctx i).policy = f.policy ∧ (t.ctx i).priority = f.priority ∧ (t.ctx i).inputPolicy = f.inputPolicy
        ∧ (t.mon i).triggerMode = f.triggerMode ∧ (t.mon i).alertNotices = f.alertNotices
        ∧ (t.mon i).sticky = (s.mon i).sticky ∧ (t.ctx i).contact = (s.ctx i).contact
        ∧ (t.ctx i).faultRecord = (s.ctx i).faultRecord
        ∧ t.railOf i = s.railOf i ∧ t.det i = s.det i ∧ t.scanOf i = s.scanOf i
        ∧ ((f.policy ≠ .off ∧ (s.ctx i).state ≠ .disabled)
            ∨ (f.policy = .off ∧ ((s.ctx i).state = .disabled ∨ (s.ctx i).state = .withdrawing)) →
            t.directory = s.directory ∧ t.notices = s.notices
              ∧ { t.ctx i with
                  policy := (s.ctx i).policy, priority := (s.ctx i).priority
                  inputPolicy := (s.ctx i).inputPolicy } = s.ctx i)
        ∧ (f.policy ≠ .off → (s.ctx i).state = .disabled → (s.ctx i).contact ≠ .seated →
            MatchDropped i s t ∧ (t.ctx i).state = .vacant ∧ (t.ctx i).inrushClass = none ∧ t.notices = s.notices)
        ∧ (f.policy ≠ .off → (s.ctx i).state = .disabled → (s.ctx i).contact = .seated →
            MatchDropped i s t ∧ (t.ctx i).state = .settling
              ∧ (t.ctx i).settleTimer = some (s.params.settleTime * 10000)
              ∧ (t.ctx i).inrushClass = (s.mon i).seatedClass
              ∧ t.notices = s.notices.offer
                  ⟨.inserted, some i, 0, [optionCode ((s.mon i).seatedClass.map fun c => byteOf c.val)]⟩)
        ∧ (f.policy = .off → (s.ctx i).state ≠ .disabled → (s.ctx i).state ≠ .withdrawing →
            MatchDropped i s t ∧ (t.ctx i).state = .disabled ∧ (t.ctx i).inrushClass = none
              ∧ (t.ctx i).identity = none ∧ (t.ctx i).verdict = none ∧ (t.ctx i).attempts = 0
              ∧ (t.ctx i).settleTimer = none ∧ t.notices = s.notices))

/-- R35, R46, R94: RELEASE moves a PARKED slot to QUALIFYING and starts its detector and qualification timer; RETRY moves a
REFUSED or QUARANTINED slot to SETTLING with no verdict and no attempts counted, its fault record kept; in every other state
each is refused with WRONG_STATE. -/
def Obligations.ReleaseAndRetryResumeTheBringUp : Prop :=
  ∀ (tag : Byte) (i : Slot) (s : State), s.safeOff = false →
    ((s.ctx i).state = .parked → ∃ t, exec (.release tag (byteOf i.val)) s = .next t
      ∧ OnlySlotAndLink i s t ∧ Answers s t 0x11 tag .ok []
      ∧ { t.ctx i with state := .parked } = s.ctx i ∧ (t.ctx i).state = .qualifying
      ∧ (t.det i).duty = some .qualify ∧ (t.det i).coarse = false ∧ (t.det i).fine = false ∧ (t.det i).fineRun = 0
      ∧ (t.det i).expected = (s.ctx i).identity.map (fun d => expectedCounts d.ratioM d.ratioD)
      ∧ (s.clock.refLost = false → (t.det i).run = .running
          ∧ (t.det i).qualTimer = .running (s.params.qualTimeout * 1000))
      ∧ (s.clock.refLost = true → (t.det i).run = .paused
          ∧ (t.det i).qualTimer = .paused (s.params.qualTimeout * 1000))
      ∧ t.railOf i = s.railOf i ∧ t.scanOf i = s.scanOf i ∧ (t.mon i).contact = (s.mon i).contact)
    ∧ ((s.ctx i).state ≠ .parked → ∃ t, exec (.release tag (byteOf i.val)) s = .next t
      ∧ OnlyLink s t ∧ Answers s t 0x11 tag .wrongState [])
    ∧ ((s.ctx i).state = .refused ∨ (s.ctx i).state = .quarantined → ∃ t, exec (.retry tag (byteOf i.val)) s = .next t
      ∧ OnlySlotAndMatch i s t ∧ Answers s t 0x13 tag .ok [] ∧ t.notices = s.notices
      ∧ MatchDropped i s t ∧ (t.ctx i).state = .settling ∧ (t.ctx i).attempts = 0 ∧ (t.ctx i).verdict = none
      ∧ (t.ctx i).identity = none ∧ (t.ctx i).inrushClass = (s.mon i).seatedClass
      ∧ (t.ctx i).settleTimer = some (s.params.settleTime * 10000)
      ∧ (t.ctx i).faultRecord = (s.ctx i).faultRecord ∧ (t.ctx i).policy = (s.ctx i).policy
      ∧ t.railOf i = s.railOf i ∧ t.det i = s.det i ∧ t.scanOf i = s.scanOf i)
    ∧ ((s.ctx i).state ≠ .refused → (s.ctx i).state ≠ .quarantined → ∃ t, exec (.retry tag (byteOf i.val)) s = .next t
      ∧ OnlyLink s t ∧ Answers s t 0x13 tag .wrongState [])

/-- R29, R36, R45, R47, R71, R165, R166: REFUSE of a PARKED card, and WITHDRAW or a policy of OFF in a state of the bring-up in
which the switch is closed, power the card down: the slot is WITHDRAWING with the cause's reason and destination until its
discharge expires, and the work that it waited in is aborted. REFUSE posts REFUSED with HOST_REFUSED; the others post nothing.
Where the switch is open (SETTLING, RAMP_WAIT, a class 0 card) the withdrawal ends within the event. A policy of OFF writes the
other four fields with it, whatever they are. REFUSE outside PARKED is WRONG_STATE. -/
def Obligations.WithdrawalsPowerTheCardDown : Prop :=
  ∀ (tag : Byte) (i : Slot) (s : State), s.safeOff = false →
    (PoweredBringUp i s → ∃ t, exec (.withdraw tag (byteOf i.val)) s = .next t
      ∧ OnlySlotAndGrants i s t ∧ PoweredDown i s t .host .refused ∧ (t.ctx i).verdict = some .hostRefused
      ∧ t.notices = s.notices ∧ Answers s t 0x14 tag .ok []
      ∧ ((s.ctx i).state = .qualifying → (t.det i).run = .stopped ∧ (t.det i).qualTimer = .idle))
    ∧ (PoweredBringUp i s → (s.ctx i).state = .parked → ∃ t, exec (.refuse tag (byteOf i.val)) s = .next t
      ∧ OnlySlotAndGrants i s t ∧ PoweredDown i s t .refused .refused ∧ (t.ctx i).verdict = some .hostRefused
      ∧ t.notices = s.notices.offer ⟨.refused, some i, 11, []⟩ ∧ Answers s t 0x12 tag .ok [])
    ∧ ((s.ctx i).state ≠ .parked → ∃ t, exec (.refuse tag (byteOf i.val)) s = .next t
      ∧ OnlyLink s t ∧ Answers s t 0x12 tag .wrongState [])
    ∧ (PoweredBringUp i s → ∀ (q ip tm an : Byte) (f : PolicyFields), policyFieldsOf 0 q ip tm an = some f →
      ∃ t, exec (.setSlotPolicy tag (byteOf i.val) 0 q ip tm an) s = .next t
      ∧ OnlySlotAndGrants i s t ∧ FieldsWritten i f t
      ∧ PoweredDown i (s.modCtx i fun c => { c with policy := .off }) t .policyOff .settling
      ∧ (t.ctx i).verdict = (s.ctx i).verdict ∧ t.notices = s.notices ∧ Answers s t 0x10 tag .ok [])
    ∧ (InBringUp i s → (s.ctx i).state = .identifying ∨ (s.ctx i).state = .spliceWait → (s.railOf i).closed = true →
      (s.railOf i).queued = false →
      (∃ t, exec (.withdraw tag (byteOf i.val)) s = .next t ∧ OnlySlotAndWork i s t ∧ WorkAborted i s t
        ∧ PoweredDown i s t .host .refused ∧ (t.ctx i).verdict = some .hostRefused
        ∧ t.directory = s.directory ∧ t.notices = s.notices ∧ Answers s t 0x14 tag .ok [])
      ∧ ∀ (q ip tm an : Byte) (f : PolicyFields), policyFieldsOf 0 q ip tm an = some f →
        ∃ t, exec (.setSlotPolicy tag (byteOf i.val) 0 q ip tm an) s = .next t ∧ OnlySlotAndWork i s t
        ∧ FieldsWritten i f t ∧ WorkAborted i s t
        ∧ PoweredDown i (s.modCtx i fun c => { c with policy := .off }) t .policyOff .settling
        ∧ (t.ctx i).verdict = (s.ctx i).verdict ∧ t.directory = s.directory ∧ t.notices = s.notices
        ∧ Answers s t 0x10 tag .ok [])
    ∧ (InBringUp i s → (s.railOf i).closed = false → (s.railOf i).dischargeTimer = none →
      (∃ t, exec (.withdraw tag (byteOf i.val)) s = .next t ∧ OnlySlotAndWork i s t ∧ WorkAborted i s t
        ∧ WithdrawalEnded i s t (endOf (s.ctx i).policy (s.ctx i).contact .refused)
        ∧ ((t.ctx i).state = .refused → (t.ctx i).verdict = some .hostRefused)
        ∧ t.notices = s.notices.offer ⟨.withdrawn, some i, 0, [(t.ctx i).state.code]⟩ ∧ Answers s t 0x14 tag .ok [])
      ∧ ((s.ctx i).state ≠ .settling → ((s.railOf i).queued = true → (s.ctx i).state = .rampWait) →
        ∀ (q ip tm an : Byte) (f : PolicyFields), policyFieldsOf 0 q ip tm an = some f →
        ∃ t, exec (.setSlotPolicy tag (byteOf i.val) 0 q ip tm an) s = .next t ∧ OnlySlotAndWork i s t
          ∧ FieldsWritten i f t ∧ WorkAborted i s t ∧ WithdrawalEnded i s t .disabled
          ∧ t.notices = s.notices.offer ⟨.withdrawn, some i, 1, [0]⟩ ∧ Answers s t 0x10 tag .ok [])
      ∧ ((s.ctx i).state = .parked →
        ∃ t, exec (.refuse tag (byteOf i.val)) s = .next t ∧ OnlySlotAndWork i s t
          ∧ WithdrawalEnded i s t (endOf (s.ctx i).policy (s.ctx i).contact .refused)
          ∧ t.notices = (s.notices.offer ⟨.refused, some i, 11, []⟩).offer
              ⟨.withdrawn, some i, 5, [(t.ctx i).state.code]⟩
          ∧ Answers s t 0x12 tag .ok []))

/-- R45, R154, R159, R165, R167, R168: a WITHDRAW of an ONLINE card while the scan is RUNNING leaves the card powered and in the
roster: a RELEASE_CAPABLE card waits for its RELEASE exchange, and a LEAVE is queued for any other, as for every card in a
STOPPING scan. While the scan is STOPPED the card departs within the event, and then takes its power step. A WITHDRAW in
WITHDRAWING is answered ALREADY, and in DISABLED, VACANT, REFUSED and QUARANTINED WRONG_STATE. -/
def Obligations.WithdrawFromTheRosterWaitsForTheScan : Prop :=
  ∀ (tag : Byte) (i : Slot) (s : State), s.safeOff = false →
    ((s.ctx i).state = .online → s.inRoster i = true → s.scan.state ≠ .stopped →
      ∃ t, exec (.withdraw tag (byteOf i.val)) s = .next t
        ∧ OnlySlotAndLink i s t ∧ Answers s t 0x14 tag .ok []
        ∧ (t.ctx i).state = .withdrawing ∧ (t.ctx i).reason = some .host ∧ (t.ctx i).destination = some .refused
        ∧ (t.ctx i).verdict = some .hostRefused ∧ (t.ctx i).missCount = none
        ∧ (t.ctx i).steadyCommitted = (s.ctx i).steadyCommitted ∧ t.railOf i = s.railOf i
        ∧ (t.ctx i).inWindow = (s.ctx i).inWindow ∧ (t.ctx i).outWindow = (s.ctx i).outWindow
        ∧ (t.mon i).sticky = false ∧ (t.mon i).darkPulse = none
        ∧ (t.det i).run = .stopped ∧ (t.det i).graceTimer = none
        ∧ (t.scanOf i).skip = (s.scanOf i).skip ∧ (t.scanOf i).cost = (s.scanOf i).cost
        ∧ (if s.scan.state = .running ∧ (s.ctx i).identity.any Identity.releaseCapable = true then
            (t.ctx i).leaving = some .releasePending ∧ t.scanOf i = s.scanOf i
          else (t.ctx i).leaving = some .leavePending ∧ (t.scanOf i).splice = some .leave))
    ∧ (OnlineInRoster i s → s.scan.state = .stopped →
      ∃ t, exec (.withdraw tag (byteOf i.val)) s = .next t
        ∧ OnlySlotAndWork i s t ∧ t.lane = s.lane ∧ t.directory = s.directory ∧ t.notices = s.notices
        ∧ Answers s t 0x14 tag .ok []
        ∧ (t.ctx i).state = .withdrawing ∧ (t.ctx i).reason = some .host ∧ (t.ctx i).destination = some .refused
        ∧ (t.ctx i).leaving = some .leavePending ∧ (t.ctx i).verdict = some .hostRefused
        ∧ Departed i t ∧ WindowsReleased i s t ∧ PowerStepTaken i s t ∧ (t.det i).run = .stopped)
    ∧ ((s.ctx i).state = .withdrawing → ∃ t, exec (.withdraw tag (byteOf i.val)) s = .next t
        ∧ OnlyLink s t ∧ Answers s t 0x14 tag .already [])
    ∧ ((s.ctx i).state = .disabled ∨ (s.ctx i).state = .vacant ∨ (s.ctx i).state = .refused
          ∨ (s.ctx i).state = .quarantined →
        ∃ t, exec (.withdraw tag (byteOf i.val)) s = .next t ∧ OnlyLink s t ∧ Answers s t 0x14 tag .wrongState [])

/-- R13 to R16: LOCATE starts, replaces or ends a display of up to 60 seconds, and its end leaves the layers beneath; a dark
pulse ends at its expiry; and a phase of the pattern ends after its samples (an LED_PHASE_END moves a phase whose samples have
been counted, and surplus samples count toward the next, log entry 15). The LED shows the LOCATE display while it is present,
else nothing while a dark pulse is present, else the state's pattern. -/
def Obligations.IndicatorLayersFollowTheirRules : Prop :=
  LedPattern.slow.phases = [(true, 1000), (false, 1000)]
    ∧ LedPattern.double.phases = [(true, 400), (false, 400), (true, 400), (false, 2800)]
    ∧ LedPattern.fast.phases = [(true, 250), (false, 250)]
    ∧ ∀ (tag n : Byte) (i : Slot) (s : State),
      (s.safeOff = false → 0 < n.toNat →
        ∃ t, exec (.locate tag (byteOf i.val) n) s = .next t ∧ OnlySlotAndLink i s t
          ∧ t.slot i = { s.slot i with
              monitor := { s.mon i with locate := some ⟨min n.toNat 60 * 1000000, 0, 0⟩ } }
          ∧ (if n.toNat ≤ 60 then Answers s t 0x15 tag .ok [] else Answers s t 0x15 tag .okClamped [60]))
      ∧ (s.safeOff = false →
        ∃ t, exec (.locate tag (byteOf i.val) 0) s = .next t ∧ OnlySlotAndLink i s t
          ∧ t.slot i = { s.slot i with monitor := { s.mon i with locate := none } }
          ∧ Answers s t 0x15 tag (if (s.mon i).locate.isSome = true then .ok else .already) [])
      ∧ (∃ t, exec (.locateExpiry i) s = .next t ∧ OnlySlot i s t
          ∧ t.slot i = { s.slot i with monitor := { s.mon i with locate := none } })
      ∧ (∃ t, exec (.darkPulseExpiry i) s = .next t ∧ OnlySlot i s t
          ∧ t.slot i = { s.slot i with monitor := { s.mon i with darkPulse := none } })
      ∧ (∀ lit len, (s.mon i).pattern.phases[(s.mon i).ledPhase]? = some (lit, len) → len ≤ (s.mon i).ledSamples →
          ∃ t, exec (.ledPhaseEnd i .pattern) s = .next t ∧ OnlySlot i s t
            ∧ t.slot i = { s.slot i with monitor := { s.mon i with
                ledPhase := ((s.mon i).ledPhase + 1) % (s.mon i).pattern.phases.length
                ledSamples := (s.mon i).ledSamples - len } })
      ∧ (∀ l lit len, (s.mon i).locate = some l → locatePhases[l.phase]? = some (lit, len) → len ≤ l.samples →
          ∃ t, exec (.ledPhaseEnd i .locate) s = .next t ∧ OnlySlot i s t
            ∧ t.slot i = { s.slot i with monitor := { s.mon i with
                locate := some ⟨l.us, (l.phase + 1) % 17, l.samples - len⟩ } })
      ∧ (∀ l, (s.mon i).locate = some l →
          (s.ledLine i = true ↔ l.phase % 2 = 0 ∧ l.phase < 16))
      ∧ ((s.mon i).locate = none → (s.mon i).darkPulse ≠ none → s.ledLine i = false)
      ∧ ((s.mon i).locate = none → (s.mon i).darkPulse = none →
          ((s.mon i).pattern = .off → s.ledLine i = false)
          ∧ ((s.mon i).pattern = .steady → s.ledLine i = true)
          ∧ ∀ lit len, (s.mon i).pattern.phases[(s.mon i).ledPhase]? = some (lit, len) → s.ledLine i = lit)

/-- R12: ACK ALERT clears a flag that is SET, and sets it again at once in LEVEL mode while the last level is LOW, with a new
dark pulse and, where alert notices are ON, a CARD_ALERT; a flag that is CLEAR is answered ALREADY. -/
def Obligations.AckAlertClearsTheStickyFlag : Prop :=
  ∀ (tag : Byte) (i : Slot) (s : State), s.safeOff = false →
    ((s.mon i).sticky = true → ∃ t, exec (.ackAlert tag (byteOf i.val)) s = .next t
      ∧ Answers s t 0x16 tag .ok []
      ∧ ((s.mon i).triggerMode = .level ∧ (s.mon i).lastAlert = .low →
          OnlySlotAndMatch i s t ∧ t.directory = s.directory
          ∧ t.slot i = { s.slot i with monitor := { s.mon i with sticky := true, darkPulse := some 100000 } }
          ∧ t.notices = (if (s.mon i).alertNotices = true then s.notices.offer ⟨.cardAlert, some i, 0, []⟩
              else s.notices))
      ∧ ((s.mon i).triggerMode ≠ .level ∨ (s.mon i).lastAlert = .high →
          OnlySlotAndLink i s t ∧ t.slot i = { s.slot i with monitor := { s.mon i with sticky := false } }))
    ∧ ((s.mon i).sticky = false → ∃ t, exec (.ackAlert tag (byteOf i.val)) s = .next t
      ∧ OnlyLink s t ∧ Answers s t 0x16 tag .already [])

/-- R173, R174, R175: CLEAR FAULT for a slot empties its fault record and so its mark, or is answered ALREADY; for the rack
it leaves set exactly the marks whose conditions hold, answers OK where one was set, and carries the marks. The hard and more
flags of an emptied fault record are the model's choice (log entry 36). -/
def Obligations.ClearFaultClearsMarks : Prop :=
  ∀ (tag : Byte) (i : Slot) (s : State), s.safeOff = false →
    ((s.ctx i).faultRecord.cause ≠ none → ∃ t, exec (.clearFault tag (byteOf i.val)) s = .next t
      ∧ OnlySlotAndLink i s t ∧ Answers s t 0x17 tag .ok [] ∧ t.slotMark i = false
      ∧ t.slot i = { s.slot i with ctx := { s.ctx i with faultRecord := ⟨none, false, false⟩ } })
    ∧ ((s.ctx i).faultRecord.cause = none → ∃ t, exec (.clearFault tag (byteOf i.val)) s = .next t
      ∧ OnlyLink s t ∧ Answers s t 0x17 tag .already [])
    ∧ ∃ t, exec (.clearFault tag 0xFF) s = .next t
      ∧ t.marks = ⟨s.clock.refLost, s.rail.brownout, false⟩
      ∧ { t with marks := s.marks, link := s.link } = s
      ∧ Answers s t 0x17 tag (if s.marks = ⟨false, false, false⟩ then .already else .ok)
          [byteOf ((if s.clock.refLost = true then 1 else 0) + (if s.rail.brownout = true then 2 else 0))]
      ∧ (t.faultLine = true ↔ s.clock.refLost = true ∨ s.rail.brownout = true
          ∨ ∃ j, (s.ctx j).faultRecord.cause ≠ none)

/-! ## The directory (Section 6) -/

/-- R117: DIRECTORY ADD of a checked body is LOCKED in RUN, then DUPLICATE with the index, then FULL; otherwise the lowest
FREE entry takes the body as a STATIC one with no users, and the reply carries its index. -/
def Obligations.DirectoryAddTakesTheLowestFreeEntry : Prop :=
  ∀ (tag : Byte) (body : EntryBytes) (b : EntryBody) (s : State), s.safeOff = false → entryBodyOf body = some b →
    b.origin = .static
    ∧ (s.mode = .run → ∃ t, exec (.directoryAdd tag body) s = .next t ∧ OnlyLink s t
        ∧ Answers s t 0x20 tag .locked [])
    ∧ (s.mode = .commission → ∀ k c, (s.entry k).body = some c → c.key = b.key →
        (∀ j, j < k → (s.entry j).body.map EntryBody.key ≠ some b.key) →
        ∃ t, exec (.directoryAdd tag body) s = .next t ∧ OnlyLink s t
          ∧ Answers s t 0x20 tag .duplicate [byteOf k.val])
    ∧ (s.mode = .commission → (∀ k, (s.entry k).body.map EntryBody.key ≠ some b.key) →
        (∀ k, (s.entry k).body ≠ none) →
        ∃ t, exec (.directoryAdd tag body) s = .next t ∧ OnlyLink s t ∧ Answers s t 0x20 tag .full [])
    ∧ (s.mode = .commission → (∀ k, (s.entry k).body.map EntryBody.key ≠ some b.key) →
        ∀ k, (s.entry k).body = none → (∀ j, j < k → (s.entry j).body ≠ none) →
        ∃ t, exec (.directoryAdd tag body) s = .next t ∧ OnlyDirectoryAndLink s t
          ∧ t.directory.ageTimer = s.directory.ageTimer
          ∧ t.entry k = ⟨some b, 0⟩ ∧ (∀ j, j ≠ k → t.entry j = s.entry j)
          ∧ Answers s t 0x20 tag .ok [byteOf k.val])

/-- R118, R121: the tests of DIRECTORY DELETE and DIRECTORY KEEP in their order, and what each does once taken. -/
def Obligations.DirectoryDeleteAndKeepFollowTheirTests : Prop :=
  ∀ (tag : Byte) (k : EntryIndex) (s : State), s.safeOff = false →
    ((s.entry k).body = none → ∃ t, exec (.directoryDelete tag (byteOf k.val)) s = .next t ∧ OnlyLink s t
      ∧ Answers s t 0x21 tag .already [])
    ∧ (∀ b, (s.entry k).body = some b → b.origin = .static → s.mode = .run →
      ∃ t, exec (.directoryDelete tag (byteOf k.val)) s = .next t ∧ OnlyLink s t ∧ Answers s t 0x21 tag .locked [])
    ∧ (∀ b, (s.entry k).body = some b → (b.origin ≠ .static ∨ s.mode = .commission) → 0 < (s.entry k).users →
      ∃ t, exec (.directoryDelete tag (byteOf k.val)) s = .next t ∧ OnlyLink s t
        ∧ Answers s t 0x21 tag .inUse [byteOf (s.entry k).users])
    ∧ (∀ b, (s.entry k).body = some b → (b.origin ≠ .static ∨ s.mode = .commission) → (s.entry k).users = 0 →
      ∃ t, exec (.directoryDelete tag (byteOf k.val)) s = .next t ∧ OnlyDirectoryAndLink s t
        ∧ t.directory.ageTimer = s.directory.ageTimer
        ∧ t.entry k = ⟨none, 0⟩ ∧ (∀ j, j ≠ k → t.entry j = s.entry j) ∧ Answers s t 0x21 tag .ok [])
    ∧ (s.mode = .run → ∃ t, exec (.directoryKeep tag (byteOf k.val)) s = .next t ∧ OnlyLink s t
      ∧ Answers s t 0x24 tag .locked [])
    ∧ (s.mode = .commission → ((s.entry k).body = none ∨ ∃ b, (s.entry k).body = some b ∧ b.origin = .static) →
      ∃ t, exec (.directoryKeep tag (byteOf k.val)) s = .next t ∧ OnlyLink s t
        ∧ Answers s t 0x24 tag .wrongState [])
    ∧ (∀ b, s.mode = .commission → (s.entry k).body = some b → b.origin ≠ .static →
      ∃ t, exec (.directoryKeep tag (byteOf k.val)) s = .next t ∧ OnlyDirectoryAndLink s t
        ∧ t.directory.ageTimer = s.directory.ageTimer
        ∧ t.entry k = ⟨some { b with origin := .static }, (s.entry k).users⟩
        ∧ (∀ j, j ≠ k → t.entry j = s.entry j) ∧ Answers s t 0x24 tag .ok [])

/-- R119, R120: DIRECTORY READ answers the index and the entry's 15 bytes; DIRECTORY FIND answers the index of the entry that
has the type and key whole, or NOT_FOUND; neither changes anything. -/
def Obligations.DirectoryReadAndFindChangeNothing : Prop :=
  ∀ (tag : Byte) (s : State), s.safeOff = false →
    (∀ k : EntryIndex, ∃ t, exec (.directoryRead tag (byteOf k.val)) s = .next t ∧ OnlyLink s t
      ∧ Answers s t 0x22 tag .ok (byteOf k.val :: (s.entry k).bytes)
      ∧ (s.entry k).bytes.length = 15)
    ∧ (∀ (body : EntryBytes) (key : EntryKey) (k : EntryIndex), entryKeyOf body = some key →
        (s.entry k).body.map EntryBody.key = some key →
        (∀ j, j < k → (s.entry j).body.map EntryBody.key ≠ some key) →
        ∃ t, exec (.directoryFind tag body) s = .next t ∧ OnlyLink s t ∧ Answers s t 0x23 tag .ok [byteOf k.val])
    ∧ (∀ (body : EntryBytes) (key : EntryKey), entryKeyOf body = some key →
        (∀ j, (s.entry j).body.map EntryBody.key ≠ some key) →
        ∃ t, exec (.directoryFind tag body) s = .next t ∧ OnlyLink s t ∧ Answers s t 0x23 tag .notFound [])
    ∧ (∀ body : EntryBytes, entryKeyOf body = none →
        ∃ t, exec (.directoryFind tag body) s = .next t ∧ OnlyLink s t ∧ Answers s t 0x23 tag .badValue [])

/-- R130 to R132: a sweep ages every LEARNED entry by the table of R130 and posts AGED_OUT for those it frees, in ascending
index order; AGE SWEEP answers their number and leaves the timer, and the timer's expiry starts it again. -/
def Obligations.AgeingSweepsTheLearnedEntries : Prop :=
  ∀ s : State,
    (∀ tag : Byte, s.safeOff = false → ∃ t, exec (.ageSweep tag) s = .next t
      ∧ (∀ k, t.entry k = Aged (s.entry k))
      ∧ t.directory.ageTimer = s.directory.ageTimer
      ∧ t.notices = (allIndexes.filter fun k => Expires (s.entry k)).foldl
          (fun q k => q.offer ⟨.agedOut, none, 0, [byteOf k.val]⟩) s.notices
      ∧ { t with directory := s.directory, notices := s.notices, link := s.link } = s
      ∧ Answers s t 0x25 tag .ok [byteOf (allIndexes.filter fun k => Expires (s.entry k)).length])
    ∧ (s.directory.ageTimer ≠ none → ∃ t, exec .ageIntervalExpiry s = .next t
      ∧ (∀ k, t.entry k = Aged (s.entry k))
      ∧ t.directory.ageTimer
          = (if s.params.ageInterval = 0 then none else some (s.params.ageInterval * 60000000))
      ∧ t.notices = (allIndexes.filter fun k => Expires (s.entry k)).foldl
          (fun q k => q.offer ⟨.agedOut, none, 0, [byteOf k.val]⟩) s.notices
      ∧ { t with directory := s.directory, notices := s.notices } = s)

/-! ## Image access (Section 7) -/

/-- R143, R144: IMAGE READ answers the bytes of the slot's window from the offset and changes nothing; IMAGE WRITE writes the
data into the OUT window from the offset and changes no other byte and nothing else. A slot in a state in which its window is
not open to the request, or with no window, is refused WRONG_STATE, and an access beyond the declared bytes OUT_OF_WINDOW. -/
def Obligations.ImageAccessReachesTheWindowOnly : Prop :=
  ∀ (tag : Byte) (i : Slot) (o : HWord) (s : State) (d : Identity), s.safeOff = false → o.toNat ≤ 511 →
    (∀ (n : Byte) (g : ImageId), 1 ≤ n.toNat → n.toNat ≤ 64 →
      ((s.ctx i).window g = none ∨ ((s.ctx i).state ≠ .online ∧ (s.ctx i).state ≠ .withdrawing) →
        ∃ t, exec (.imageRead tag (byteOf i.val) g.code o n) s = .next t ∧ OnlyLink s t
          ∧ Answers s t 0x32 tag .wrongState [])
      ∧ ∀ w, (s.ctx i).identity = some d → (s.ctx i).window g = some w →
        (s.ctx i).state = .online ∨ (s.ctx i).state = .withdrawing →
        (o.toNat + n.toNat ≤ d.declared g →
          ∃ t, exec (.imageRead tag (byteOf i.val) g.code o n) s = .next t ∧ OnlyLink s t
            ∧ Answers s t 0x32 tag .ok
                ([byteOf i.val, g.code] ++ be16 o.toNat
                  ++ [n, optionCode ((s.ctx i).inputQuality.map InputQuality.code)]
                  ++ (List.range n.toNat).map fun b => Memory.read (s.image g).mem (16 * w.start + o.toNat + b)))
        ∧ (d.declared g < o.toNat + n.toNat →
          ∃ t, exec (.imageRead tag (byteOf i.val) g.code o n) s = .next t ∧ OnlyLink s t
            ∧ Answers s t 0x32 tag .outOfWindow []))
    ∧ (∀ data : List Byte, 1 ≤ data.length → data.length ≤ 64 →
      ((s.ctx i).outWindow = none ∨ (s.ctx i).state ≠ .online →
        ∃ t, exec (.imageWrite tag (byteOf i.val) o data) s = .next t ∧ OnlyLink s t
          ∧ Answers s t 0x33 tag .wrongState [])
      ∧ ∀ w, (s.ctx i).identity = some d → (s.ctx i).outWindow = some w → (s.ctx i).state = .online →
        (d.outputBytes.toNat < o.toNat + data.length →
          ∃ t, exec (.imageWrite tag (byteOf i.val) o data) s = .next t ∧ OnlyLink s t
            ∧ Answers s t 0x33 tag .outOfWindow [])
        ∧ (o.toNat + data.length ≤ d.outputBytes.toNat → ImagesCanonical s →
          ∃ t, exec (.imageWrite tag (byteOf i.val) o data) s = .next t
            ∧ { t with imageOut := s.imageOut, link := s.link } = s ∧ t.imageOut.free = s.imageOut.free
            ∧ Answers s t 0x33 tag .ok []
            ∧ ∀ a, Memory.read t.imageOut.mem a
                = if 16 * w.start + o.toNat ≤ a ∧ a < 16 * w.start + o.toNat + data.length then
                    (data[a - (16 * w.start + o.toNat)]?).getD 0
                  else Memory.read s.imageOut.mem a))

/-! ## Requests on the rack -/

/-- R192: SET MODE by its three tests in their order, each reply with the mode as it stands after the request. -/
def Obligations.SetModeFollowsItsTable : Prop :=
  ∀ (tag mode : Byte) (s : State), ∃ t, exec (.setMode tag mode) s = .next t
    ∧ (1 < mode.toNat → OnlyLink s t ∧ Answers s t 0x40 tag .badValue [s.mode.code])
    ∧ (mode.toNat ≤ 1 → s.safeOff = true → OnlyLink s t ∧ Answers s t 0x40 tag .safeOff [s.mode.code])
    ∧ (mode.toNat ≤ 1 → s.safeOff = false →
        (mode = s.mode.code → OnlyLink s t ∧ Answers s t 0x40 tag .already [s.mode.code])
        ∧ (mode = 1 → s.mode = .commission →
            { t with mode := .commission, link := s.link } = s ∧ t.mode = .run ∧ Answers s t 0x40 tag .ok [1])
        ∧ (mode = 0 → s.mode = .run → s.scan.state = .stopped →
            { t with mode := .run, link := s.link } = s ∧ t.mode = .commission ∧ Answers s t 0x40 tag .ok [0])
        ∧ (mode = 0 → s.mode = .run → s.scan.state ≠ .stopped →
            OnlyLink s t ∧ Answers s t 0x40 tag .wrongState [1]))

/-- R109, R110, R152: FREEZE sets FROZEN; THAW ends it where REF_LOST is false. A THAW with no slot in the ramp queue, in a
scan that is not STOPPED or holds no JOIN, changes nothing else; in a STOPPED scan it applies every held JOIN. -/
def Obligations.FreezeHoldsAndThawReleases : Prop :=
  ∀ (tag : Byte) (s : State), s.safeOff = false →
    (s.clock.frozen = false → exec (.freeze tag) s
      = .next ({ s with clock := { s.clock with frozen := true } }.reply 0x41 tag .ok []))
    ∧ (s.clock.frozen = true → exec (.freeze tag) s = .next (s.reply 0x41 tag .already []))
    ∧ (s.clock.refLost = true → exec (.thaw tag) s = .next (s.reply 0x42 tag .wrongState []))
    ∧ (s.clock.refLost = false → s.clock.frozen = false → exec (.thaw tag) s = .next (s.reply 0x42 tag .already []))
    ∧ (s.clock.refLost = false → s.clock.frozen = true → (∀ i, (s.railOf i).queued = false) →
        (s.scan.state ≠ .stopped ∨ ∀ i, (s.scanOf i).splice ≠ some .join) →
        exec (.thaw tag) s = .next ({ s with clock := { s.clock with frozen := false } }.reply 0x42 tag .ok []))
    ∧ (s.clock.refLost = false → s.clock.frozen = true → s.scan.state = .stopped →
        ∃ t, exec (.thaw tag) s = .next t ∧ t.clock = { s.clock with frozen := false }
          ∧ Answers s t 0x42 tag .ok [] ∧ t.scan = s.scan ∧ t.directory = s.directory ∧ t.imageIn = s.imageIn
          ∧ t.imageOut = s.imageOut
          ∧ ∀ i, (s.railOf i).queued = false →
              ((s.scanOf i).splice = some .join → (t.ctx i).state = .online ∧ (t.ctx i).attempts = 0
                ∧ (t.ctx i).missCount = some 0 ∧ (t.scanOf i).splice = none ∧ (t.scanOf i).skip = some false
                ∧ (t.scanOf i).cost = (s.scanOf i).cost ∧ (t.det i).duty = some .watch ∧ (t.det i).run = .running
                ∧ (t.det i).qualTimer = .idle)
              ∧ ((s.scanOf i).splice ≠ some .join → t.slot i = s.slot i))

/-- R176, R177: SAFE OFF with the mask of the closed switches while REF_LOST holds quiets every slot, takes every slot that is
neither DISABLED nor VACANT to DISABLED, VACANT or QUARANTINED by its policy and contacts, posts WITHDRAWN for each in
ascending order, and leaves the rack in SAFE_OFF. A mask of 4096 or above is refused BAD_VALUE, and a condition that fails
NOT_ALLOWED with the closed switches. -/
def Obligations.HonouredSafeOffQuietsTheRack : Prop :=
  ∀ (tag : Byte) (mask : HWord) (s : State), s.safeOff = false →
    (mask.toNat < 4096 → s.clock.refLost = true → mask.toNat = maskOf s.closedSwitches →
      ∃ t, exec (.safeOff tag mask) s = .next t ∧ t.safeOff = true ∧ t.marks = { s.marks with safeOff := true }
        ∧ Answers s t 0x43 tag .ok [] ∧ t.ci = 0 ∧ t.cs = 0 ∧ t.load = 0 ∧ t.closedSwitches = []
        ∧ QuietInSafeOff t ∧ t.scan.cycle = s.scan.cycle ∧ t.clock = s.clock ∧ t.params = s.params ∧ t.mode = s.mode
        ∧ t.rail = s.rail ∧ t.imageIn = ⟨s.imageIn.mem, [⟨0, 128⟩]⟩ ∧ t.imageOut = ⟨s.imageOut.mem, [⟨0, 128⟩]⟩
        ∧ t.notices = (allSlots.filter fun i => (s.ctx i).state != .disabled && (s.ctx i).state != .vacant).foldl
            (fun q i => q.offer ⟨.withdrawn, some i, 6, [(t.ctx i).state.code]⟩) s.notices
        ∧ ∀ i, (t.ctx i).faultRecord = (s.ctx i).faultRecord ∧ (t.mon i).locate = (s.mon i).locate
          ∧ (t.ctx i).inWindow = none ∧ (t.ctx i).outWindow = none
          ∧ (t.ctx i).state
            = (if (s.ctx i).state = .disabled ∨ (s.ctx i).state = .vacant then (s.ctx i).state
              else if (s.ctx i).policy = .off then .disabled
              else if (s.ctx i).contact = .seated then .quarantined else .vacant)
          ∧ ((t.ctx i).state = .quarantined → (t.ctx i).matched = none ∧ (t.ctx i).identity = (s.ctx i).identity
              ∧ (t.ctx i).verdict = (s.ctx i).verdict ∧ (t.ctx i).attempts = (s.ctx i).attempts))
    ∧ (mask.toNat < 4096 → s.clock.refLost = false ∨ mask.toNat ≠ maskOf s.closedSwitches →
      ∃ t, exec (.safeOff tag mask) s = .next t ∧ OnlyLink s t
        ∧ Answers s t 0x43 tag .notAllowed (be16 (maskOf s.closedSwitches)))
    ∧ (4096 ≤ mask.toNat →
      ∃ t, exec (.safeOff tag mask) s = .next t ∧ OnlyLink s t ∧ Answers s t 0x43 tag .badValue [])

/-- R178, R183: in SAFE_OFF every well-formed request but the five queries is refused with SAFE_OFF, or with the refusal
that its rule places before it, and changes nothing. Where the rules of the directory requests and of SET SLOT POLICY do not
place it, the SAFE_OFF refusal comes before their BAD_VALUE (log entry 8). -/
def Obligations.SafeOffRefusesEveryOtherRequest : Prop :=
  ∀ (i : Instr) (f : Decode.Frame) (s : State), i.WellFormed → Decode.encode i = some f → isQuery i = false →
    s.safeOff = true →
    ∃ t, exec i s = .next t ∧ OnlyLink s t
      ∧ Answers s t f.code f.tag ((refusedBeforeSafeOff i).getD .safeOff)
          (if f.code = 0x40 then [s.mode.code] else [])

/-- R115, R116, R143, R144, R173, R176, R180, R183, R184: every request is answered with its code and tag, and a request
refused (a status of 0x10 or above) changes nothing but the link, with a body that is empty but for the statuses, and the
request, whose rules give it data. A slot number above 11 is refused BAD_SLOT in every rack state, and a field value outside
its list or range BAD_VALUE, for most requests in every rack state and for the others outside SAFE_OFF (a service byte: log
entry 9; an id that names no parameter: log entry 20). -/
def Obligations.RefusedRequestsChangeNothing : Prop :=
  ∀ (i : Instr) (f : Decode.Frame) (s : State), Decode.encode i = some f →
    (∃ t a, exec i s = .next t ∧ t.link = s.link.take a ∧ a.code = f.code ∧ a.tag = f.tag
      ∧ (0x10 ≤ a.status.code.toNat → OnlyLink s t
          ∧ (a.body = [] ∨ a.status = .duplicate ∨ a.status = .inUse ∨ a.status = .tooShort ∨ a.status = .notAllowed
              ∨ f.code = 0x40)))
    ∧ (∀ st, i.WellFormed → refusedBeforeSafeOff i = some st →
      ∃ t, exec i s = .next t ∧ OnlyLink s t
        ∧ Answers s t f.code f.tag st (if f.code = 0x40 then [s.mode.code] else []))
    ∧ (i.WellFormed → s.safeOff = false → carriesBadValue i = true →
      ∃ t, exec i s = .next t ∧ OnlyLink s t ∧ Answers s t f.code f.tag .badValue [])

/-! ## The slot monitor (Section 1) -/

/-- R1 to R3, R6 to R8: a sample's debounce step, and the copy of a changed contact state, in every slot state. The run grows
while the same raw state differs from the contact state, and the contact state moves when it reaches MAKE_FILTER samples
toward more made or 2 toward less made. The sample counts toward the LED's phases. -/
def Obligations.SamplesAreDebounced : Prop :=
  rawContact .broken .broken = .opened ∧ rawContact .broken .made = .opened ∧ rawContact .made .broken = .partway
    ∧ rawContact .made .made = .seated
    ∧ ∀ (i : Slot) (l x : ContactLine) (key : BitVec 3) (alert : Level) (s : State),
      ∃ t, exec (.slotSample i l x key alert) s = .next t ∧ (t.mon i).lastAlert = alert
        ∧ (∀ j, j ≠ i → (s.railOf j).queued = false → t.slot j = s.slot j)
        ∧ (rawContact l x = (s.mon i).contact →
            (t.mon i).contact = (s.mon i).contact ∧ (t.mon i).candidate = none ∧ (t.mon i).run = 0
              ∧ t.ctx i = s.ctx i ∧ (t.mon i).seatedClass = (s.mon i).seatedClass
              ∧ (t.mon i).pattern = (s.mon i).pattern ∧ (t.mon i).ledPhase = (s.mon i).ledPhase
              ∧ (t.mon i).ledSamples = (s.mon i).ledSamples + 1
              ∧ (t.mon i).locate = (s.mon i).locate.map fun q => { q with samples := q.samples + 1 })
        ∧ (rawContact l x ≠ (s.mon i).contact →
            let n := if (s.mon i).candidate = some (rawContact l x) then (s.mon i).run + 1 else 1
            let bound := if (s.mon i).contact.rank < (rawContact l x).rank then s.params.makeFilter else 2
            (n < bound → (t.mon i).contact = (s.mon i).contact ∧ (t.mon i).candidate = some (rawContact l x)
              ∧ (t.mon i).run = n ∧ t.ctx i = s.ctx i ∧ (t.mon i).seatedClass = (s.mon i).seatedClass)
            ∧ (bound ≤ n → (t.mon i).contact = rawContact l x ∧ (t.ctx i).contact = rawContact l x
              ∧ (t.mon i).candidate = none ∧ (t.mon i).run = 0
              ∧ (t.mon i).seatedClass = (match rawContact l x with
                  | .opened => none
                  | .partway => (s.mon i).seatedClass
                  | .seated => some ⟨key.toNat, key.isLt⟩)))

/-- R8, R9, R11, R14: in ONLINE, a sample that meets the trigger condition on a flag that is CLEAR sets it, darkens the LED
for 100 ms and offers CARD_ALERT where alert notices are ON; any other sample leaves the flag, and so does every sample in
another state. -/
def Obligations.AlertsSetTheStickyFlag : Prop :=
  ∀ (i : Slot) (l x : ContactLine) (key : BitVec 3) (alert : Level) (s : State),
    rawContact l x = (s.mon i).contact →
    ∃ t, exec (.slotSample i l x key alert) s = .next t ∧ OnlySlotAndNotices i s t
      ∧ (let met := match (s.mon i).triggerMode with
          | .level => alert = .low
          | .change => alert ≠ (s.mon i).lastAlert
          | .fall => alert = .low ∧ (s.mon i).lastAlert = .high
          | .rise => alert = .high ∧ (s.mon i).lastAlert = .low
        ((s.ctx i).state = .online ∧ (s.mon i).sticky = false ∧ met →
          (t.mon i).sticky = true ∧ (t.mon i).darkPulse = some 100000
            ∧ t.notices = (if (s.mon i).alertNotices = true then s.notices.offer ⟨.cardAlert, some i, 0, []⟩
                else s.notices))
        ∧ ((s.ctx i).state ≠ .online ∨ (s.mon i).sticky = true ∨ ¬ met →
          (t.mon i).sticky = (s.mon i).sticky ∧ (t.mon i).darkPulse = (s.mon i).darkPulse ∧ t.notices = s.notices))

/-- R3, R13, R23, R25 to R28, R152, R154, R158, R165, R167, R169, R170, R178: the sample that completes a contact change, in every
state. One that completes a run of SEATED (the first of its run too, where MAKE_FILTER is 1) takes a VACANT slot to SETTLING,
whose pattern begins with it, at 0 samples by log entry 15, and gives a WITHDRAWING slot its new class. One that completes a run
away from SEATED takes a slot in SETTLING, REFUSED or QUARANTINED to VACANT. In the other states before ONLINE it aborts the
slot's work; it powers a card down at once where the switch is closed, and ends the withdrawal within the event where it is
open. In ONLINE and WITHDRAWING it takes the power step, and sets the skip mark of a roster slot; from ONLINE in a STOPPED scan
the card departs within the event. In DISABLED, in VACANT but for a new card, and between PARTIAL and OPEN only the copy of the
contact state changes. REMOVED stands ahead of WITHDRAWN (log entry 18). -/
def Obligations.ContactChangesReachTheSequencer : Prop :=
  ∀ (i : Slot) (l x : ContactLine) (key : BitVec 3) (alert : Level) (s : State),
    rawContact l x ≠ (s.mon i).contact →
    (rawContact l x = .seated → s.params.makeFilter ≤ runAfter i (rawContact l x) s → (s.ctx i).state = .vacant →
      s.safeOff = false →
      ∃ t, exec (.slotSample i l x key alert) s = .next t ∧ OnlySlotAndMatch i s t ∧ MatchDropped i s t
        ∧ (t.ctx i).state = .settling ∧ (t.ctx i).settleTimer = some (s.params.settleTime * 10000)
        ∧ (t.ctx i).inrushClass = some ⟨key.toNat, key.isLt⟩ ∧ (t.ctx i).identity = none ∧ (t.ctx i).verdict = none
        ∧ (t.mon i).pattern = .slow
        ∧ ((s.mon i).pattern ≠ .slow → (t.mon i).ledPhase = 0 ∧ (t.mon i).ledSamples = 0)
        ∧ t.notices = s.notices.offer ⟨.inserted, some i, 0, [byteOf key.toNat]⟩)
    ∧ (rawContact l x = .seated → s.params.makeFilter ≤ runAfter i (rawContact l x) s → (s.ctx i).state = .withdrawing →
      ∃ t, exec (.slotSample i l x key alert) s = .next t ∧ OnlySlotAndNotices i s t
        ∧ t.ctx i = { s.ctx i with contact := .seated, inrushClass := some ⟨key.toNat, key.isLt⟩ }
        ∧ t.notices = s.notices.offer ⟨.inserted, some i, 0, [byteOf key.toNat]⟩)
    ∧ ((s.mon i).contact = .seated → 2 ≤ runAfter i (rawContact l x) s →
        (s.ctx i).state = .settling ∨ (s.ctx i).state = .refused ∨ (s.ctx i).state = .quarantined →
      ∃ t, exec (.slotSample i l x key alert) s = .next t ∧ OnlySlotAndMatch i s t ∧ MatchDropped i s t
        ∧ (t.ctx i).state = .vacant ∧ (t.ctx i).settleTimer = none ∧ (t.ctx i).attempts = 0
        ∧ (t.ctx i).inrushClass = none ∧ (t.ctx i).faultRecord = (s.ctx i).faultRecord
        ∧ t.notices = s.notices.offer ⟨.removed, some i, (rawContact l x).code, []⟩)
    ∧ ((s.mon i).contact = .seated → 2 ≤ runAfter i (rawContact l x) s → PoweredBringUp i s →
      ∃ t, exec (.slotSample i l x key alert) s = .next t ∧ OnlySlotAndGrants i s t
        ∧ PoweredDown i (s.modCtx i fun c => { c with contact := rawContact l x }) t .earlyRemoval .settling
        ∧ t.notices = s.notices.offer ⟨.removed, some i, (rawContact l x).code, []⟩)
    ∧ ((s.mon i).contact = .seated → 2 ≤ runAfter i (rawContact l x) s → InBringUp i s →
        (s.ctx i).state = .identifying ∨ (s.ctx i).state = .spliceWait → (s.railOf i).closed = true →
        (s.railOf i).queued = false →
      ∃ t, exec (.slotSample i l x key alert) s = .next t ∧ OnlySlotAndWork i s t ∧ WorkAborted i s t
        ∧ PoweredDown i (s.modCtx i fun c => { c with contact := rawContact l x }) t .earlyRemoval .settling
        ∧ t.directory = s.directory
        ∧ t.notices = s.notices.offer ⟨.removed, some i, (rawContact l x).code, []⟩)
    ∧ ((s.mon i).contact = .seated → 2 ≤ runAfter i (rawContact l x) s → InBringUp i s → (s.ctx i).state ≠ .settling →
        (s.railOf i).closed = false → (s.railOf i).dischargeTimer = none →
      ∃ t, exec (.slotSample i l x key alert) s = .next t ∧ OnlySlotAndWork i s t ∧ WorkAborted i s t
        ∧ WithdrawalEnded i s t (if (s.ctx i).policy = .off then .disabled else .vacant)
        ∧ t.notices = (s.notices.offer ⟨.removed, some i, (rawContact l x).code, []⟩).offer
            ⟨.withdrawn, some i, 3, [(t.ctx i).state.code]⟩)
    ∧ ((s.mon i).contact = .seated → 2 ≤ runAfter i (rawContact l x) s → (s.ctx i).state = .online → s.inRoster i = true →
        (s.railOf i).queued = false → s.scan.state ≠ .stopped →
      ∃ t, exec (.slotSample i l x key alert) s = .next t ∧ OnlySlotAndGrants i s t
        ∧ (t.ctx i).state = .withdrawing ∧ (t.ctx i).destination = some .settling
        ∧ (t.ctx i).reason = some (if (s.railOf i).closed = true then .earlyRemoval else .removed)
        ∧ (t.ctx i).leaving = some .leavePending ∧ (t.scanOf i).splice = some .leave
        ∧ (t.scanOf i).skip = some true ∧ (t.scanOf i).cost = (s.scanOf i).cost ∧ (t.ctx i).missCount = none
        ∧ ((s.railOf i).closed = true → PowerStepTaken i s t)
        ∧ ((s.railOf i).closed = false → t.railOf i = s.railOf i)
        ∧ (t.ctx i).inWindow = (s.ctx i).inWindow ∧ (t.ctx i).outWindow = (s.ctx i).outWindow
        ∧ (t.ctx i).inputQuality = (s.ctx i).inputQuality ∧ (t.det i).run = .stopped ∧ (t.mon i).sticky = false
        ∧ t.notices = s.notices.offer ⟨.removed, some i, (rawContact l x).code, []⟩)
    ∧ ((s.mon i).contact = .seated → 2 ≤ runAfter i (rawContact l x) s → (s.ctx i).state = .online →
        s.inRoster i = true → (s.railOf i).queued = false → s.scan.state = .stopped →
        (s.railOf i).closed = true ∨ (s.railOf i).dischargeTimer = none →
      ∃ t, exec (.slotSample i l x key alert) s = .next t
        ∧ LeftStoppedScan i (s.modCtx i fun c => { c with contact := rawContact l x }) t .earlyRemoval .settling
        ∧ t.notices = (if (s.railOf i).closed = true then
            s.notices.offer ⟨.removed, some i, (rawContact l x).code, []⟩
          else (s.notices.offer ⟨.removed, some i, (rawContact l x).code, []⟩).offer
            ⟨.withdrawn, some i, 3, [(t.ctx i).state.code]⟩))
    ∧ ((if (s.mon i).contact.rank < (rawContact l x).rank then s.params.makeFilter else 2)
          ≤ runAfter i (rawContact l x) s →
        (s.ctx i).state = .disabled
          ∨ ((s.ctx i).state = .vacant ∧ (rawContact l x ≠ .seated ∨ s.safeOff = true))
          ∨ ((s.ctx i).state ≠ .online ∧ (s.mon i).contact ≠ .seated ∧ rawContact l x ≠ .seated) →
      ∃ t, exec (.slotSample i l x key alert) s = .next t ∧ OnlySlot i s t
        ∧ t.ctx i = { s.ctx i with contact := rawContact l x }
        ∧ t.railOf i = s.railOf i ∧ t.det i = s.det i ∧ t.scanOf i = s.scanOf i)
    ∧ ((s.mon i).contact = .seated → 2 ≤ runAfter i (rawContact l x) s → (s.ctx i).state = .withdrawing →
        (s.railOf i).queued = false →
      ∃ t, exec (.slotSample i l x key alert) s = .next t ∧ OnlySlotAndGrants i s t
        ∧ { t.ctx i with
            inrushCommitted := (s.ctx i).inrushCommitted, steadyCommitted := (s.ctx i).steadyCommitted }
          = { s.ctx i with contact := rawContact l x }
        ∧ t.scanOf i = { s.scanOf i with skip := (s.scanOf i).skip.map fun _ => true }
        ∧ ((s.railOf i).closed = true → PowerStepTaken i s t)
        ∧ ((s.railOf i).closed = false → t.railOf i = s.railOf i
            ∧ (t.ctx i).steadyCommitted = (s.ctx i).steadyCommitted)
        ∧ t.notices = s.notices.offer ⟨.removed, some i, (rawContact l x).code, []⟩)

/-! ## Rail power (Section 3) -/

/-- R30, R59, R60, R65, R80: the settle timer's expiry. A class 0 card joins the tail of the identify queue, and is read at
once on an idle lane with nobody waiting; a class that can never fit is refused NO_POWER at once; any other joins the ramp
queue, where it waits while the rack is FROZEN, and is granted within the event where it is alone and fits. -/
def Obligations.SettleExpiryOffersThePower : Prop :=
  ∀ (i : Slot) (c : InrushClass) (us : Nat) (s : State), (s.ctx i).state = .settling →
    (s.ctx i).settleTimer = some us → (s.ctx i).inrushClass = some c → (s.railOf i).queued = false →
    (s.railOf i).dischargeTimer = none → (s.railOf i).closed = false → s.inRoster i = false →
    (c = 0 → ∃ t, exec (.settleTimerExpiry i) s = .next t ∧ (t.ctx i).state = .identifying
      ∧ (t.ctx i).settleTimer = none ∧ t.lane.queue = s.lane.queue ++ [i]
      ∧ (∀ j, j ≠ i → t.slot j = s.slot j) ∧ t.railOf i = s.railOf i
      ∧ { t with slots := s.slots, lane := s.lane } = s
      ∧ (s.lane.queue = [] → s.lane.state = .idle → s.lane.retryGap = none → s.lane.readBegun = false →
          t.lane.state = .partBusy ∧ t.lane.transaction = some ⟨i, .start, false⟩ ∧ t.lane.holdTimer = some 25000
            ∧ t.lane.acknowledgeTimer = some 1000 ∧ t.lane.tries = 0 ∧ t.lane.lost = 0 ∧ t.selLine i = true))
    ∧ (c ≠ 0 → (s.params.inrushBudget < s.params.classTable[c].inrush
          ∨ s.params.steadyBudget < s.params.classTable[c].provisional) →
      (s.ctx i).policy ≠ .off → (s.ctx i).contact = .seated →
      ∃ t, exec (.settleTimerExpiry i) s = .next t ∧ OnlySlotAndMatch i s t ∧ MatchDropped i s t
        ∧ (t.ctx i).state = .refused ∧ (t.ctx i).verdict = some .noPower ∧ (t.ctx i).settleTimer = none
        ∧ (t.ctx i).attempts = (s.ctx i).attempts
        ∧ t.notices = (s.notices.offer ⟨.refused, some i, 7, []⟩).offer ⟨.withdrawn, some i, 5, [11]⟩)
    ∧ (c ≠ 0 → s.params.classTable[c].inrush ≤ s.params.inrushBudget →
        s.params.classTable[c].provisional ≤ s.params.steadyBudget →
      ∃ t, exec (.settleTimerExpiry i) s = .next t ∧ t.notices = s.notices
        ∧ (∀ j, j ≠ i → (s.railOf j).queued = false → t.slot j = s.slot j)
        ∧ (s.clock.frozen = true → (t.ctx i).state = .rampWait ∧ (t.railOf i).queued = true
            ∧ (t.railOf i).closed = false ∧ ∀ j, j ≠ i → t.slot j = s.slot j)
        ∧ ((∀ j, (s.railOf j).queued = false) → (s.ctx i).priority ≤ 3 → s.clock.frozen = false →
            s.rail.brownout = false → s.rampingCount < s.params.rampLimit →
            s.ci + s.params.classTable[c].inrush ≤ s.params.inrushBudget →
            s.cs + s.params.classTable[c].provisional ≤ s.rail.effective →
            (t.ctx i).state = .ramping ∧ (t.railOf i).queued = false ∧ (t.railOf i).closed = true
              ∧ (t.ctx i).inrushCommitted = s.params.classTable[c].inrush
              ∧ (t.ctx i).steadyCommitted = s.params.classTable[c].provisional
              ∧ (t.railOf i).rampTimer = some (s.params.rampTimeout * 1000) ∧ (t.railOf i).powerSeen = false
              ∧ (t.railOf i).lossReported = false ∧ t.rail.lastGranted = i ∧ t.powerLine i = true))

/-- R53 to R56, R174: a rail sample sets the rail value, E, SAG with its hysteresis and notices, and BROWNOUT with its mark;
no slot changes unless BROWNOUT ended or E rose, and then only slots of the ramp queue. -/
def Obligations.RailSampleSetsTheBudget : Prop :=
  ∀ (reading : Nat) (s : State), ∃ t, exec (.railSample reading) s = .next t
    ∧ t.rail.value = min reading 32000
    ∧ t.rail.effective = effectiveSteady s.params.steadyBudget (min reading 32000) s.params.railFullMv
        s.params.railFloorMv
    ∧ t.rail.brownout = decide (min reading 32000 < s.params.railFloorMv)
    ∧ t.marks = { s.marks with
        brownout := s.marks.brownout || (t.rail.brownout && !s.rail.brownout) }
    ∧ (s.rail.sag = false → min reading 32000 < s.params.railFullMv →
        t.rail.sag = true ∧ t.notices = s.notices.offer ⟨.railSag, none, 0, be16 (min reading 32000)⟩)
    ∧ (s.rail.sag = true → s.params.railFullMv + 200 ≤ min reading 32000 →
        t.rail.sag = false ∧ t.notices = s.notices.offer ⟨.railSag, none, 1, be16 (min reading 32000)⟩)
    ∧ ((s.rail.sag = false ∧ s.params.railFullMv ≤ min reading 32000)
        ∨ (s.rail.sag = true ∧ min reading 32000 < s.params.railFullMv + 200) →
        t.rail.sag = s.rail.sag ∧ t.notices = s.notices)
    ∧ (∀ j, (s.railOf j).queued = false → t.slot j = s.slot j)
    ∧ ((s.rail.brownout = false ∨ t.rail.brownout = true) → t.rail.effective ≤ s.rail.effective → t.slots = s.slots)
    ∧ { t with slots := s.slots, rail := s.rail, marks := s.marks, notices := s.notices } = s

/-- R62 to R65: the arbiter takes the ramp queue by priority, highest first, and then by slot number, or cyclically from the
slot after last granted. An evaluation grants the head while it meets the five conditions, each grant before the next head is
tested, and considers no slot beyond a head that does not; a slot outside the queue is as it was. -/
def Obligations.ArbiterServesOnlyTheHead : Prop :=
  ∀ s : State,
    (s.params.arbiterMode = .fixed →
      s.rampOrder.Pairwise fun a b => (s.ctx b).priority < (s.ctx a).priority
        ∨ ((s.ctx a).priority = (s.ctx b).priority ∧ a < b))
    ∧ (s.params.arbiterMode = .round →
      s.rampOrder.Pairwise fun a b =>
        (a.val + 11 - s.rail.lastGranted.val) % 12 < (b.val + 11 - s.rail.lastGranted.val) % 12)
    ∧ ((∀ i, (s.ctx i).priority ≤ 3) → ∀ i, i ∈ s.rampOrder ↔ (s.railOf i).queued = true)
    ∧ (∀ i rest, s.rampOrder = i :: rest → MayBeGranted i s →
        ∃ u, Granted i s u ∧ s.arbitrate = u.arbitrate)
    ∧ (∀ i rest, s.rampOrder = i :: rest → ¬ MayBeGranted i s → s.arbitrate = s)
    ∧ (s.rampOrder = [] → s.arbitrate = s)
    ∧ (∀ i rest, s.arbitrate.rampOrder = i :: rest → ¬ MayBeGranted i s.arbitrate)
    ∧ (∀ i, (s.railOf i).queued = false → s.arbitrate.slot i = s.slot i)
    ∧ (∀ i, (s.railOf i).queued = true →
        s.arbitrate.slot i = s.slot i
        ∨ ((s.arbitrate.ctx i).state = .ramping ∧ (s.arbitrate.railOf i).queued = false
            ∧ (s.arbitrate.railOf i).closed = true
            ∧ (s.arbitrate.ctx i).inrushCommitted = s.params.classTable[(s.ctx i).inrushClass.getD 0].inrush
            ∧ (s.arbitrate.ctx i).steadyCommitted = s.params.classTable[(s.ctx i).inrushClass.getD 0].provisional
            ∧ (s.arbitrate.railOf i).rampTimer = some (s.params.rampTimeout * 1000)))
    ∧ ((∀ i, (s.railOf i).queued = false) ∨ s.clock.frozen = true ∨ s.rail.brownout = true → s.arbitrate = s)

/-- R32, R66, R79: power-good in RAMPING ends the ramp: the timer is cancelled, the inrush commitment released, and the slot
is IDENTIFYING at the tail of the identify queue; with the switch open or past power-good it changes nothing. -/
def Obligations.PowerGoodEndsTheRamp : Prop :=
  ∀ (i : Slot) (s : State),
    ((s.ctx i).state = .ramping → (s.railOf i).closed = true → (s.railOf i).queued = false →
      ∃ t, exec (.pwrGoodAssert i) s = .next t ∧ (t.ctx i).state = .identifying ∧ (t.ctx i).inrushCommitted = 0
        ∧ (t.ctx i).steadyCommitted = (s.ctx i).steadyCommitted ∧ (t.ctx i).inrushClass = (s.ctx i).inrushClass
        ∧ t.railOf i = { s.railOf i with rampTimer := none, powerSeen := true }
        ∧ t.lane.queue = s.lane.queue ++ [i] ∧ t.notices = s.notices
        ∧ (∀ j, j ≠ i → (s.railOf j).queued = false → t.slot j = s.slot j)
        ∧ { t with
            slots := s.slots, lane := s.lane, rail := { t.rail with lastGranted := s.rail.lastGranted } } = s)
    ∧ ((s.ctx i).state ≠ .ramping ∨ (s.railOf i).closed = false → exec (.pwrGoodAssert i) s = .next s)

/-- R39 to R44, R67 to R69, R97, R101, R168, R170 to R172: a soft fault (the ramp timer's expiry, no clock at the first checkpoint,
the qualification timer's expiry) counts an attempt and powers the card down toward SETTLING or, with no attempt left,
QUARANTINED; of a class 0 card the withdrawal ends within the event. A hard one (POWER_LOST, OVERCURRENT) powers the card down
toward QUARANTINED with the attempts as they stand, leaves the roster of an ONLINE card to its LEAVE, and in WITHDRAWING raises
the destination. Each is recorded and posted. The checkpoint judges the count latched at its edge (log entry 16). -/
def Obligations.FaultsPowerTheCardDown : Prop :=
  ∀ (i : Slot) (s : State),
    (PoweredBringUp i s → ∀ us, (s.ctx i).state = .ramping → (s.railOf i).rampTimer = some us →
      ∃ t, exec (.rampTimerExpiry i) s = .next t ∧ OnlySlotAndGrants i s t
        ∧ PoweredDown i s t .fault (softDestination i s)
        ∧ (t.ctx i).attempts = min ((s.ctx i).attempts + 1) 3
        ∧ (t.ctx i).faultRecord = (s.ctx i).faultRecord.add .powerGoodTimeout
        ∧ t.notices = s.notices.offer ⟨.fault, some i, 0, []⟩)
    ∧ (PoweredBringUp i s → ∀ us, (s.det i).qualTimer = .running us →
      ∃ t, exec (.qualificationTimerExpiry i) s = .next t ∧ OnlySlotAndGrants i s t
        ∧ PoweredDown i s t .fault (softDestination i s)
        ∧ (t.ctx i).attempts = min ((s.ctx i).attempts + 1) 3
        ∧ (t.ctx i).faultRecord = (s.ctx i).faultRecord.add .qualTimeout
        ∧ t.notices = s.notices.offer ⟨.fault, some i, 6, []⟩)
    ∧ ((s.ctx i).state = .qualifying → s.inRoster i = false → (s.railOf i).closed = false →
        (s.railOf i).dischargeTimer = none → ∀ us, (s.det i).qualTimer = .running us →
      ∃ t, exec (.qualificationTimerExpiry i) s = .next t ∧ OnlySlotAndMatch i s t
        ∧ WithdrawalEnded i s t (endOf (s.ctx i).policy (s.ctx i).contact (softDestination i s))
        ∧ ((t.ctx i).state = .settling ∨ (t.ctx i).state = .quarantined →
            (t.ctx i).attempts = min ((s.ctx i).attempts + 1) 3)
        ∧ (t.ctx i).faultRecord = (s.ctx i).faultRecord.add .qualTimeout ∧ (t.det i).run = .stopped
        ∧ t.notices = (s.notices.offer ⟨.fault, some i, 6, []⟩).offer
            ⟨.withdrawn, some i, 4, [(t.ctx i).state.code]⟩)
    ∧ (PoweredBringUp i s → (s.det i).run = .running → (s.det i).due = some ⟨.after16, 0⟩ →
        (s.det i).duty = some .qualify → (s.ctx i).state = .qualifying →
      ∃ t, exec (.lockCheckpoint16 i) s = .next t ∧ OnlySlotAndGrants i s t
        ∧ PoweredDown i s t .fault (softDestination i s)
        ∧ (t.ctx i).attempts = min ((s.ctx i).attempts + 1) 3
        ∧ (t.ctx i).faultRecord = (s.ctx i).faultRecord.add .qualNoClock ∧ (t.det i).run = .stopped
        ∧ t.notices = s.notices.offer ⟨.fault, some i, 5, []⟩)
    ∧ (PoweredBringUp i s → (s.railOf i).powerSeen = true → (s.railOf i).lossReported = false →
      ∃ t, exec (.pwrGoodDeassert i) s = .next t ∧ OnlySlotAndGrants i s t
        ∧ PoweredDown i s t .fault .quarantined ∧ (t.ctx i).attempts = (s.ctx i).attempts
        ∧ (t.railOf i).lossReported = true
        ∧ (t.ctx i).faultRecord = (s.ctx i).faultRecord.add .powerLost
        ∧ t.notices = s.notices.offer ⟨.fault, some i, 10, []⟩)
    ∧ (PoweredBringUp i s → ∃ t, exec (.pwrTrip i) s = .next t ∧ OnlySlotAndGrants i s t
        ∧ PoweredDown i s t .fault .quarantined ∧ (t.ctx i).attempts = (s.ctx i).attempts
        ∧ (t.ctx i).faultRecord = (s.ctx i).faultRecord.add .overcurrent
        ∧ t.notices = s.notices.offer ⟨.fault, some i, 9, []⟩)
    ∧ (InBringUp i s → (s.ctx i).state = .identifying ∨ (s.ctx i).state = .spliceWait → (s.railOf i).closed = true →
        (s.railOf i).queued = false →
      ∃ t, exec (.pwrTrip i) s = .next t ∧ OnlySlotAndWork i s t ∧ WorkAborted i s t
        ∧ PoweredDown i s t .fault .quarantined ∧ (t.ctx i).attempts = (s.ctx i).attempts
        ∧ (t.ctx i).faultRecord = (s.ctx i).faultRecord.add .overcurrent ∧ t.directory = s.directory
        ∧ t.notices = s.notices.offer ⟨.fault, some i, 9, []⟩)
    ∧ (OnlineInRoster i s → s.scan.state ≠ .stopped →
      (∃ t, exec (.pwrTrip i) s = .next t ∧ OnlySlotAndGrants i s t ∧ PowerStepTaken i s t
        ∧ (t.ctx i).state = .withdrawing ∧ (t.ctx i).reason = some .fault
        ∧ (t.ctx i).destination = some .quarantined ∧ (t.ctx i).leaving = some .leavePending
        ∧ (t.scanOf i).splice = some .leave ∧ (t.scanOf i).skip = (s.scanOf i).skip
        ∧ (t.ctx i).inWindow = (s.ctx i).inWindow ∧ (t.ctx i).attempts = (s.ctx i).attempts
        ∧ (t.ctx i).faultRecord = (s.ctx i).faultRecord.add .overcurrent
        ∧ t.notices = s.notices.offer ⟨.fault, some i, 9, []⟩)
      ∧ ((s.railOf i).powerSeen = true → (s.railOf i).lossReported = false →
        ∃ t, exec (.pwrGoodDeassert i) s = .next t ∧ OnlySlotAndNotices i s t
          ∧ t.railOf i = { s.railOf i with lossReported := true }
          ∧ (t.ctx i).state = .withdrawing ∧ (t.ctx i).reason = some .fault
          ∧ (t.ctx i).destination = some .quarantined ∧ (t.ctx i).leaving = some .leavePending
          ∧ (t.scanOf i).splice = some .leave ∧ (t.ctx i).steadyCommitted = (s.ctx i).steadyCommitted
          ∧ (t.ctx i).faultRecord = (s.ctx i).faultRecord.add .powerLost
          ∧ t.notices = s.notices.offer ⟨.fault, some i, 10, []⟩))
    ∧ ((s.ctx i).state = .withdrawing → (s.railOf i).closed = true → (s.railOf i).queued = false →
      (∃ t, exec (.pwrTrip i) s = .next t ∧ OnlySlotAndGrants i s t ∧ PowerStepTaken i s t
        ∧ { t.ctx i with
            inrushCommitted := (s.ctx i).inrushCommitted, steadyCommitted := (s.ctx i).steadyCommitted }
          = { s.ctx i with
            destination := some .quarantined, faultRecord := (s.ctx i).faultRecord.add .overcurrent }
        ∧ t.notices = s.notices.offer ⟨.fault, some i, 9, []⟩)
      ∧ ((s.railOf i).powerSeen = true → (s.railOf i).lossReported = false →
        ∃ t, exec (.pwrGoodDeassert i) s = .next t ∧ OnlySlotAndNotices i s t
          ∧ t.railOf i = { s.railOf i with lossReported := true }
          ∧ t.ctx i = { s.ctx i with
              destination := some .quarantined, faultRecord := (s.ctx i).faultRecord.add .powerLost }
          ∧ t.notices = s.notices.offer ⟨.fault, some i, 10, []⟩))

/-- R171: a fault record that was empty, whatever its flags, keeps its first hard cause, and otherwise its first soft one, and
flags that more came. -/
def Obligations.FaultRecordKeepsTheFirstHardCause : Prop :=
  ∀ (cs : List Cause) (hard more : Bool), ∀ first rest, cs = first :: rest →
    let r := cs.foldl FaultRecord.add ⟨none, hard, more⟩
    r.more = !rest.isEmpty
    ∧ r.hard = cs.any (fun c => c == .overcurrent || c == .powerLost)
    ∧ r.cause = some ((cs.find? fun c => c == .overcurrent || c == .powerLost).getD first)

/-- R49, R50, R72, R165: the discharge expiry of a withdrawing slot that has left the roster ends its withdrawal: DISABLED
under policy OFF, else VACANT without a seated card, else the destination; WITHDRAWN carries the reason and the state. In the
roster, or in another state, only the timer ends. -/
def Obligations.DischargeEndsTheWithdrawal : Prop :=
  ∀ (i : Slot) (us : Nat) (reason : Reason) (dest : Destination) (s : State), (s.railOf i).dischargeTimer = some us →
    ((s.ctx i).state = .withdrawing → s.inRoster i = false → (s.ctx i).reason = some reason →
      (s.ctx i).destination = some dest →
      ∃ t, exec (.dischargeTimerExpiry i) s = .next t ∧ OnlySlotAndMatch i s t ∧ MatchDropped i s t
        ∧ (t.ctx i).state = (if (s.ctx i).policy = .off then .disabled
            else if (s.ctx i).contact ≠ .seated then .vacant else dest.slotState)
        ∧ (t.ctx i).reason = none ∧ (t.ctx i).destination = none ∧ (t.ctx i).leaving = none
        ∧ (t.railOf i).dischargeTimer = none
        ∧ t.notices = s.notices.offer ⟨.withdrawn, some i, reason.code, [(t.ctx i).state.code]⟩
        ∧ ((t.ctx i).state = .settling → (t.ctx i).inrushClass = (s.mon i).seatedClass
            ∧ (t.ctx i).settleTimer = some (max (s.params.settleTime * 10000) (s.params.dischargeTime * 1000))
            ∧ (t.ctx i).attempts = (s.ctx i).attempts ∧ (t.ctx i).identity = none)
        ∧ ((t.ctx i).state = .refused ∨ (t.ctx i).state = .quarantined →
            (t.ctx i).identity = (s.ctx i).identity ∧ (t.ctx i).verdict = (s.ctx i).verdict
            ∧ (t.ctx i).attempts = (s.ctx i).attempts)
        ∧ ((t.ctx i).state = .vacant ∨ (t.ctx i).state = .disabled →
            (t.ctx i).identity = none ∧ (t.ctx i).verdict = none ∧ (t.ctx i).attempts = 0
            ∧ (t.ctx i).inrushClass = none)
        ∧ (t.ctx i).faultRecord = (s.ctx i).faultRecord)
    ∧ ((s.ctx i).state ≠ .withdrawing ∨ s.inRoster i = true →
      ∃ t, exec (.dischargeTimerExpiry i) s = .next t ∧ OnlySlot i s t
        ∧ t.slot i = { s.slot i with rail := { s.railOf i with dischargeTimer := none } })

/-! ## The management lane (Section 4) -/

/-- R78, R80, R82, R83, R87, R89: the acknowledgement begins the transfer; the acknowledge timer and the hold timer count a try, and
below three the head waits out the retry gap or the recovery, while the third ends the read in ID_NO_ANSWER or ID_TIMEOUT and
leaves the lane to the next head; an orphaned transaction counts nothing; and at the end of a recovery or a gap the idle lane
opens a transaction for the head, which keeps the counters of a read that has begun (the model's readBegun, log entry 22). By
log entry 33, the model's choice of R78 over R81's message taken first, a transaction that a return to IDLE brings is open when
that event ends (the recovery's end, the third NO_ANSWER, an orphaned one).
SEL is asserted for the slot being read alone, and in a recovery the part drives LCK and releases LDA. -/
def Obligations.LaneTransactionsEndAndRetry : Prop :=
  ∀ (i : Slot) (p : LanePhase) (us : Nat) (s : State),
    (∀ o, s.lane.transaction = some ⟨i, .start, o⟩ →
      exec .cardAcknowledge s = .next { s with lane := { s.lane with
        transaction := some ⟨i, .transfer, o⟩, acknowledgeTimer := none } })
    ∧ (s.lane.transaction = some ⟨i, .start, false⟩ → s.lane.tries + 1 < 3 →
      exec .acknowledgeTimerExpiry s = .next { s with lane := { s.lane with
        state := .idle, transaction := none, holdTimer := none, acknowledgeTimer := none
        tries := s.lane.tries + 1, retryGap := some 5000 } })
    ∧ (∀ rest, HeadIsRead i .start rest s → 3 ≤ s.lane.tries + 1 →
      ∃ t, exec .acknowledgeTimerExpiry s = .next t ∧ ReadFailed i s t .idNoAnswer 1 ∧ NextReadOpens rest s t)
    ∧ (s.lane.transaction = some ⟨i, .start, true⟩ →
      ∃ t, exec .acknowledgeTimerExpiry s = .next t ∧ OnlyLane s t ∧ LaneReturns (laneIdle s.lane) t)
    ∧ (s.lane.transaction = some ⟨i, p, false⟩ → s.lane.tries + 1 < 3 →
      exec .holdTimerExpiryTransaction s = .next { s with lane := { s.lane with
        state := .recovering, transaction := none, holdTimer := none, acknowledgeTimer := none
        recoveryTimer := some 1000, tries := s.lane.tries + 1 } })
    ∧ (∀ rest, HeadIsRead i p rest s → 3 ≤ s.lane.tries + 1 →
      ∃ t, exec .holdTimerExpiryTransaction s = .next t ∧ ReadFailed i s t .idTimeout 2
        ∧ t.lane = { s.lane with
            state := .recovering, transaction := none, holdTimer := none, acknowledgeTimer := none
            recoveryTimer := some 1000, tries := s.lane.tries + 1, queue := rest, readBegun := false })
    ∧ (s.lane.transaction = some ⟨i, p, true⟩ →
      exec .holdTimerExpiryTransaction s = .next { s with lane := { s.lane with
        state := .recovering, transaction := none, holdTimer := none, acknowledgeTimer := none
        recoveryTimer := some 1000 } })
    ∧ (s.lane.state = .recovering → ∃ t, exec .recoveryTimerExpiry s = .next t ∧ OnlyLane s t
      ∧ t.lane.recoveryTimer = none ∧ t.lane.queue = s.lane.queue ∧ t.lane.retryGap = s.lane.retryGap
      ∧ (s.lane.queue = [] ∨ s.lane.retryGap ≠ none →
          t.lane.state = .idle ∧ t.lane.transaction = s.lane.transaction)
      ∧ (∀ rest, s.lane.queue = i :: rest → s.lane.retryGap = none →
          t.lane.state = .partBusy ∧ t.lane.transaction = some ⟨i, .start, false⟩ ∧ t.lane.holdTimer = some 25000
            ∧ t.lane.acknowledgeTimer = some 1000
            ∧ (s.lane.readBegun = true → t.lane.tries = s.lane.tries ∧ t.lane.lost = s.lane.lost
                ∧ t.lane.checkUsed = s.lane.checkUsed)
            ∧ (s.lane.readBegun = false → t.lane.tries = 0 ∧ t.lane.lost = 0 ∧ t.lane.checkUsed = false)))
    ∧ (s.lane.retryGap = some us → ∃ t, exec .retryGapExpiry s = .next t ∧ OnlyLane s t
      ∧ t.lane.retryGap = none ∧ t.lane.queue = s.lane.queue
      ∧ (s.lane.state ≠ .idle → t.lane = { s.lane with retryGap := none })
      ∧ (∀ rest, s.lane.queue = i :: rest → s.lane.state = .idle →
          t.lane.state = .partBusy ∧ t.lane.transaction = some ⟨i, .start, false⟩ ∧ t.lane.holdTimer = some 25000))
    ∧ (s.lane.state = .partBusy → ∀ o, s.lane.transaction = some ⟨i, p, o⟩ → ∀ k, s.selLine k = decide (k = i))
    ∧ (s.lane.state ≠ .partBusy → ∀ k, s.selLine k = false)
    ∧ (s.lane.state = .recovering → s.lckLine = .driven ∧ s.ldaLine = .released)
    ∧ (s.lane.state = .idle → s.lckLine = .released ∧ s.ldaLine = .released)

/-- R84, R87, R90 to R92: a message takes the idle lane, or spoils a transaction in its START phase, the eighth time ending the
read in LANE_BUSY; at its end a good message of an ONLINE slot is posted with its data, and any other is discarded with no
notice; a message cut off by the hold timer leaves the lane recovering. -/
def Obligations.CardMessagesAreJudgedAtTheirEnd : Prop :=
  ∀ (i j : Slot) (s : State),
    (s.lane.state = .idle → ∃ t, exec .cardMessageBegin s = .next t ∧ OnlyLane s t ∧ t.lane.state = .cardBusy
      ∧ t.lane.message = some [] ∧ t.lane.holdTimer = some 25000 ∧ t.lane.queue = s.lane.queue
      ∧ t.lane.tries = s.lane.tries ∧ t.lane.lost = s.lane.lost ∧ t.lane.retryGap = s.lane.retryGap)
    ∧ (s.lane.state = .partBusy → s.lane.transaction = some ⟨i, .start, false⟩ → s.lane.lost + 1 < 8 →
      ∃ t, exec .cardMessageBegin s = .next t ∧ OnlyLane s t ∧ t.lane.state = .cardBusy
      ∧ t.lane.transaction = none ∧ t.lane.acknowledgeTimer = none ∧ t.lane.holdTimer = some 25000
      ∧ t.lane.lost = s.lane.lost + 1 ∧ t.lane.tries = s.lane.tries ∧ t.lane.queue = s.lane.queue
      ∧ (∀ k, t.selLine k = false))
    ∧ (∀ rest, s.lane.state = .partBusy → HeadIsRead i .start rest s → 8 ≤ s.lane.lost + 1 →
      ∃ t, exec .cardMessageBegin s = .next t ∧ ReadFailed i s t .laneBusy 3
        ∧ t.lane = { s.lane with
            state := .cardBusy, transaction := none, acknowledgeTimer := none, holdTimer := some 25000
            message := some [], lost := s.lane.lost + 1, queue := rest, readBegun := false })
    ∧ (s.lane.state = .recovering ∨ s.lane.state = .cardBusy → exec .cardMessageBegin s = .next s)
    ∧ (∀ (sender length : Byte) (data : List Byte) (check : HWord), s.lane.state = .cardBusy → s.lane.queue = [] →
      (sender = byteOf j.val → (s.ctx j).state = .online → 1 ≤ data.length → data.length ≤ 8 →
        length = byteOf data.length → check = crc16 (sender :: length :: data) →
        exec (.cardMessageEnd sender length data check) s = .next { s with
          lane := { s.lane with state := .idle, holdTimer := none, message := none }
          notices := s.notices.offer ⟨.cardMessage, some j, 0, data⟩ })
      ∧ (length.toNat = 0 ∨ 8 < length.toNat ∨ check ≠ crc16 (sender :: length :: data) ∨ 11 < sender.toNat
          ∨ (sender = byteOf j.val ∧ (s.ctx j).state ≠ .online) →
        exec (.cardMessageEnd sender length data check) s = .next { s with
          lane := { s.lane with state := .idle, holdTimer := none, message := none } }))
    ∧ (s.lane.state = .cardBusy → ∃ t, exec .holdTimerExpiryMessage s = .next t ∧ OnlyLane s t
      ∧ t.lane.state = .recovering ∧ t.lane.message = none ∧ t.lane.holdTimer = none
      ∧ t.lane.recoveryTimer = some 1000 ∧ t.lane.queue = s.lane.queue ∧ t.lane.tries = s.lane.tries)

/-- R33, R34, R70, R85 to R87, R89, R123 to R128: the end of a transfer. A first wrong check value reads the head again, and the
second ends the read in ID_CHECK; an orphaned transfer's bytes are discarded. A record that checks and is invalid is refused
BAD_RECORD. For a valid one, the entry of the narrowest type that describes the card decides: DENY and WRONG_SLOT refuse it with
the entry's index, PARK and ADMIT take it; without an entry the policy and the mode decide. A card that is taken must pass the
steady check, after which the arbiter evaluates where Cs has fallen, and is else refused NO_POWER with its match dropped. By log
entry 33, the model's choice of R78 over the message that R85 lets go first, the reread, or the transaction of the next head, is
open when the event ends. -/
def Obligations.IdentityCompletionDecidesTheVerdict : Prop :=
  ∀ (i : Slot) (rest : List Slot) (record : Vector Byte 32) (s : State),
    (s.lane.transaction = some ⟨i, .transfer, false⟩ → s.lane.queue = i :: rest → s.lane.retryGap = none →
      s.lane.readBegun = true → recordChecks record = false → s.lane.checkUsed = false →
      ∃ t, exec (.identityTransferComplete record) s = .next t ∧ OnlyLane s t ∧ t.lane.checkUsed = true
        ∧ t.lane.transaction = some ⟨i, .start, false⟩ ∧ t.lane.state = .partBusy ∧ t.lane.tries = s.lane.tries
        ∧ t.lane.lost = s.lane.lost ∧ t.lane.queue = i :: rest)
    ∧ (s.lane.transaction = some ⟨i, .transfer, true⟩ →
      ∃ t, exec (.identityTransferComplete record) s = .next t ∧ OnlyLane s t ∧ LaneReturns (laneIdle s.lane) t)
    ∧ (HeadIsRead i .transfer rest s → recordChecks record = false → s.lane.checkUsed = true →
      ∃ t, exec (.identityTransferComplete record) s = .next t ∧ ReadFailed i s t .idCheck 4
        ∧ NextReadOpens rest s t)
    ∧ (TransferEnds i rest s → recordChecks record = true → (identityOfRecord record).valid = false →
      FreeOfQueues i s →
      ∃ t, exec (.identityTransferComplete record) s = .next t
        ∧ ReadRefused i rest s t (identityOfRecord record) .badRecord 10 [] ∧ t.directory = s.directory)
    ∧ (∀ (d : Identity) (k : EntryIndex),
      (KeyAt (.placed d.vendor d.kind i) k s → s.lookupEntry i d = some k)
      ∧ (KeyNowhere (.placed d.vendor d.kind i) s →
        (KeyAt (.exact d.vendor d.kind d.revision) k s → s.lookupEntry i d = some k)
        ∧ (KeyNowhere (.exact d.vendor d.kind d.revision) s →
          (KeyAt (.kind d.vendor d.kind) k s → s.lookupEntry i d = some k)
          ∧ (KeyNowhere (.kind d.vendor d.kind) s →
            (KeyAt (.vendor d.vendor) k s → s.lookupEntry i d = some k)
            ∧ (KeyNowhere (.vendor d.vendor) s → s.lookupEntry i d = none)))))
    ∧ (∀ (k : EntryIndex) (b : EntryBody), IdentityArrives i rest record s →
      s.lookupEntry i (identityOfRecord record) = some k → (s.entry k).body = some b →
      (b.action = .deny → FreeOfQueues i s → ∃ t, exec (.identityTransferComplete record) s = .next t
        ∧ ReadRefused i rest s t (identityOfRecord record) .deny 4 [byteOf k.val]
        ∧ OnlyEntry k ⟨some (matchedEntry b), (s.entry k).users⟩ s t)
      ∧ (b.action ≠ .deny → ∀ p, b.pinSlot = some p → p ≠ i → FreeOfQueues i s →
        ∃ t, exec (.identityTransferComplete record) s = .next t
        ∧ ReadRefused i rest s t (identityOfRecord record) .wrongSlot 6 [byteOf k.val, byteOf p.val]
        ∧ OnlyEntry k ⟨some (matchedEntry b), (s.entry k).users⟩ s t)
      ∧ (b.action ≠ .deny → b.pinSlot = none ∨ b.pinSlot = some i →
        ((s.ctx i).inrushClass.getD 0 ≠ 0 → FreeOfQueues i s →
          s.rail.effective < s.cs - (s.ctx i).steadyCommitted + unitsOf (identityOfRecord record) (b.reserve.getD 0) →
          ∃ t, exec (.identityTransferComplete record) s = .next t
            ∧ ReadRefused i rest s t (identityOfRecord record) .noPower 7 []
            ∧ OnlyEntry k ⟨some (matchedEntry b), (s.entry k).users⟩ s t)
        ∧ (SteadyFits i (unitsOf (identityOfRecord record) (b.reserve.getD 0)) s →
          (b.action = .park ∨ ((s.ctx i).policy = .hold ∧ b.service = false) →
            ∃ t, exec (.identityTransferComplete record) s = .next t
              ∧ ReadTaken i rest s t (identityOfRecord record) .park .parked (some k)
                  (unitsOf (identityOfRecord record) (b.reserve.getD 0))
              ∧ OnlyEntry k ⟨some (matchedEntry b), (s.entry k).users + 1⟩ s t
              ∧ t.notices = s.notices.offer ⟨.parked, some i, 0, []⟩)
          ∧ (b.action = .admitCard → (s.ctx i).policy ≠ .hold ∨ b.service = true →
            ∃ t, exec (.identityTransferComplete record) s = .next t
              ∧ ReadTaken i rest s t (identityOfRecord record) .admitCard .qualifying (some k)
                  (unitsOf (identityOfRecord record) (b.reserve.getD 0))
              ∧ OnlyEntry k ⟨some (matchedEntry b), (s.entry k).users + 1⟩ s t ∧ t.notices = s.notices))))
    ∧ (IdentityArrives i rest record s → s.lookupEntry i (identityOfRecord record) = none →
      ((s.ctx i).policy = .admitCard ∨ ((s.ctx i).policy = .learn ∧ s.mode = .run) → FreeOfQueues i s →
        ∃ t, exec (.identityTransferComplete record) s = .next t
          ∧ ReadRefused i rest s t (identityOfRecord record) .unknown 5 [] ∧ t.directory = s.directory)
      ∧ (SteadyFits i (unitsOf (identityOfRecord record) 0) s →
        ((s.ctx i).policy = .hold →
          ∃ t, exec (.identityTransferComplete record) s = .next t
            ∧ ReadTaken i rest s t (identityOfRecord record) .park .parked none (unitsOf (identityOfRecord record) 0)
            ∧ t.directory = s.directory ∧ t.notices = s.notices.offer ⟨.parked, some i, 0, []⟩)
        ∧ ((s.ctx i).policy = .learn → s.mode = .commission →
          (∀ k : EntryIndex, (s.entry k).body = none → (∀ j, j < k → (s.entry j).body ≠ none) →
            ∃ t, exec (.identityTransferComplete record) s = .next t
              ∧ ReadTaken i rest s t (identityOfRecord record) .admitLearned .qualifying (some k)
                  (unitsOf (identityOfRecord record) 0)
              ∧ OnlyEntry k ⟨some ⟨.exact (identityOfRecord record).vendor (identityOfRecord record).kind
                  (identityOfRecord record).revision, .admitCard, .learned .fresh, none, false, none⟩, 1⟩ s t
              ∧ t.notices = s.notices.offer ⟨.learned, some i, 0, [byteOf k.val]⟩)
          ∧ ((∀ k, (s.entry k).body ≠ none) →
            ∃ t, exec (.identityTransferComplete record) s = .next t
              ∧ ReadTaken i rest s t (identityOfRecord record) .admitUnlearned .qualifying none
                  (unitsOf (identityOfRecord record) 0)
              ∧ t.directory = s.directory ∧ t.notices = s.notices.offer ⟨.learned, some i, 1, []⟩))))

/-! ## Clock qualification (Section 5) -/

/-- R96 to R99, R102, R107: the checkpoints after 16, 32 and 64 periods that bring no fault and no pass: an edge at the first
has no effect; the second sets COARSE by the comparison and a match ends a grace; the third sets FINE and the fine run, and
offers LOCK_WARN with the two counts for a watched card whose COARSE is SET. A checkpoint judges the count latched at its edge
(log entry 16). -/
def Obligations.CheckpointsJudgeTheLock : Prop :=
  ∀ (i : Slot) (n : Nat) (e : Expected) (duty : Duty) (s : State), (s.det i).run = .running →
    (s.det i).expected = some e → (s.det i).duty = some duty →
    ((s.det i).due = some ⟨.after16, n⟩ → n ≠ 0 → ∃ t, exec (.lockCheckpoint16 i) s = .next t ∧ OnlySlot i s t
      ∧ t.slot i = { s.slot i with detector := { s.det i with due := none } })
    ∧ ((s.det i).due = some ⟨.after32, n⟩ →
        duty = .qualify ∨ (s.det i).graceTimer ≠ none
          ∨ (n ≤ e.e32 + s.params.lockTolerance ∧ e.e32 ≤ n + s.params.lockTolerance) →
        ∃ t, exec (.lockCheckpoint32 i) s = .next t ∧ OnlySlot i s t
          ∧ t.slot i = { s.slot i with detector := { s.det i with
              due := none
              coarse := decide (n ≤ e.e32 + s.params.lockTolerance ∧ e.e32 ≤ n + s.params.lockTolerance)
              graceTimer := if n ≤ e.e32 + s.params.lockTolerance ∧ e.e32 ≤ n + s.params.lockTolerance then none
                else (s.det i).graceTimer } })
    ∧ ((s.det i).due = some ⟨.after64, n⟩ →
        (n ≤ e.e64 + s.params.lockTolerance ∧ e.e64 ≤ n + s.params.lockTolerance →
          duty = .watch ∨ min 15 ((s.det i).fineRun + 1) < s.params.qualRun →
          ∃ t, exec (.lockCheckpoint64 i) s = .next t ∧ OnlySlot i s t
            ∧ t.slot i = { s.slot i with detector := { s.det i with
                due := none, fine := true, fineRun := min 15 ((s.det i).fineRun + 1) } })
        ∧ (n + s.params.lockTolerance < e.e64 ∨ e.e64 + s.params.lockTolerance < n → 0 < s.params.qualRun →
          ∃ t, exec (.lockCheckpoint64 i) s = .next t ∧ OnlySlotAndNotices i s t
            ∧ t.slot i = { s.slot i with detector := { s.det i with due := none, fine := false, fineRun := 0 } }
            ∧ t.notices = (if duty = .watch ∧ (s.det i).coarse = true then
                s.notices.offer ⟨.lockWarn, some i, 0, be16 n ++ be16 e.e64⟩ else s.notices)))

/-- R37, R100, R136 to R139, R151 to R153, R161: the fine match that completes the run of a card. With room and scan time it takes
the slot to SPLICE_WAIT with its cost held, a zeroed window in each image in which the card has bytes, at the low end of the
lowest extent that is long enough, its detector stopped and its JOIN pending, which is applied within the event in a STOPPED
scan that is not FROZEN. Without scan time the card is refused NO_SCAN_TIME with the period that would admit it, and without
room NO_ROOM with the image's data, a class 0 card within the event. The checkpoint judges the count latched at its edge (log
entry 16). -/
def Obligations.QualificationPassPlacesTheCard : Prop :=
  ∀ (i : Slot) (n : Nat) (e : Expected) (d : Identity) (s : State), PassCompletes i n e d s →
    (s.load + (4000 + 320 * (d.inputBytes.toNat + d.outputBytes.toNat))
        ≤ s.params.cyclePeriod * 10 * s.params.fillPercent →
      ¬ NoRoom i .input s.params.imageReserveIn ((d.inputBytes.toNat + 15) / 16) s →
      ¬ NoRoom i .output s.params.imageReserveOut ((d.outputBytes.toNat + 15) / 16) s →
      ∃ t, exec (.lockCheckpoint64 i) s = .next t
        ∧ (∀ j, j ≠ i → t.slot j = s.slot j)
        ∧ { t with slots := s.slots, imageIn := s.imageIn, imageOut := s.imageOut, notices := s.notices } = s
        ∧ (t.ctx i).inputQuality = some .none
        ∧ WindowPlaced i .input ((d.inputBytes.toNat + 15) / 16) s t
        ∧ WindowPlaced i .output ((d.outputBytes.toNat + 15) / 16) s t
        ∧ (t.scanOf i).cost = some (4000 + 320 * (d.inputBytes.toNat + d.outputBytes.toNat))
        ∧ t.railOf i = s.railOf i
        ∧ (if s.scan.state = .stopped ∧ s.clock.frozen = false then
            Joined i s t ∧ t.notices = s.notices.offer ⟨.online, some i, 0, be32 s.scan.cycle.toNat⟩
          else
            (t.ctx i).state = .spliceWait ∧ (t.scanOf i).splice = some .join
              ∧ (t.det i).run = .stopped ∧ (t.det i).qualTimer = .idle ∧ (t.det i).fine = true
              ∧ t.notices = s.notices))
    ∧ (FreeOfQueues i s →
      s.params.cyclePeriod * 10 * s.params.fillPercent
        < s.load + (4000 + 320 * (d.inputBytes.toNat + d.outputBytes.toNat)) →
      ∃ t, exec (.lockCheckpoint64 i) s = .next t
        ∧ PassRefused i s t .noScanTime 9
            (be16 (minimumPeriod (s.load + (4000 + 320 * (d.inputBytes.toNat + d.outputBytes.toNat)))
              s.params.fillPercent)))
    ∧ (FreeOfQueues i s →
      s.load + (4000 + 320 * (d.inputBytes.toNat + d.outputBytes.toNat))
        ≤ s.params.cyclePeriod * 10 * s.params.fillPercent →
      (NoRoom i .input s.params.imageReserveIn ((d.inputBytes.toNat + 15) / 16) s →
        ∃ t, exec (.lockCheckpoint64 i) s = .next t
          ∧ PassRefused i s t .noRoom 8
              [0, byteOf s.imageIn.freeTotal, byteOf s.imageIn.largest, byteOf ((d.inputBytes.toNat + 15) / 16)])
      ∧ (¬ NoRoom i .input s.params.imageReserveIn ((d.inputBytes.toNat + 15) / 16) s →
        NoRoom i .output s.params.imageReserveOut ((d.outputBytes.toNat + 15) / 16) s →
        ∃ t, exec (.lockCheckpoint64 i) s = .next t
          ∧ PassRefused i s t .noRoom 8
              [1, byteOf s.imageOut.freeTotal, byteOf s.imageOut.largest,
                byteOf ((d.outputBytes.toNat + 15) / 16)]))

/-- R41, R97, R98, R107, R167: a loss of lock of an ONLINE card, at its grace timer's expiry, at a first checkpoint with no edge
or at a coarse mismatch without a grace, is recorded, posted and counted. The card is withdrawn through a LEAVE, which waits
while the scan is RUNNING or STOPPING and is applied within the event while it is STOPPED. A checkpoint judges the count latched
at its edge (log entry 16). -/
def Obligations.LossOfLockWithdrawsTheCard : Prop :=
  ∀ (i : Slot) (s : State) (c : Instr), (s.ctx i).state = .online → s.inRoster i = true → LosesLock i c s →
    (s.scan.state ≠ .stopped →
      ∃ t, exec c s = .next t ∧ OnlySlotAndNotices i s t ∧ (t.ctx i).state = .withdrawing
        ∧ (t.ctx i).reason = some .fault ∧ (t.ctx i).leaving = some .leavePending
        ∧ (t.ctx i).destination
            = some (if (s.ctx i).attempts + 1 < s.params.maxAttempts then .settling else .quarantined)
        ∧ (t.ctx i).attempts = min ((s.ctx i).attempts + 1) 3
        ∧ (t.ctx i).faultRecord = (s.ctx i).faultRecord.add .lockLost ∧ (t.scanOf i).splice = some .leave
        ∧ (t.scanOf i).skip = (s.scanOf i).skip ∧ t.railOf i = s.railOf i ∧ (t.det i).run = .stopped
        ∧ t.notices = s.notices.offer ⟨.fault, some i, 7, []⟩)
    ∧ (s.scan.state = .stopped → (s.railOf i).queued = false →
        (s.railOf i).closed = true ∨ (s.railOf i).dischargeTimer = none →
      ∃ t, exec c s = .next t ∧ LeftStoppedScan i s t .fault (softDestination i s)
        ∧ (t.ctx i).faultRecord = (s.ctx i).faultRecord.add .lockLost
        ∧ ((t.ctx i).state ≠ .vacant → (t.ctx i).state ≠ .disabled →
            (t.ctx i).attempts = min ((s.ctx i).attempts + 1) 3)
        ∧ t.notices = (if (s.railOf i).closed = true then s.notices.offer ⟨.fault, some i, 7, []⟩
          else (s.notices.offer ⟨.fault, some i, 7, []⟩).offer ⟨.withdrawn, some i, 4, [(t.ctx i).state.code]⟩))

/-- R95, R104 to R106: edges and the two timers of the reference watch: an edge of REF_IN reloads the watch and advances every
running span; an edge of CLK_RET is counted up to 1023; the watch timer's expiry loses the reference, freezes the rack and
pauses the detectors; the return timer's expiry brings it back with fresh flags and a grace for watched cards. By log entry 26
REFERENCE_EDGE and REFERENCE_RETURN_EDGE have one effect, and by log entry 16 an edge latches the checkpoint it reaches. -/
def Obligations.ReferenceWatchLosesAndRegains : Prop :=
  ∀ (s : State),
    (∀ c : Instr, c = .referenceEdge ∨ c = .referenceReturnEdge → ∃ t, exec c s = .next t
      ∧ { t with slots := s.slots, clock := s.clock } = s
      ∧ t.clock = { s.clock with
          watchTimer := some (s.params.refTimeout * 2)
          returnTimer := if s.clock.refLost = true ∧ s.clock.watchTimer = none then some 1000
            else s.clock.returnTimer }
      ∧ ∀ i, { t.slot i with detector := s.det i } = s.slot i
        ∧ ((s.det i).run ≠ .running → t.det i = s.det i)
        ∧ ((s.det i).run = .running → (s.det i).awaitingEdge = true →
            (t.det i).awaitingEdge = false ∧ (t.det i).spanPosition = 0 ∧ (t.det i).edgeCount = 0)
        ∧ ((s.det i).run = .running → (s.det i).awaitingEdge = false → (s.det i).spanPosition + 1 = 64 →
            (t.det i).spanPosition = 0 ∧ (t.det i).edgeCount = 0
              ∧ (t.det i).due = some ⟨.after64, (s.det i).edgeCount⟩)
        ∧ ((s.det i).run = .running → (s.det i).awaitingEdge = false → (s.det i).spanPosition + 1 ≠ 64 →
            (t.det i).spanPosition = (s.det i).spanPosition + 1 ∧ (t.det i).edgeCount = (s.det i).edgeCount
              ∧ ((s.det i).spanPosition + 1 = 16 → (t.det i).due = some ⟨.after16, (s.det i).edgeCount⟩)
              ∧ ((s.det i).spanPosition + 1 = 32 → (t.det i).due = some ⟨.after32, (s.det i).edgeCount⟩)))
    ∧ (∀ i, ∃ t, exec (.clkRetEdge i) s = .next t ∧ OnlySlot i s t
      ∧ t.slot i = { s.slot i with detector := { s.det i with
          edgeCount := if (s.det i).run = .running ∧ (s.det i).awaitingEdge = false then
              min 1023 ((s.det i).edgeCount + 1) else (s.det i).edgeCount } })
    ∧ (s.clock.watchTimer ≠ none → s.clock.refLost = false → ∃ t, exec .watchTimerExpiry s = .next t
      ∧ t.clock = { s.clock with refLost := true, frozen := true, watchTimer := none }
      ∧ t.marks = { s.marks with refLost := true } ∧ t.faultLine = true
      ∧ t.notices = s.notices.offer ⟨.refLost, none, 0, []⟩
      ∧ { t with slots := s.slots, clock := s.clock, marks := s.marks, notices := s.notices } = s
      ∧ ∀ i, { t.slot i with detector := s.det i } = s.slot i ∧ (t.det i).graceTimer = none
        ∧ (t.det i).run = (if (s.det i).run = .running then .paused else (s.det i).run)
        ∧ (t.det i).coarse = (s.det i).coarse ∧ (t.det i).fine = (s.det i).fine
        ∧ (t.det i).fineRun = (s.det i).fineRun
        ∧ (∀ us, (s.det i).qualTimer = .running us → (t.det i).qualTimer = .paused us))
    ∧ (s.clock.watchTimer ≠ none → s.clock.refLost = true → exec .watchTimerExpiry s
        = .next { s with clock := { s.clock with watchTimer := none, returnTimer := none } })
    ∧ (s.clock.returnTimer ≠ none → ∃ t, exec .returnTimerExpiry s = .next t
      ∧ t.clock = { s.clock with refLost := false, returnTimer := none }
      ∧ t.notices = s.notices.offer ⟨.refBack, none, 0, []⟩
      ∧ { t with slots := s.slots, clock := s.clock, notices := s.notices } = s
      ∧ ∀ i, { t.slot i with detector := s.det i } = s.slot i
        ∧ (t.det i).duty = (s.det i).duty ∧ (t.det i).expected = (s.det i).expected
        ∧ ((s.det i).run = .paused → (t.det i).run = .running ∧ (t.det i).awaitingEdge = true
            ∧ (t.det i).coarse = false ∧ (t.det i).fine = false ∧ (t.det i).fineRun = 0)
        ∧ (∀ us, (s.det i).qualTimer = .paused us → (t.det i).qualTimer = .running us)
        ∧ ((s.det i).duty = some .watch → (t.det i).graceTimer = some (s.params.qualTimeout * 1000)))

/-! ## The scan (Section 8) -/

/-- R148 to R150, R152 to R155, R158 to R160, R168: SCAN START in STOPPED, and the period timer's expiry once every exchange has
ended, take a boundary: the pending LEAVEs and JOINs are applied, the counter rises by one, every roster slot gets its
snapshot and marker, the timer starts and the first roster slot that is not skipped is exchanged. A slot that leaves is out
of the roster without its windows, and takes its power step or ends its withdrawal; a slot that joins is ONLINE, the JOINs in
ascending slot order (log entry 5). A FROZEN rack holds its JOINs. An expiry within the cycle only marks the timer expired.
SCAN STOP lets a cycle in progress run on, and stops at once where none is, which applies the LEAVEs and then the JOINs. SCAN
START in RUNNING is answered ALREADY and in STOPPING WRONG_STATE, and SCAN STOP outside RUNNING ALREADY. At a boundary R150
places the LEAVEs before the JOINs; that the splices of a scan that stops keep that order is the model's choice, log entry 19
(DEDUCED from R150 and R152), and so is the order of their notices. -/
def Obligations.BoundaryBeginsACycle : Prop :=
  ∀ (tag : Byte) (s : State), s.safeOff = false →
    (∀ c : Instr, TakesBoundary tag c s → (∀ i, (s.scanOf i).splice = none) →
      ∃ t, exec c s = .next t
        ∧ t.scan = ⟨.running, s.scan.cycle + 1, .running s.params.cyclePeriod,
            (unskipped s s.roster).head?.map (exchangeOf t), (unskipped s s.roster).tail⟩
        ∧ { t with slots := s.slots, scan := s.scan, link := s.link } = s
        ∧ (c = .periodTimerExpiry → t.link = s.link) ∧ (c = .scanStart tag → Answers s t 0x30 tag .ok [])
        ∧ (∀ j, s.inRoster j = false → t.slot j = s.slot j)
        ∧ ∀ j, s.inRoster j = true →
          { t.slot j with scan := s.scanOf j, ctx := s.ctx j } = s.slot j
          ∧ (t.scanOf j).skip = (s.scanOf j).skip ∧ (t.scanOf j).cost = (s.scanOf j).cost
          ∧ (t.scanOf j).marker
              = some (if (s.ctx j).leaving = some .releasePending then .release else .normal)
          ∧ (if j ∈ skipped s s.roster ∧ (s.ctx j).leaving = some .releasePending then
              t.ctx j = { s.ctx j with leaving := some .leavePending } ∧ (t.scanOf j).splice = some .leave
            else t.ctx j = s.ctx j ∧ (t.scanOf j).splice = none)
          ∧ ∀ w d, (s.ctx j).outWindow = some w → (s.ctx j).identity = some d →
              (t.scanOf j).snapshot
                = some ((List.range d.outputBytes.toNat).map fun b => Memory.read s.imageOut.mem (16 * w.start + b)))
    ∧ (s.scan.state ≠ .stopped → ∃ t, exec (.scanStart tag) s = .next t ∧ OnlyLink s t
        ∧ Answers s t 0x30 tag (if s.scan.state = .running then .already else .wrongState) [])
    ∧ (s.scan.state ≠ .running → ∃ t, exec (.scanStop tag) s = .next t ∧ OnlyLink s t
        ∧ Answers s t 0x31 tag .already [])
    ∧ (∀ c : Instr, TakesBoundary tag c s → (∀ i, (s.scanOf i).splice ≠ some .leave) → s.clock.frozen = false →
      ∃ t, exec c s = .next t ∧ t.scan.cycle = s.scan.cycle + 1
        ∧ t.notices = (allSlots.filter fun i => (s.scanOf i).splice == some .join).foldl
            (fun q i => q.offer ⟨.online, some i, 0, be32 s.scan.cycle.toNat⟩) s.notices
        ∧ ∀ i, (s.scanOf i).splice = some .join → Joined i s t ∧ (t.scanOf i).marker ≠ none
          ∧ (t.scanOf i).cost = (s.scanOf i).cost ∧ (t.ctx i).inWindow = (s.ctx i).inWindow
          ∧ (t.ctx i).outWindow = (s.ctx i).outWindow)
    ∧ (∀ c : Instr, TakesBoundary tag c s → (∀ i, (s.scanOf i).splice ≠ some .leave) → s.clock.frozen = true →
      ∃ t, exec c s = .next t ∧ t.notices = s.notices
        ∧ ∀ i, s.inRoster i = false → t.slot i = s.slot i)
    ∧ (∀ (c : Instr) (i : Slot), TakesBoundary tag c s
        ∨ (c = .scanStop tag ∧ s.scan.state = .running ∧ s.scan.exchange = none ∧ s.scan.remaining = []) →
      (s.scanOf i).splice = some .leave → (s.ctx i).state = .withdrawing → (s.railOf i).queued = false →
      (s.ctx i).leaving = some .leavePending →
      ∃ t, exec c s = .next t ∧ Departed i t
        ∧ ((s.railOf i).closed = true → PowerStepTaken i s t)
        ∧ ((s.railOf i).closed = false → t.railOf i = s.railOf i)
        ∧ ((s.railOf i).closed = true ∨ (s.railOf i).dischargeTimer ≠ none →
            (t.ctx i).state = .withdrawing ∧ (t.ctx i).reason = (s.ctx i).reason
              ∧ (t.ctx i).destination = (s.ctx i).destination ∧ (t.ctx i).leaving = some .leavePending)
        ∧ (∀ reason dest, (s.railOf i).closed = false → (s.railOf i).dischargeTimer = none →
            (s.ctx i).reason = some reason → (s.ctx i).destination = some dest →
            (t.ctx i).state = endOf (s.ctx i).policy (s.ctx i).contact dest ∧ (t.ctx i).reason = none
              ∧ (t.ctx i).matched = none
              ∧ ((∀ j, j ≠ i → (s.scanOf j).splice = none ∧ (s.ctx j).leaving ≠ some .releasePending) →
                t.notices = s.notices.offer ⟨.withdrawn, some i, reason.code, [(t.ctx i).state.code]⟩))
        ∧ ((∀ j, j ≠ i → (s.scanOf j).splice = none ∧ (s.ctx j).leaving ≠ some .releasePending) →
            WindowsReleased i s t))
    ∧ (∀ c : Instr, TakesBoundary tag c s
        ∨ (c = .scanStop tag ∧ s.scan.state = .running ∧ s.scan.exchange = none ∧ s.scan.remaining = []) →
      (∀ i, (s.ctx i).leaving ≠ some .releasePending) → (∀ i, (s.scanOf i).splice = some .leave → WaitsForLeave i s) →
      (∀ j, (s.scanOf j).splice = some .join → (s.railOf j).queued = false) →
      ∃ t, exec c s = .next t
        ∧ t.notices = (joinsDue s).foldl (fun q j => q.offer ⟨.online, some j, 0, be32 s.scan.cycle.toNat⟩)
            ((leavesEnding s).foldl (fun q i => q.offer (withdrawnNotice i s)) s.notices)
        ∧ (∀ i, (s.scanOf i).splice = some .leave → Departed i t)
        ∧ ∀ j ∈ joinsDue s, Joined j s t)
    ∧ (s.scan.state = .running → s.scan.exchange = none → s.scan.remaining = [] →
        (∀ i, (s.ctx i).leaving ≠ some .releasePending ∧ (s.scanOf i).splice ≠ some .leave) →
        ∃ t, exec (.scanStop tag) s = .next t ∧ Answers s t 0x31 tag .ok []
          ∧ { t with slots := s.slots, scan := s.scan, notices := s.notices, link := s.link } = s
          ∧ t.scan = { s.scan with state := .stopped, period := .idle } ∧ JoinsApplied s t
          ∧ ∀ i, (s.scanOf i).splice = none → t.slot i = s.slot i)
    ∧ (∀ us e, s.scan.period = .running us → s.scan.exchange = some e → e.discarded = false →
        exec .periodTimerExpiry s = .next { s with scan := { s.scan with period := .expired } })
    ∧ (s.scan.state = .running → (∃ e, s.scan.exchange = some e ∧ e.discarded = false) →
        exec (.scanStop tag) s
          = .next ({ s with scan := { s.scan with state := .stopping, period := .idle } }.reply 0x31 tag .ok []))
    ∧ (s.scan.state = .running → s.scan.exchange = none → s.scan.remaining = [] →
        (∀ i, (s.ctx i).leaving ≠ some .releasePending ∧ (s.scanOf i).splice = none) →
        exec (.scanStop tag) s
          = .next ({ s with scan := { s.scan with state := .stopped, period := .idle } }.reply 0x31 tag .ok []))

/-- R148, R149, R155 to R159, R164: the part's frame is on the lane until its end, which opens the response window, and a
reply's beginning closes that; a good reply writes the inputs, makes them FRESH and clears the miss count; a failed exchange (a
wrong check value, no reply, or silence) holds or zeroes the IN window by the input policy and counts a miss, at MISS_LIMIT
with EXCHANGE_LOST, or is SKIPPED where the card has been removed. An exchange that carries RELEASE takes the slot's LEAVE. The
next exchange that is not SKIPPED begins; with none left a cycle that has overrun posts SCAN_OVERRUN and takes its boundary,
and a STOPPING scan is STOPPED with its JOINs applied, unless FROZEN, in ascending slot order (log entry 5). A discarded exchange
changes nothing but the lane. A reply shorter than the count has not ended (log entry 17). -/
def Obligations.ExchangesUpdateTheInputs : Prop :=
  ∀ (i : Slot) (p : ExchangePhase) (f : List Byte) (n : Nat) (s : State),
    (∀ x, s.scan.exchange = some ⟨i, p, x, f, n⟩ →
      (p = .sending → s.laneFrame = some f ∧ exec .exchangeFrameSent s
        = .next { s with scan := { s.scan with exchange := some ⟨i, .window, x, f, n⟩ } })
      ∧ (p ≠ .sending → s.laneFrame = none)
      ∧ (p = .window → exec .replyBegin s
        = .next { s with scan := { s.scan with exchange := some ⟨i, .replying, x, f, n⟩ } })
      ∧ (∀ reply : List Byte, p = .replying → reply.length < n + 3 → exec (.replyEnd reply) s = .next s))
    ∧ (∀ c : Instr, s.scan.exchange = some ⟨i, p, true, f, n⟩ → s.scan.state = .stopped → s.scan.remaining = [] →
      (c = .responseWindowExpiry ∧ p = .window) ∨ (c = .replySilenceTimeout ∧ p = .replying)
        ∨ (∃ reply, c = .replyEnd reply ∧ p = .replying ∧ n + 3 ≤ reply.length) →
      exec c s = .next { s with scan := { s.scan with exchange := none } })
    ∧ (∀ inputs extra : List Byte, s.scan.exchange = some ⟨i, .replying, false, f, n⟩ → inputs.length = n →
      (s.scan.state = .running → (∃ us, s.scan.period = .running us) → ImagesCanonical s →
        ∃ t, exec (.replyEnd ((byteOf i.val :: inputs) ++ crcTail (byteOf i.val :: inputs) ++ extra)) s = .next t
          ∧ { t with slots := s.slots, imageIn := s.imageIn, scan := s.scan } = s
          ∧ OthersSkipped i s t ∧ NextExchange s t ∧ t.imageIn.free = s.imageIn.free
          ∧ t.slot i = markerTaken { s.slot i with ctx := { s.ctx i with
              inputQuality := some .fresh
              missCount := if (s.ctx i).state = .online then some 0 else (s.ctx i).missCount } }
          ∧ ((s.ctx i).inWindow = none → t.imageIn = s.imageIn)
          ∧ ∀ w, (s.ctx i).inWindow = some w → ∀ a, Memory.read t.imageIn.mem a
              = if 16 * w.start ≤ a ∧ a < 16 * w.start + inputs.length then (inputs[a - 16 * w.start]?).getD 0
                else Memory.read s.imageIn.mem a)
      ∧ (∀ k rest, s.scan.state = .running → s.scan.period = .expired → s.scan.remaining = [] →
        (∀ j, (s.scanOf j).splice = none) → (s.scanOf i).marker = some .normal → s.roster = k :: rest →
        (s.scanOf k).skip = some false →
        ∃ t, exec (.replyEnd ((byteOf i.val :: inputs) ++ crcTail (byteOf i.val :: inputs) ++ extra)) s = .next t
          ∧ t.notices = s.notices.offer ⟨.scanOverrun, none, 0, be32 s.scan.cycle.toNat⟩
          ∧ t.scan = ⟨.running, s.scan.cycle + 1, .running s.params.cyclePeriod, some (exchangeOf t k), rest⟩
          ∧ (t.ctx i).inputQuality = some .fresh)
      ∧ (s.scan.state = .stopping → s.scan.remaining = [] →
        (∀ j, (s.scanOf j).splice ≠ some .leave ∧ (s.ctx j).leaving ≠ some .releasePending) →
        (s.scanOf i).splice = none → (s.scanOf i).marker = some .normal →
        ∃ t, exec (.replyEnd ((byteOf i.val :: inputs) ++ crcTail (byteOf i.val :: inputs) ++ extra)) s = .next t
          ∧ { t with slots := s.slots, imageIn := s.imageIn, scan := s.scan, notices := s.notices } = s
          ∧ JoinsApplied s t ∧ (∀ j, j ≠ i → (s.scanOf j).splice = none → t.slot j = s.slot j)
          ∧ (t.ctx i).inputQuality = some .fresh
          ∧ t.scan = ⟨.stopped, s.scan.cycle, .idle, none, []⟩))
    ∧ (∀ c : Instr, s.scan.exchange = some ⟨i, p, false, f, n⟩ → s.scan.state = .running →
        (∃ us, s.scan.period = .running us) → ImagesCanonical s →
        (c = .responseWindowExpiry ∧ p = .window) ∨ (c = .replySilenceTimeout ∧ p = .replying)
          ∨ (∃ reply, c = .replyEnd reply ∧ p = .replying ∧ n + 3 ≤ reply.length
            ∧ (reply[0]? ≠ some (byteOf i.val)
              ∨ (reply.drop (1 + n)).take 2 ≠ crcTail (reply.take (1 + n)))) →
      ((s.scanOf i).skip = some true → ∃ t, exec c s = .next t
        ∧ { t with slots := s.slots, scan := s.scan } = s ∧ OthersSkipped i s t ∧ NextExchange s t
        ∧ t.slot i = markerTaken (s.slot i))
      ∧ ((s.scanOf i).skip ≠ some true →
        (s.ctx i).state ≠ .online ∨ min 15 ((s.ctx i).missCount.getD 0 + 1) < s.params.missLimit →
        ∃ t, exec c s = .next t
          ∧ { t with slots := s.slots, imageIn := s.imageIn, scan := s.scan } = s
          ∧ OthersSkipped i s t ∧ NextExchange s t ∧ t.imageIn.free = s.imageIn.free
          ∧ t.slot i = markerTaken { s.slot i with ctx := { s.ctx i with
              missCount := if (s.ctx i).state = .online then some (min 15 ((s.ctx i).missCount.getD 0 + 1))
                else (s.ctx i).missCount
              inputQuality := some (match (s.ctx i).inputPolicy with
                | .hold => .held
                | .zero => .zeroed) } }
          ∧ ((s.ctx i).inputPolicy = .hold ∨ (s.ctx i).inWindow = none → t.imageIn = s.imageIn)
          ∧ ∀ w, (s.ctx i).inWindow = some w → ∀ a, Memory.read t.imageIn.mem a
              = if (s.ctx i).inputPolicy = .zero ∧ 16 * w.start ≤ a ∧ a < 16 * w.start + 16 * w.count then 0
                else Memory.read s.imageIn.mem a)
      ∧ ((s.scanOf i).skip = some false → (s.ctx i).state = .online → (s.scanOf i).marker = some .normal →
        s.params.missLimit ≤ min 15 ((s.ctx i).missCount.getD 0 + 1) →
        ∃ t, exec c s = .next t
          ∧ { t with slots := s.slots, imageIn := s.imageIn, scan := s.scan, notices := s.notices } = s
          ∧ OthersSkipped i s t ∧ NextExchange s t
          ∧ t.notices = s.notices.offer ⟨.fault, some i, 8, []⟩
          ∧ (t.ctx i).faultRecord = (s.ctx i).faultRecord.add .exchangeLost
          ∧ (t.ctx i).state = .withdrawing ∧ (t.ctx i).reason = some .fault
          ∧ (t.ctx i).destination = some (softDestination i s)
          ∧ (t.ctx i).attempts = min ((s.ctx i).attempts + 1) 3 ∧ (t.ctx i).missCount = none
          ∧ (t.ctx i).leaving = some .leavePending ∧ (t.scanOf i).splice = some .leave
          ∧ (t.ctx i).inWindow = (s.ctx i).inWindow ∧ t.railOf i = s.railOf i ∧ (t.det i).run = .stopped
          ∧ (t.ctx i).inputQuality = some (match (s.ctx i).inputPolicy with
            | .hold => .held
            | .zero => .zeroed)))

/-! ## Invariants that every step keeps -/

/-- What the part is right after hard reset meets every invariant. -/
def Obligations.ResetMeetsTheInvariants : Prop :=
  NoticesBounded State.reset ∧ AccountsBounded State.reset ∧ RampsBounded State.reset ∧ LoadBounded State.reset
    ∧ UsersCounted State.reset ∧ SlotsShown State.reset ∧ ImagesCanonical State.reset
    ∧ SegmentsSound State.reset .input ∧ SegmentsSound State.reset .output
    ∧ SegmentsCounted State.reset .input ∧ SegmentsCounted State.reset .output
    ∧ LaneSound State.reset ∧ QuietInSafeOff State.reset

/-- R54, R58, R63, R73, R74, R161, R162, R187: every step keeps Ci and Cs within their budgets, E within STEADY_BUDGET, the
slots in RAMPING within RAMP_LIMIT, the scan load within the cycle budget, and the notice queue within 24. -/
def Obligations.FiguresStayWithinTheirBounds : Prop :=
  ∀ s t : State, AccountsBounded s → RampsBounded s → LoadBounded s → NoticesBounded s → step s = .next t →
    AccountsBounded t ∧ RampsBounded t ∧ LoadBounded t ∧ NoticesBounded t

/-- R113: every step keeps each entry's users count equal to the number of slot contexts whose match names it, and no entry
in use FREE. -/
def Obligations.UsersCountsStayTrue : Prop :=
  ∀ s t : State, UsersCounted s → step s = .next t → UsersCounted t

/-- R6, R13, R78, R80, R83, R90: every step keeps each context's contact state that of the monitor and each LED pattern that
of the slot's state, a transaction open exactly in PART_BUSY, a message exactly in CARD_BUSY, and the recovery timer running
exactly in RECOVERING. -/
def Obligations.ShownAndLaneStatesStayTrue : Prop :=
  ∀ s t : State, SlotsShown s → LaneSound s → step s = .next t → SlotsShown t ∧ LaneSound t

/-- R134, R136, R140, R141, R151: every step keeps the segments of each image shared out among windows and extents without
overlap, with the free list in order and merged, and the bytes in their canonical form; and it keeps the segments of an image's
extents and windows numbering exactly 128. -/
def Obligations.SegmentsStayApart : Prop :=
  ∀ s t : State, step s = .next t →
    (SegmentsSound s .input → SegmentsSound s .output → ImagesCanonical s →
      SegmentsSound t .input ∧ SegmentsSound t .output ∧ ImagesCanonical t)
    ∧ ∀ g : ImageId, SegmentsCounted s g → SegmentsCounted t g

/-- R177, R178: in SAFE_OFF every step keeps the rack quiet: no switch closes, nothing is committed, and no slot enters a
state other than DISABLED, VACANT and QUARANTINED. -/
def Obligations.SafeOffStaysQuiet : Prop :=
  ∀ s t : State, QuietInSafeOff s → step s = .next t → QuietInSafeOff t
end

