-- ==== Sys2Proof/Laws/State.lean ====
section
/-! SUPPORT. The small lemmas of the state's updates: one per field per update, and what a slot's record is after each. The
normal form of a change of one slot is `modSlot`, of an offer `post`, of an answer `answerWith`. -/

namespace Sys2Proof.Machine

open Sys2Proof

/-! ## Normal forms -/

@[simp] theorem State.mon_eq (s : State) (i : Slot) : s.mon i = (s.slot i).monitor := rfl
@[simp] theorem State.ctx_eq (s : State) (i : Slot) : s.ctx i = (s.slot i).ctx := rfl
@[simp] theorem State.railOf_eq (s : State) (i : Slot) : s.railOf i = (s.slot i).rail := rfl
@[simp] theorem State.det_eq (s : State) (i : Slot) : s.det i = (s.slot i).detector := rfl
@[simp] theorem State.scanOf_eq (s : State) (i : Slot) : s.scanOf i = (s.slot i).scan := rfl
@[simp] theorem State.modMon_eq (s : State) (i : Slot) (f : Monitor → Monitor) :
    s.modMon i f = s.modSlot i fun r => { r with monitor := f r.monitor } := rfl
@[simp] theorem State.modCtx_eq (s : State) (i : Slot) (f : Context → Context) :
    s.modCtx i f = s.modSlot i fun r => { r with ctx := f r.ctx } := rfl
@[simp] theorem State.modRail_eq (s : State) (i : Slot) (f : RailSlot → RailSlot) :
    s.modRail i f = s.modSlot i fun r => { r with rail := f r.rail } := rfl
@[simp] theorem State.modDet_eq (s : State) (i : Slot) (f : Detector → Detector) :
    s.modDet i f = s.modSlot i fun r => { r with detector := f r.detector } := rfl
@[simp] theorem State.modScan_eq (s : State) (i : Slot) (f : ScanSlot → ScanSlot) :
    s.modScan i f = s.modSlot i fun r => { r with scan := f r.scan } := rfl
@[simp] theorem State.setState_eq (s : State) (i : Slot) (st : SlotState) :
    s.setState i st = s.modSlot i (SlotRecord.enter st) := rfl
@[simp] theorem State.postSlot_eq (s : State) (k : NoticeKind) (i : Slot) (c : Byte) (d : List Byte) :
    s.postSlot k i c d = s.post ⟨k, some i, c, d⟩ := rfl
@[simp] theorem State.postRack_eq (s : State) (k : NoticeKind) (c : Byte) (d : List Byte) :
    s.postRack k c d = s.post ⟨k, none, c, d⟩ := rfl
@[simp] theorem State.reply_eq (s : State) (c t : Byte) (st : Status) (b : List Byte) :
    s.reply c t st b = s.answerWith c t st b none := rfl

/-! ## A slot's record after an update -/

@[simp] theorem State.slot_modSlot_self (s : State) (i : Slot) (f : SlotRecord → SlotRecord) :
    (s.modSlot i f).slot i = f (s.slot i) := by
  simp [State.modSlot, State.slot]

theorem State.slot_modSlot_ne (s : State) {i j : Slot} (f : SlotRecord → SlotRecord) (h : j ≠ i) :
    (s.modSlot i f).slot j = s.slot j := by
  have h' : i.val ≠ j.val := fun e => h (Fin.ext e.symm)
  simp [State.modSlot, State.slot, h']

theorem State.slot_modSlot (s : State) (i j : Slot) (f : SlotRecord → SlotRecord) :
    (s.modSlot i f).slot j = if j = i then f (s.slot i) else s.slot j := by
  by_cases h : j = i
  · subst h; simp
  · simp [h, State.slot_modSlot_ne]

@[simp] theorem getElem_mapVector {α β : Type} {n : Nat} (f : α → β) (v : Vector α n) (k : Nat) (h : k < n) :
    (mapVector f v)[k] = f v[k] := by
  simp [mapVector]

@[simp] theorem State.slot_mapSlots (s : State) (f : SlotRecord → SlotRecord) (i : Slot) :
    (s.mapSlots f).slot i = f (s.slot i) := by
  simp [State.mapSlots, State.slot]

/-- Two states with the same slot records and the same rest are equal. -/
theorem State.slots_ext {s t : State} (h : ∀ i, s.slot i = t.slot i) : s.slots = t.slots := by
  apply Vector.ext
  intro k hk
  exact h ⟨k, hk⟩

theorem State.modSlot_modSlot (s : State) (i : Slot) (f g : SlotRecord → SlotRecord) :
    (s.modSlot i f).modSlot i g = s.modSlot i fun r => g (f r) := by
  simp [State.modSlot, State.slot]

theorem State.modSlot_id (s : State) (i : Slot) : (s.modSlot i fun r => r) = s := by
  simp [State.modSlot, State.slot]

/-! ## modSlot -/

@[simp] theorem State.modSlot_params (s : State) (i : Slot) (f : SlotRecord → SlotRecord) :
    (s.modSlot i f).params = s.params := rfl
@[simp] theorem State.modSlot_rail (s : State) (i : Slot) (f : SlotRecord → SlotRecord) :
    (s.modSlot i f).rail = s.rail := rfl
@[simp] theorem State.modSlot_lane (s : State) (i : Slot) (f : SlotRecord → SlotRecord) :
    (s.modSlot i f).lane = s.lane := rfl
@[simp] theorem State.modSlot_clock (s : State) (i : Slot) (f : SlotRecord → SlotRecord) :
    (s.modSlot i f).clock = s.clock := rfl
@[simp] theorem State.modSlot_directory (s : State) (i : Slot) (f : SlotRecord → SlotRecord) :
    (s.modSlot i f).directory = s.directory := rfl
@[simp] theorem State.modSlot_imageIn (s : State) (i : Slot) (f : SlotRecord → SlotRecord) :
    (s.modSlot i f).imageIn = s.imageIn := rfl
@[simp] theorem State.modSlot_imageOut (s : State) (i : Slot) (f : SlotRecord → SlotRecord) :
    (s.modSlot i f).imageOut = s.imageOut := rfl
@[simp] theorem State.modSlot_scan (s : State) (i : Slot) (f : SlotRecord → SlotRecord) :
    (s.modSlot i f).scan = s.scan := rfl
@[simp] theorem State.modSlot_link (s : State) (i : Slot) (f : SlotRecord → SlotRecord) :
    (s.modSlot i f).link = s.link := rfl
@[simp] theorem State.modSlot_notices (s : State) (i : Slot) (f : SlotRecord → SlotRecord) :
    (s.modSlot i f).notices = s.notices := rfl
@[simp] theorem State.modSlot_marks (s : State) (i : Slot) (f : SlotRecord → SlotRecord) :
    (s.modSlot i f).marks = s.marks := rfl
@[simp] theorem State.modSlot_safeOff (s : State) (i : Slot) (f : SlotRecord → SlotRecord) :
    (s.modSlot i f).safeOff = s.safeOff := rfl
@[simp] theorem State.modSlot_mode (s : State) (i : Slot) (f : SlotRecord → SlotRecord) :
    (s.modSlot i f).mode = s.mode := rfl
@[simp] theorem State.modSlot_pending (s : State) (i : Slot) (f : SlotRecord → SlotRecord) :
    (s.modSlot i f).pending = s.pending := rfl

/-! ## mapSlots -/

@[simp] theorem State.mapSlots_params (s : State) (f : SlotRecord → SlotRecord) :
    (s.mapSlots f).params = s.params := rfl
@[simp] theorem State.mapSlots_rail (s : State) (f : SlotRecord → SlotRecord) :
    (s.mapSlots f).rail = s.rail := rfl
@[simp] theorem State.mapSlots_lane (s : State) (f : SlotRecord → SlotRecord) :
    (s.mapSlots f).lane = s.lane := rfl
@[simp] theorem State.mapSlots_clock (s : State) (f : SlotRecord → SlotRecord) :
    (s.mapSlots f).clock = s.clock := rfl
@[simp] theorem State.mapSlots_directory (s : State) (f : SlotRecord → SlotRecord) :
    (s.mapSlots f).directory = s.directory := rfl
@[simp] theorem State.mapSlots_imageIn (s : State) (f : SlotRecord → SlotRecord) :
    (s.mapSlots f).imageIn = s.imageIn := rfl
@[simp] theorem State.mapSlots_imageOut (s : State) (f : SlotRecord → SlotRecord) :
    (s.mapSlots f).imageOut = s.imageOut := rfl
@[simp] theorem State.mapSlots_scan (s : State) (f : SlotRecord → SlotRecord) :
    (s.mapSlots f).scan = s.scan := rfl
@[simp] theorem State.mapSlots_link (s : State) (f : SlotRecord → SlotRecord) :
    (s.mapSlots f).link = s.link := rfl
@[simp] theorem State.mapSlots_notices (s : State) (f : SlotRecord → SlotRecord) :
    (s.mapSlots f).notices = s.notices := rfl
@[simp] theorem State.mapSlots_marks (s : State) (f : SlotRecord → SlotRecord) :
    (s.mapSlots f).marks = s.marks := rfl
@[simp] theorem State.mapSlots_safeOff (s : State) (f : SlotRecord → SlotRecord) :
    (s.mapSlots f).safeOff = s.safeOff := rfl
@[simp] theorem State.mapSlots_mode (s : State) (f : SlotRecord → SlotRecord) :
    (s.mapSlots f).mode = s.mode := rfl
@[simp] theorem State.mapSlots_pending (s : State) (f : SlotRecord → SlotRecord) :
    (s.mapSlots f).pending = s.pending := rfl

/-! ## post -/

@[simp] theorem State.post_slots (s : State) (n : Notice) :
    (s.post n).slots = s.slots := rfl
@[simp] theorem State.slot_post (s : State) (n : Notice) (j : Slot) :
    (s.post n).slot j = s.slot j := rfl
@[simp] theorem State.post_params (s : State) (n : Notice) :
    (s.post n).params = s.params := rfl
@[simp] theorem State.post_rail (s : State) (n : Notice) :
    (s.post n).rail = s.rail := rfl
@[simp] theorem State.post_lane (s : State) (n : Notice) :
    (s.post n).lane = s.lane := rfl
@[simp] theorem State.post_clock (s : State) (n : Notice) :
    (s.post n).clock = s.clock := rfl
@[simp] theorem State.post_directory (s : State) (n : Notice) :
    (s.post n).directory = s.directory := rfl
@[simp] theorem State.post_imageIn (s : State) (n : Notice) :
    (s.post n).imageIn = s.imageIn := rfl
@[simp] theorem State.post_imageOut (s : State) (n : Notice) :
    (s.post n).imageOut = s.imageOut := rfl
@[simp] theorem State.post_scan (s : State) (n : Notice) :
    (s.post n).scan = s.scan := rfl
@[simp] theorem State.post_link (s : State) (n : Notice) :
    (s.post n).link = s.link := rfl
@[simp] theorem State.post_marks (s : State) (n : Notice) :
    (s.post n).marks = s.marks := rfl
@[simp] theorem State.post_safeOff (s : State) (n : Notice) :
    (s.post n).safeOff = s.safeOff := rfl
@[simp] theorem State.post_mode (s : State) (n : Notice) :
    (s.post n).mode = s.mode := rfl
@[simp] theorem State.post_pending (s : State) (n : Notice) :
    (s.post n).pending = s.pending := rfl

/-! ## answerWith -/

@[simp] theorem State.answerWith_slots (s : State) (c t : Byte) (st : Status) (b : List Byte) (o : Option Bool) :
    (s.answerWith c t st b o).slots = s.slots := rfl
@[simp] theorem State.slot_answerWith (s : State) (c t : Byte) (st : Status) (b : List Byte) (o : Option Bool) (j : Slot) :
    (s.answerWith c t st b o).slot j = s.slot j := rfl
@[simp] theorem State.answerWith_params (s : State) (c t : Byte) (st : Status) (b : List Byte) (o : Option Bool) :
    (s.answerWith c t st b o).params = s.params := rfl
@[simp] theorem State.answerWith_rail (s : State) (c t : Byte) (st : Status) (b : List Byte) (o : Option Bool) :
    (s.answerWith c t st b o).rail = s.rail := rfl
@[simp] theorem State.answerWith_lane (s : State) (c t : Byte) (st : Status) (b : List Byte) (o : Option Bool) :
    (s.answerWith c t st b o).lane = s.lane := rfl
@[simp] theorem State.answerWith_clock (s : State) (c t : Byte) (st : Status) (b : List Byte) (o : Option Bool) :
    (s.answerWith c t st b o).clock = s.clock := rfl
@[simp] theorem State.answerWith_directory (s : State) (c t : Byte) (st : Status) (b : List Byte) (o : Option Bool) :
    (s.answerWith c t st b o).directory = s.directory := rfl
@[simp] theorem State.answerWith_imageIn (s : State) (c t : Byte) (st : Status) (b : List Byte) (o : Option Bool) :
    (s.answerWith c t st b o).imageIn = s.imageIn := rfl
@[simp] theorem State.answerWith_imageOut (s : State) (c t : Byte) (st : Status) (b : List Byte) (o : Option Bool) :
    (s.answerWith c t st b o).imageOut = s.imageOut := rfl
@[simp] theorem State.answerWith_scan (s : State) (c t : Byte) (st : Status) (b : List Byte) (o : Option Bool) :
    (s.answerWith c t st b o).scan = s.scan := rfl
@[simp] theorem State.answerWith_notices (s : State) (c t : Byte) (st : Status) (b : List Byte) (o : Option Bool) :
    (s.answerWith c t st b o).notices = s.notices := rfl
@[simp] theorem State.answerWith_marks (s : State) (c t : Byte) (st : Status) (b : List Byte) (o : Option Bool) :
    (s.answerWith c t st b o).marks = s.marks := rfl
@[simp] theorem State.answerWith_safeOff (s : State) (c t : Byte) (st : Status) (b : List Byte) (o : Option Bool) :
    (s.answerWith c t st b o).safeOff = s.safeOff := rfl
@[simp] theorem State.answerWith_mode (s : State) (c t : Byte) (st : Status) (b : List Byte) (o : Option Bool) :
    (s.answerWith c t st b o).mode = s.mode := rfl
@[simp] theorem State.answerWith_pending (s : State) (c t : Byte) (st : Status) (b : List Byte) (o : Option Bool) :
    (s.answerWith c t st b o).pending = s.pending := rfl

/-! ## modEntry -/

@[simp] theorem State.modEntry_slots (s : State) (k : EntryIndex) (f : Entry → Entry) :
    (s.modEntry k f).slots = s.slots := rfl
@[simp] theorem State.slot_modEntry (s : State) (k : EntryIndex) (f : Entry → Entry) (j : Slot) :
    (s.modEntry k f).slot j = s.slot j := rfl
@[simp] theorem State.modEntry_params (s : State) (k : EntryIndex) (f : Entry → Entry) :
    (s.modEntry k f).params = s.params := rfl
@[simp] theorem State.modEntry_rail (s : State) (k : EntryIndex) (f : Entry → Entry) :
    (s.modEntry k f).rail = s.rail := rfl
@[simp] theorem State.modEntry_lane (s : State) (k : EntryIndex) (f : Entry → Entry) :
    (s.modEntry k f).lane = s.lane := rfl
@[simp] theorem State.modEntry_clock (s : State) (k : EntryIndex) (f : Entry → Entry) :
    (s.modEntry k f).clock = s.clock := rfl
@[simp] theorem State.modEntry_imageIn (s : State) (k : EntryIndex) (f : Entry → Entry) :
    (s.modEntry k f).imageIn = s.imageIn := rfl
@[simp] theorem State.modEntry_imageOut (s : State) (k : EntryIndex) (f : Entry → Entry) :
    (s.modEntry k f).imageOut = s.imageOut := rfl
@[simp] theorem State.modEntry_scan (s : State) (k : EntryIndex) (f : Entry → Entry) :
    (s.modEntry k f).scan = s.scan := rfl
@[simp] theorem State.modEntry_link (s : State) (k : EntryIndex) (f : Entry → Entry) :
    (s.modEntry k f).link = s.link := rfl
@[simp] theorem State.modEntry_notices (s : State) (k : EntryIndex) (f : Entry → Entry) :
    (s.modEntry k f).notices = s.notices := rfl
@[simp] theorem State.modEntry_marks (s : State) (k : EntryIndex) (f : Entry → Entry) :
    (s.modEntry k f).marks = s.marks := rfl
@[simp] theorem State.modEntry_safeOff (s : State) (k : EntryIndex) (f : Entry → Entry) :
    (s.modEntry k f).safeOff = s.safeOff := rfl
@[simp] theorem State.modEntry_mode (s : State) (k : EntryIndex) (f : Entry → Entry) :
    (s.modEntry k f).mode = s.mode := rfl
@[simp] theorem State.modEntry_pending (s : State) (k : EntryIndex) (f : Entry → Entry) :
    (s.modEntry k f).pending = s.pending := rfl

/-! ## modLane -/

@[simp] theorem State.modLane_slots (s : State) (f : Lane → Lane) :
    (s.modLane f).slots = s.slots := rfl
@[simp] theorem State.slot_modLane (s : State) (f : Lane → Lane) (j : Slot) :
    (s.modLane f).slot j = s.slot j := rfl
@[simp] theorem State.modLane_params (s : State) (f : Lane → Lane) :
    (s.modLane f).params = s.params := rfl
@[simp] theorem State.modLane_rail (s : State) (f : Lane → Lane) :
    (s.modLane f).rail = s.rail := rfl
@[simp] theorem State.modLane_clock (s : State) (f : Lane → Lane) :
    (s.modLane f).clock = s.clock := rfl
@[simp] theorem State.modLane_directory (s : State) (f : Lane → Lane) :
    (s.modLane f).directory = s.directory := rfl
@[simp] theorem State.modLane_imageIn (s : State) (f : Lane → Lane) :
    (s.modLane f).imageIn = s.imageIn := rfl
@[simp] theorem State.modLane_imageOut (s : State) (f : Lane → Lane) :
    (s.modLane f).imageOut = s.imageOut := rfl
@[simp] theorem State.modLane_scan (s : State) (f : Lane → Lane) :
    (s.modLane f).scan = s.scan := rfl
@[simp] theorem State.modLane_link (s : State) (f : Lane → Lane) :
    (s.modLane f).link = s.link := rfl
@[simp] theorem State.modLane_notices (s : State) (f : Lane → Lane) :
    (s.modLane f).notices = s.notices := rfl
@[simp] theorem State.modLane_marks (s : State) (f : Lane → Lane) :
    (s.modLane f).marks = s.marks := rfl
@[simp] theorem State.modLane_safeOff (s : State) (f : Lane → Lane) :
    (s.modLane f).safeOff = s.safeOff := rfl
@[simp] theorem State.modLane_mode (s : State) (f : Lane → Lane) :
    (s.modLane f).mode = s.mode := rfl
@[simp] theorem State.modLane_pending (s : State) (f : Lane → Lane) :
    (s.modLane f).pending = s.pending := rfl

/-! ## modScanRack -/

@[simp] theorem State.modScanRack_slots (s : State) (f : Scan → Scan) :
    (s.modScanRack f).slots = s.slots := rfl
@[simp] theorem State.slot_modScanRack (s : State) (f : Scan → Scan) (j : Slot) :
    (s.modScanRack f).slot j = s.slot j := rfl
@[simp] theorem State.modScanRack_params (s : State) (f : Scan → Scan) :
    (s.modScanRack f).params = s.params := rfl
@[simp] theorem State.modScanRack_rail (s : State) (f : Scan → Scan) :
    (s.modScanRack f).rail = s.rail := rfl
@[simp] theorem State.modScanRack_lane (s : State) (f : Scan → Scan) :
    (s.modScanRack f).lane = s.lane := rfl
@[simp] theorem State.modScanRack_clock (s : State) (f : Scan → Scan) :
    (s.modScanRack f).clock = s.clock := rfl
@[simp] theorem State.modScanRack_directory (s : State) (f : Scan → Scan) :
    (s.modScanRack f).directory = s.directory := rfl
@[simp] theorem State.modScanRack_imageIn (s : State) (f : Scan → Scan) :
    (s.modScanRack f).imageIn = s.imageIn := rfl
@[simp] theorem State.modScanRack_imageOut (s : State) (f : Scan → Scan) :
    (s.modScanRack f).imageOut = s.imageOut := rfl
@[simp] theorem State.modScanRack_link (s : State) (f : Scan → Scan) :
    (s.modScanRack f).link = s.link := rfl
@[simp] theorem State.modScanRack_notices (s : State) (f : Scan → Scan) :
    (s.modScanRack f).notices = s.notices := rfl
@[simp] theorem State.modScanRack_marks (s : State) (f : Scan → Scan) :
    (s.modScanRack f).marks = s.marks := rfl
@[simp] theorem State.modScanRack_safeOff (s : State) (f : Scan → Scan) :
    (s.modScanRack f).safeOff = s.safeOff := rfl
@[simp] theorem State.modScanRack_mode (s : State) (f : Scan → Scan) :
    (s.modScanRack f).mode = s.mode := rfl
@[simp] theorem State.modScanRack_pending (s : State) (f : Scan → Scan) :
    (s.modScanRack f).pending = s.pending := rfl

/-! ## setFrozen -/

@[simp] theorem State.setFrozen_slots (s : State) (b : Bool) :
    (s.setFrozen b).slots = s.slots := rfl
@[simp] theorem State.slot_setFrozen (s : State) (b : Bool) (j : Slot) :
    (s.setFrozen b).slot j = s.slot j := rfl
@[simp] theorem State.setFrozen_params (s : State) (b : Bool) :
    (s.setFrozen b).params = s.params := rfl
@[simp] theorem State.setFrozen_rail (s : State) (b : Bool) :
    (s.setFrozen b).rail = s.rail := rfl
@[simp] theorem State.setFrozen_lane (s : State) (b : Bool) :
    (s.setFrozen b).lane = s.lane := rfl
@[simp] theorem State.setFrozen_directory (s : State) (b : Bool) :
    (s.setFrozen b).directory = s.directory := rfl
@[simp] theorem State.setFrozen_imageIn (s : State) (b : Bool) :
    (s.setFrozen b).imageIn = s.imageIn := rfl
@[simp] theorem State.setFrozen_imageOut (s : State) (b : Bool) :
    (s.setFrozen b).imageOut = s.imageOut := rfl
@[simp] theorem State.setFrozen_scan (s : State) (b : Bool) :
    (s.setFrozen b).scan = s.scan := rfl
@[simp] theorem State.setFrozen_link (s : State) (b : Bool) :
    (s.setFrozen b).link = s.link := rfl
@[simp] theorem State.setFrozen_notices (s : State) (b : Bool) :
    (s.setFrozen b).notices = s.notices := rfl
@[simp] theorem State.setFrozen_marks (s : State) (b : Bool) :
    (s.setFrozen b).marks = s.marks := rfl
@[simp] theorem State.setFrozen_safeOff (s : State) (b : Bool) :
    (s.setFrozen b).safeOff = s.safeOff := rfl
@[simp] theorem State.setFrozen_mode (s : State) (b : Bool) :
    (s.setFrozen b).mode = s.mode := rfl
@[simp] theorem State.setFrozen_pending (s : State) (b : Bool) :
    (s.setFrozen b).pending = s.pending := rfl

/-! ## recomputeE -/

@[simp] theorem State.recomputeE_slots (s : State) :
    (s.recomputeE).slots = s.slots := rfl
@[simp] theorem State.slot_recomputeE (s : State) (j : Slot) :
    (s.recomputeE).slot j = s.slot j := rfl
@[simp] theorem State.recomputeE_params (s : State) :
    (s.recomputeE).params = s.params := rfl
@[simp] theorem State.recomputeE_lane (s : State) :
    (s.recomputeE).lane = s.lane := rfl
@[simp] theorem State.recomputeE_clock (s : State) :
    (s.recomputeE).clock = s.clock := rfl
@[simp] theorem State.recomputeE_directory (s : State) :
    (s.recomputeE).directory = s.directory := rfl
@[simp] theorem State.recomputeE_imageIn (s : State) :
    (s.recomputeE).imageIn = s.imageIn := rfl
@[simp] theorem State.recomputeE_imageOut (s : State) :
    (s.recomputeE).imageOut = s.imageOut := rfl
@[simp] theorem State.recomputeE_scan (s : State) :
    (s.recomputeE).scan = s.scan := rfl
@[simp] theorem State.recomputeE_link (s : State) :
    (s.recomputeE).link = s.link := rfl
@[simp] theorem State.recomputeE_notices (s : State) :
    (s.recomputeE).notices = s.notices := rfl
@[simp] theorem State.recomputeE_marks (s : State) :
    (s.recomputeE).marks = s.marks := rfl
@[simp] theorem State.recomputeE_safeOff (s : State) :
    (s.recomputeE).safeOff = s.safeOff := rfl
@[simp] theorem State.recomputeE_mode (s : State) :
    (s.recomputeE).mode = s.mode := rfl
@[simp] theorem State.recomputeE_pending (s : State) :
    (s.recomputeE).pending = s.pending := rfl

/-! ## setImage -/

@[simp] theorem State.image_setImage_self (s : State) (g : ImageId) (x : Image) : (s.setImage g x).image g = x := by
  cases g <;> rfl

theorem State.image_setImage_ne (s : State) {g h : ImageId} (x : Image) (ne : h ≠ g) :
    (s.setImage g x).image h = s.image h := by
  cases g <;> cases h <;> first | rfl | exact absurd rfl ne

@[simp] theorem State.slot_setImage (s : State) (g : ImageId) (x : Image) (j : Slot) :
    (s.setImage g x).slot j = s.slot j := by
  cases g <;> rfl
@[simp] theorem State.setImage_slots (s : State) (g : ImageId) (x : Image) :
    (s.setImage g x).slots = s.slots := by cases g <;> rfl
@[simp] theorem State.setImage_params (s : State) (g : ImageId) (x : Image) :
    (s.setImage g x).params = s.params := by cases g <;> rfl
@[simp] theorem State.setImage_rail (s : State) (g : ImageId) (x : Image) :
    (s.setImage g x).rail = s.rail := by cases g <;> rfl
@[simp] theorem State.setImage_lane (s : State) (g : ImageId) (x : Image) :
    (s.setImage g x).lane = s.lane := by cases g <;> rfl
@[simp] theorem State.setImage_clock (s : State) (g : ImageId) (x : Image) :
    (s.setImage g x).clock = s.clock := by cases g <;> rfl
@[simp] theorem State.setImage_directory (s : State) (g : ImageId) (x : Image) :
    (s.setImage g x).directory = s.directory := by cases g <;> rfl
@[simp] theorem State.setImage_scan (s : State) (g : ImageId) (x : Image) :
    (s.setImage g x).scan = s.scan := by cases g <;> rfl
@[simp] theorem State.setImage_link (s : State) (g : ImageId) (x : Image) :
    (s.setImage g x).link = s.link := by cases g <;> rfl
@[simp] theorem State.setImage_notices (s : State) (g : ImageId) (x : Image) :
    (s.setImage g x).notices = s.notices := by cases g <;> rfl
@[simp] theorem State.setImage_marks (s : State) (g : ImageId) (x : Image) :
    (s.setImage g x).marks = s.marks := by cases g <;> rfl
@[simp] theorem State.setImage_safeOff (s : State) (g : ImageId) (x : Image) :
    (s.setImage g x).safeOff = s.safeOff := by cases g <;> rfl
@[simp] theorem State.setImage_mode (s : State) (g : ImageId) (x : Image) :
    (s.setImage g x).mode = s.mode := by cases g <;> rfl
@[simp] theorem State.setImage_pending (s : State) (g : ImageId) (x : Image) :
    (s.setImage g x).pending = s.pending := by cases g <;> rfl

/-! ## The fields that an update writes -/

@[simp] theorem State.post_notices (s : State) (n : Notice) : (s.post n).notices = s.notices.offer n := rfl
@[simp] theorem State.modLane_lane (s : State) (f : Lane → Lane) : (s.modLane f).lane = f s.lane := rfl
@[simp] theorem State.modScanRack_scan (s : State) (f : Scan → Scan) : (s.modScanRack f).scan = f s.scan := rfl
@[simp] theorem State.setFrozen_clock (s : State) (b : Bool) :
    (s.setFrozen b).clock = { s.clock with frozen := b } := rfl
@[simp] theorem State.answerWith_link (s : State) (c t : Byte) (st : Status) (b : List Byte) (o : Option Bool) :
    (s.answerWith c t st b o).link = s.link.take ⟨c, t, st, b, o⟩ := rfl

@[simp] theorem State.entry_modEntry_self (s : State) (k : EntryIndex) (f : Entry → Entry) :
    (s.modEntry k f).entry k = f (s.entry k) := by
  simp [State.modEntry, State.entry]

theorem State.entry_modEntry_ne (s : State) {k j : EntryIndex} (f : Entry → Entry) (h : j ≠ k) :
    (s.modEntry k f).entry j = s.entry j := by
  have h' : k.val ≠ j.val := fun e => h (Fin.ext e.symm)
  simp [State.modEntry, State.entry, h']

@[simp] theorem State.entry_modSlot (s : State) (i : Slot) (f : SlotRecord → SlotRecord) (k : EntryIndex) :
    (s.modSlot i f).entry k = s.entry k := rfl
@[simp] theorem State.entry_post (s : State) (n : Notice) (k : EntryIndex) : (s.post n).entry k = s.entry k := rfl
@[simp] theorem State.image_modSlot (s : State) (i : Slot) (f : SlotRecord → SlotRecord) (g : ImageId) :
    (s.modSlot i f).image g = s.image g := by cases g <;> rfl
@[simp] theorem State.image_post (s : State) (n : Notice) (g : ImageId) : (s.post n).image g = s.image g := by
  cases g <;> rfl

/-! ## The record of a slot that enters a state -/

@[simp] theorem SlotRecord.enter_state (st : SlotState) (r : SlotRecord) : (r.enter st).ctx.state = st := by
  unfold SlotRecord.enter; split <;> rfl

theorem Monitor.showPattern_pattern (m : Monitor) (p : LedPattern) : (m.showPattern p).pattern = p := by
  unfold Monitor.showPattern; split
  · assumption
  · rfl

@[simp] theorem SlotRecord.enter_pattern (st : SlotState) (r : SlotRecord) : (r.enter st).monitor.pattern = st.pattern := by
  unfold SlotRecord.enter; split <;> exact Monitor.showPattern_pattern _ _

theorem Monitor.showPattern_contact (m : Monitor) (p : LedPattern) : (m.showPattern p).contact = m.contact := by
  unfold Monitor.showPattern; split <;> rfl

@[simp] theorem SlotRecord.enter_contact (st : SlotState) (r : SlotRecord) :
    (r.enter st).monitor.contact = r.monitor.contact := by
  unfold SlotRecord.enter; split <;> exact Monitor.showPattern_contact _ _

@[simp] theorem SlotRecord.enter_rail (st : SlotState) (r : SlotRecord) : (r.enter st).rail = r.rail := by
  unfold SlotRecord.enter; split <;> rfl
@[simp] theorem SlotRecord.enter_detector (st : SlotState) (r : SlotRecord) : (r.enter st).detector = r.detector := by
  unfold SlotRecord.enter; split <;> rfl
@[simp] theorem SlotRecord.enter_scan (st : SlotState) (r : SlotRecord) : (r.enter st).scan = r.scan := by
  unfold SlotRecord.enter; split <;> rfl
@[simp] theorem SlotRecord.enter_ctx_policy (st : SlotState) (r : SlotRecord) :
    (r.enter st).ctx.policy = r.ctx.policy := by
  unfold SlotRecord.enter; split <;> rfl
@[simp] theorem SlotRecord.enter_ctx_priority (st : SlotState) (r : SlotRecord) :
    (r.enter st).ctx.priority = r.ctx.priority := by
  unfold SlotRecord.enter; split <;> rfl
@[simp] theorem SlotRecord.enter_ctx_inputPolicy (st : SlotState) (r : SlotRecord) :
    (r.enter st).ctx.inputPolicy = r.ctx.inputPolicy := by
  unfold SlotRecord.enter; split <;> rfl
@[simp] theorem SlotRecord.enter_ctx_contact (st : SlotState) (r : SlotRecord) :
    (r.enter st).ctx.contact = r.ctx.contact := by
  unfold SlotRecord.enter; split <;> rfl
@[simp] theorem SlotRecord.enter_ctx_inrushClass (st : SlotState) (r : SlotRecord) :
    (r.enter st).ctx.inrushClass = r.ctx.inrushClass := by
  unfold SlotRecord.enter; split <;> rfl
@[simp] theorem SlotRecord.enter_ctx_identity (st : SlotState) (r : SlotRecord) :
    (r.enter st).ctx.identity = r.ctx.identity := by
  unfold SlotRecord.enter; split <;> rfl
@[simp] theorem SlotRecord.enter_ctx_verdict (st : SlotState) (r : SlotRecord) :
    (r.enter st).ctx.verdict = r.ctx.verdict := by
  unfold SlotRecord.enter; split <;> rfl
@[simp] theorem SlotRecord.enter_ctx_matched (st : SlotState) (r : SlotRecord) :
    (r.enter st).ctx.matched = r.ctx.matched := by
  unfold SlotRecord.enter; split <;> rfl
@[simp] theorem SlotRecord.enter_ctx_inrushCommitted (st : SlotState) (r : SlotRecord) :
    (r.enter st).ctx.inrushCommitted = r.ctx.inrushCommitted := by
  unfold SlotRecord.enter; split <;> rfl
@[simp] theorem SlotRecord.enter_ctx_steadyCommitted (st : SlotState) (r : SlotRecord) :
    (r.enter st).ctx.steadyCommitted = r.ctx.steadyCommitted := by
  unfold SlotRecord.enter; split <;> rfl
@[simp] theorem SlotRecord.enter_ctx_inWindow (st : SlotState) (r : SlotRecord) :
    (r.enter st).ctx.inWindow = r.ctx.inWindow := by
  unfold SlotRecord.enter; split <;> rfl
@[simp] theorem SlotRecord.enter_ctx_outWindow (st : SlotState) (r : SlotRecord) :
    (r.enter st).ctx.outWindow = r.ctx.outWindow := by
  unfold SlotRecord.enter; split <;> rfl
@[simp] theorem SlotRecord.enter_ctx_inputQuality (st : SlotState) (r : SlotRecord) :
    (r.enter st).ctx.inputQuality = r.ctx.inputQuality := by
  unfold SlotRecord.enter; split <;> rfl
@[simp] theorem SlotRecord.enter_ctx_leaving (st : SlotState) (r : SlotRecord) :
    (r.enter st).ctx.leaving = r.ctx.leaving := by
  unfold SlotRecord.enter; split <;> rfl
@[simp] theorem SlotRecord.enter_ctx_destination (st : SlotState) (r : SlotRecord) :
    (r.enter st).ctx.destination = r.ctx.destination := by
  unfold SlotRecord.enter; split <;> rfl
@[simp] theorem SlotRecord.enter_ctx_reason (st : SlotState) (r : SlotRecord) :
    (r.enter st).ctx.reason = r.ctx.reason := by
  unfold SlotRecord.enter; split <;> rfl
@[simp] theorem SlotRecord.enter_ctx_attempts (st : SlotState) (r : SlotRecord) :
    (r.enter st).ctx.attempts = r.ctx.attempts := by
  unfold SlotRecord.enter; split <;> rfl
@[simp] theorem SlotRecord.enter_ctx_faultRecord (st : SlotState) (r : SlotRecord) :
    (r.enter st).ctx.faultRecord = r.ctx.faultRecord := by
  unfold SlotRecord.enter; split <;> rfl
@[simp] theorem SlotRecord.enter_ctx_settleTimer (st : SlotState) (r : SlotRecord) :
    (r.enter st).ctx.settleTimer = r.ctx.settleTimer := by
  unfold SlotRecord.enter; split <;> rfl

end Sys2Proof.Machine
end

