-- ==== Sys2Proof/Laws/Arbiter.lean ====
section
/-! SUPPORT. What an evaluation of the arbiter can do: a sequence of grants, each to a queued slot that meets the five
conditions of R63, and nothing else. -/

namespace Sys2Proof.Machine

open Sys2Proof

/-! ## One grant -/

/-- A slot's record after a grant (R65). -/
theorem State.slot_grant_self (s : State) (i : Slot) :
    (s.grant i).slot i = (SlotRecord.grant (s.classRow i) s.rampUs (s.slot i)).enter .ramping := by
  show ((({ s.modSlot i _ with rail := _ } : State)).modSlot i _).slot i = _
  rw [State.slot_modSlot_self]
  show SlotRecord.enter _ ((s.modSlot i _).slot i) = _
  rw [State.slot_modSlot_self]

theorem State.slot_grant_ne (s : State) {i j : Slot} (h : j ≠ i) : (s.grant i).slot j = s.slot j := by
  show ((({ s.modSlot i _ with rail := _ } : State)).modSlot i _).slot j = _
  rw [State.slot_modSlot_ne _ _ h]
  show (s.modSlot i _).slot j = _
  rw [State.slot_modSlot_ne _ _ h]

/-- A grant changes slot records and last granted, and nothing else of the part. -/
theorem State.grant_rest (s : State) (i : Slot) :
    s.grant i = { s with slots := (s.grant i).slots, rail := { s.rail with lastGranted := i } } := rfl

/-! ## The ramp queue's order -/

theorem mem_allSlots (i : Slot) : i ∈ allSlots := by revert i; decide

theorem State.mem_slotsWith (s : State) (p : SlotRecord → Bool) (i : Slot) :
    i ∈ s.slotsWith p ↔ p (s.slot i) = true := by
  simp [State.slotsWith, mem_allSlots]

theorem mem_slotsAfter (last i : Slot) : i ∈ slotsAfter last := by
  simp only [slotsAfter, List.mem_append, List.mem_filter, mem_allSlots, true_and, decide_eq_true_eq]
  exact (le_or_gt i last).symm

/-- The order holds queued slots only (R62). -/
theorem State.queued_of_mem_rampOrder {s : State} {i : Slot} (h : i ∈ s.rampOrder) : (s.slot i).rail.queued = true := by
  unfold State.rampOrder at h
  split at h
  · simp only [List.mem_flatMap, State.mem_slotsWith, Bool.and_eq_true] at h
    obtain ⟨_, _, hq, _⟩ := h
    exact hq
  · simpa using (List.mem_filter.mp h).2

/-- The order holds every queued slot whose priority is in its range (R62). -/
theorem State.mem_rampOrder_of_queued {s : State} {i : Slot} (h : (s.slot i).rail.queued = true)
    (hp : (s.slot i).ctx.priority ≤ 3) : i ∈ s.rampOrder := by
  unfold State.rampOrder
  split
  · simp only [List.mem_flatMap, State.mem_slotsWith, Bool.and_eq_true, beq_iff_eq]
    refine ⟨(s.slot i).ctx.priority, ?_, h, rfl⟩
    generalize (s.slot i).ctx.priority = p at hp
    interval_cases p <;> decide
  · exact List.mem_filter.mpr ⟨mem_slotsAfter _ _, by simpa using h⟩

/-! ## An evaluation -/

/-- An evaluation is a sequence of grants that fit: what holds at its start and survives each of them holds at its end. -/
theorem State.arbitrateSteps_induct {P : State → Prop}
    (hg : ∀ t i, P t → (t.slot i).rail.queued = true → t.grantFits i = true → P (t.grant i)) :
    ∀ (n : Nat) (s : State), P s → P (State.arbitrateSteps n s)
  | 0, _, h => h
  | n + 1, s, h => by
    unfold State.arbitrateSteps
    split
    · exact h
    · rename_i i _ hq
      split
      · rename_i hf
        exact arbitrateSteps_induct hg n _ (hg s i h (State.queued_of_mem_rampOrder (by rw [hq]; simp)) hf)
      · exact h

theorem State.arbitrate_induct {P : State → Prop} (s : State) (h : P s)
    (hg : ∀ t i, P t → (t.slot i).rail.queued = true → t.grantFits i = true → P (t.grant i)) : P s.arbitrate :=
  State.arbitrateSteps_induct hg 12 s h

/-- What an evaluation leaves of one slot's record: a slot outside the ramp queue is untouched, and a queued one loses
nothing but what a grant writes. -/
structure SlotRecord.GrantedFrom (r q : SlotRecord) : Prop where
  untouched : r.rail.queued = false → q = r
  scan : q.scan = r.scan
  detector : q.detector = r.detector
  ctx : q.ctx = { r.ctx with
    state := q.ctx.state, inrushCommitted := q.ctx.inrushCommitted, steadyCommitted := q.ctx.steadyCommitted,
    missCount := q.ctx.missCount }
  monitor : q.monitor = { r.monitor with
    pattern := q.monitor.pattern, ledPhase := q.monitor.ledPhase, ledSamples := q.monitor.ledSamples,
    sticky := q.monitor.sticky, darkPulse := q.monitor.darkPulse }
  discharge : q.rail.dischargeTimer = r.rail.dischargeTimer
  closed : r.rail.closed = true → q.rail.closed = true

theorem SlotRecord.GrantedFrom.refl (r : SlotRecord) : SlotRecord.GrantedFrom r r :=
  ⟨fun _ => rfl, rfl, rfl, rfl, rfl, rfl, id⟩

theorem SlotRecord.GrantedFrom.trans {a b c : SlotRecord} (h : GrantedFrom a b) (g : GrantedFrom b c) :
    GrantedFrom a c where
  untouched hq := by
    have e := h.untouched hq
    subst e
    exact g.untouched hq
  scan := g.scan.trans h.scan
  detector := g.detector.trans h.detector
  ctx := by rw [g.ctx, h.ctx]
  monitor := by rw [g.monitor, h.monitor]
  discharge := g.discharge.trans h.discharge
  closed hc := g.closed (h.closed hc)

/-- Entering a state changes the state, the miss count and the LED with its alert overlay. -/
theorem SlotRecord.enter_ctx (st : SlotState) (r : SlotRecord) :
    (r.enter st).ctx = { r.ctx with state := st, missCount := (r.enter st).ctx.missCount } := by
  unfold SlotRecord.enter; split <;> rfl

theorem SlotRecord.enter_monitor (st : SlotState) (r : SlotRecord) :
    (r.enter st).monitor = { r.monitor with
      pattern := (r.enter st).monitor.pattern, ledPhase := (r.enter st).monitor.ledPhase,
      ledSamples := (r.enter st).monitor.ledSamples, sticky := (r.enter st).monitor.sticky,
      darkPulse := (r.enter st).monitor.darkPulse } := by
  unfold SlotRecord.enter Monitor.showPattern Monitor.leaveOnline
  split <;> dsimp only <;> split <;> rfl

theorem SlotRecord.grantedFrom_grant (row : ClassRow) (us : Nat) {r : SlotRecord} (h : r.rail.queued = true) :
    GrantedFrom r ((SlotRecord.grant row us r).enter .ramping) where
  untouched hq := by simp [h] at hq
  scan := by simp [SlotRecord.grant]
  detector := by simp [SlotRecord.grant]
  ctx := by rw [SlotRecord.enter_ctx]; rfl
  monitor := by rw [SlotRecord.enter_monitor]; rfl
  discharge := by simp [SlotRecord.grant]
  closed _ := by simp [SlotRecord.grant]

/-- What an evaluation can do: it changes slot records, each as grants do, and last granted, and nothing else. -/
structure State.GrantedFrom (s t : State) : Prop where
  slot : ∀ i, SlotRecord.GrantedFrom (s.slot i) (t.slot i)
  rest : t = { s with slots := t.slots, rail := { s.rail with lastGranted := t.rail.lastGranted } }

theorem State.arbitrate_grantedFrom (s : State) : State.GrantedFrom s s.arbitrate := by
  refine State.arbitrate_induct (P := State.GrantedFrom s) s
    ⟨fun i => SlotRecord.GrantedFrom.refl _, rfl⟩ ?_
  intro t i h hq hf
  refine ⟨fun j => (h.slot j).trans ?_, ?_⟩
  · by_cases e : j = i
    · subst e
      rw [State.slot_grant_self]
      exact SlotRecord.grantedFrom_grant _ _ hq
    · rw [State.slot_grant_ne _ e]
      exact SlotRecord.GrantedFrom.refl _
  · have := h.rest
    rw [State.grant_rest, this]

/-- A slot outside the ramp queue is untouched by an evaluation. -/
theorem State.arbitrate_slot_of_not_queued {s : State} {i : Slot} (h : (s.slot i).rail.queued = false) :
    s.arbitrate.slot i = s.slot i :=
  (s.arbitrate_grantedFrom.slot i).untouched h

theorem State.arbitrateSteps_of_not_fits {s : State} (h : ∀ i, s.grantFits i = false) :
    ∀ n, State.arbitrateSteps n s = s
  | 0 => rfl
  | n + 1 => by
    unfold State.arbitrateSteps
    split
    · rfl
    · simp [h]

/-- While the rack is FROZEN the arbiter makes no grant (R63, R108). -/
theorem State.arbitrate_of_frozen {s : State} (h : s.clock.frozen = true) : s.arbitrate = s :=
  State.arbitrateSteps_of_not_fits (fun i => by simp [State.grantFits, h]) 12

/-- While BROWNOUT is true the arbiter makes no grant (R56, R63). -/
theorem State.arbitrate_of_brownout {s : State} (h : s.rail.brownout = true) : s.arbitrate = s :=
  State.arbitrateSteps_of_not_fits (fun i => by simp [State.grantFits, h]) 12

/-- With no slot in the ramp queue an evaluation does nothing. -/
theorem State.arbitrate_of_empty {s : State} (h : ∀ i, (s.slot i).rail.queued = false) : s.arbitrate = s := by
  have : s.rampOrder = [] := by
    rw [List.eq_nil_iff_forall_not_mem]
    intro i hi
    exact absurd (State.queued_of_mem_rampOrder hi) (by simp [h i])
  show State.arbitrateSteps 12 s = s
  unfold State.arbitrateSteps
  rw [this]

/-! ## The fields that an evaluation leaves -/

@[simp] theorem State.arbitrate_params (s : State) : s.arbitrate.params = s.params := by
  rw [s.arbitrate_grantedFrom.rest]
@[simp] theorem State.arbitrate_lane (s : State) : s.arbitrate.lane = s.lane := by
  rw [s.arbitrate_grantedFrom.rest]
@[simp] theorem State.arbitrate_clock (s : State) : s.arbitrate.clock = s.clock := by
  rw [s.arbitrate_grantedFrom.rest]
@[simp] theorem State.arbitrate_directory (s : State) : s.arbitrate.directory = s.directory := by
  rw [s.arbitrate_grantedFrom.rest]
@[simp] theorem State.arbitrate_imageIn (s : State) : s.arbitrate.imageIn = s.imageIn := by
  rw [s.arbitrate_grantedFrom.rest]
@[simp] theorem State.arbitrate_imageOut (s : State) : s.arbitrate.imageOut = s.imageOut := by
  rw [s.arbitrate_grantedFrom.rest]
@[simp] theorem State.arbitrate_scan (s : State) : s.arbitrate.scan = s.scan := by
  rw [s.arbitrate_grantedFrom.rest]
@[simp] theorem State.arbitrate_link (s : State) : s.arbitrate.link = s.link := by
  rw [s.arbitrate_grantedFrom.rest]
@[simp] theorem State.arbitrate_notices (s : State) : s.arbitrate.notices = s.notices := by
  rw [s.arbitrate_grantedFrom.rest]
@[simp] theorem State.arbitrate_marks (s : State) : s.arbitrate.marks = s.marks := by
  rw [s.arbitrate_grantedFrom.rest]
@[simp] theorem State.arbitrate_safeOff (s : State) : s.arbitrate.safeOff = s.safeOff := by
  rw [s.arbitrate_grantedFrom.rest]
@[simp] theorem State.arbitrate_mode (s : State) : s.arbitrate.mode = s.mode := by
  rw [s.arbitrate_grantedFrom.rest]
@[simp] theorem State.arbitrate_pending (s : State) : s.arbitrate.pending = s.pending := by
  rw [s.arbitrate_grantedFrom.rest]

end Sys2Proof.Machine
end

