-- ==== Sys2Proof/Laws/Memory.lean ====
section
/-! SUPPORT. The laws of the image bytes: every operation keeps the canonical form, and what a read gives after each. Also
the lemma that two canonical memories that read alike are equal. -/

namespace Sys2Proof.Machine

open Sys2Proof

theorem Memory.wf_nil : Memory.wf [] := by simp [Memory.wf]

/-- Every address that a tail of a canonical memory lists lies above its head. -/
theorem Memory.wf_cons {c : Host.Cell} {m : Memory} :
    Memory.wf (c :: m) ↔ (∀ d ∈ m, c.1 < d.1) ∧ c.2 ≠ 0 ∧ Memory.wf m := by
  simp only [Memory.wf, List.pairwise_cons, List.mem_cons, forall_eq_or_imp]
  tauto

/-- A memory whose addresses all lie above `a` reads 0 at `a`. -/
theorem Memory.read_of_lt {m : Memory} {a : Nat} (h : ∀ d ∈ m, a < d.1) : Memory.read m a = 0 := by
  induction m with
  | nil => rfl
  | cons c m ih =>
    have hc := h c (by simp)
    have ne : a ≠ c.1 := by omega
    simp only [Memory.read, ne, if_false]
    exact ih fun d hd => h d (by simp [hd])

/-! ## Writing one byte -/

/-- The addresses after a write are those before and the one written. -/
theorem Memory.mem_write {m : Memory} {a : Nat} {b : Byte} {d : Host.Cell} (h : d ∈ Memory.write m a b) :
    d ∈ m ∨ (d = (a, b) ∧ b ≠ 0) := by
  induction m with
  | nil =>
    rw [Memory.write] at h
    split at h
    · simp at h
    · exact .inr ⟨by simpa using h, by assumption⟩
  | cons c m ih =>
    simp only [Memory.write] at h
    split at h
    · split at h
      · exact .inl h
      · rename_i hb
        rcases List.mem_cons.mp h with rfl | h
        · exact .inr ⟨rfl, hb⟩
        · exact .inl h
    · split at h
      · split at h
        · exact .inl (List.mem_cons_of_mem _ h)
        · rename_i hb
          rcases List.mem_cons.mp h with rfl | h
          · exact .inr ⟨rfl, hb⟩
          · exact .inl (List.mem_cons_of_mem _ h)
      · rcases List.mem_cons.mp h with rfl | h
        · exact .inl (by simp)
        · rcases ih h with h | h
          · exact .inl (List.mem_cons_of_mem _ h)
          · exact .inr h

/-- A write keeps the canonical form. -/
theorem Memory.wf_write {m : Memory} (h : Memory.wf m) (a : Nat) (b : Byte) : Memory.wf (Memory.write m a b) := by
  induction m with
  | nil =>
    rw [Memory.write]
    split
    · exact h
    · exact ⟨by simp, by simpa using ‹¬ b = 0›⟩
  | cons c m ih =>
    obtain ⟨hlt, hc, hm⟩ := Memory.wf_cons.mp h
    simp only [Memory.write]
    split
    · rename_i ha
      split
      · exact h
      · rename_i hb
        refine Memory.wf_cons.mpr ⟨?_, hb, h⟩
        intro d hd
        rcases List.mem_cons.mp hd with rfl | hd
        · exact ha
        · have := hlt d hd
          exact Nat.lt_trans ha this
    · split
      · rename_i ha
        split
        · exact hm
        · rename_i hb
          refine Memory.wf_cons.mpr ⟨fun d hd => ?_, hb, hm⟩
          have := hlt d hd
          show a < d.1
          omega
      · rename_i hna hne
        refine Memory.wf_cons.mpr ⟨fun d hd => ?_, hc, ih hm⟩
        rcases Memory.mem_write hd with hd | ⟨rfl, -⟩
        · exact hlt d hd
        · show c.1 < a
          omega

/-- What a read gives after a write: the byte written at its address, and the byte before elsewhere. -/
theorem Memory.read_write {m : Memory} (h : Memory.wf m) (a : Nat) (b : Byte) (x : Nat) :
    Memory.read (Memory.write m a b) x = if x = a then b else Memory.read m x := by
  induction m with
  | nil =>
    rw [Memory.write]
    split
    · rename_i hb
      simp [Memory.read, hb]
    · rfl
  | cons c m ih =>
    obtain ⟨hlt, hc, hm⟩ := Memory.wf_cons.mp h
    have above : ∀ y, y < c.1 → Memory.read (c :: m) y = 0 := fun y hy =>
      Memory.read_of_lt fun d hd => by
        rcases List.mem_cons.mp hd with rfl | hd
        · exact hy
        · exact Nat.lt_trans hy (hlt d hd)
    simp only [Memory.write]
    split
    · rename_i ha
      split
      · rename_i hb
        subst hb
        split
        · rename_i hx
          subst hx
          exact above _ ha
        · rfl
      · simp only [Memory.read]
    · split
      · rename_i ha
        split
        · rename_i hb
          subst hb
          by_cases hx : x = a
          · rw [if_pos hx]
            exact Memory.read_of_lt fun d hd => by rw [hx, ha]; exact hlt d hd
          · rw [if_neg hx, Memory.read, if_neg (by omega)]
        · by_cases hx : x = a
          · simp [Memory.read, hx]
          · rw [if_neg hx, Memory.read, Memory.read, if_neg hx, if_neg (by omega)]
      · rename_i hna hne
        simp only [Memory.read, ih hm]
        by_cases hx : x = c.1
        · rw [if_pos hx, if_pos hx, if_neg (by omega)]
        · rw [if_neg hx, if_neg hx]

/-! ## Runs of bytes -/

/-- Writing a run keeps the canonical form. -/
theorem Memory.wf_writeBytes (bs : List Byte) : ∀ {m : Memory} (_ : Memory.wf m) (a : Nat),
    Memory.wf (Memory.writeBytes m a bs) := by
  induction bs with
  | nil => intro m h a; exact h
  | cons b bs ih => intro m h a; exact ih (Memory.wf_write h a b) (a + 1)

/-- What a read gives after a run is written: the run's byte inside it, and the byte before elsewhere. -/
theorem Memory.read_writeBytes (bs : List Byte) : ∀ {m : Memory} (_ : Memory.wf m) (a x : Nat),
    Memory.read (Memory.writeBytes m a bs) x
      = if a ≤ x ∧ x < a + bs.length then (bs[x - a]?).getD 0 else Memory.read m x := by
  induction bs with
  | nil =>
    intro m h a x
    rw [if_neg (by simp)]
    rfl
  | cons b bs ih =>
    intro m h a x
    rw [Memory.writeBytes, ih (Memory.wf_write h a b), Memory.read_write h]
    by_cases h1 : a + 1 ≤ x ∧ x < a + 1 + bs.length
    · have hs : x - a = (x - (a + 1)) + 1 := by omega
      rw [if_pos h1, if_pos (by simp only [List.length_cons]; omega), hs, List.getElem?_cons_succ]
    · rw [if_neg h1]
      by_cases h2 : x = a
      · subst h2
        rw [if_pos rfl, if_pos (by simp)]
        simp
      · rw [if_neg h2, if_neg (by simp only [List.length_cons]; omega)]

/-- Zeroing a run keeps the canonical form. -/
theorem Memory.wf_zero {m : Memory} (h : Memory.wf m) (a n : Nat) : Memory.wf (Memory.zero m a n) :=
  ⟨h.1.filter _, fun c hc => h.2 c (List.mem_of_mem_filter hc)⟩

/-- What a read gives after a run is zeroed: 0 inside it, and the byte before elsewhere. -/
theorem Memory.read_zero {m : Memory} (h : Memory.wf m) (a n x : Nat) :
    Memory.read (Memory.zero m a n) x = if a ≤ x ∧ x < a + n then 0 else Memory.read m x := by
  induction m with
  | nil => simp [Memory.zero, Memory.read]
  | cons c m ih =>
    obtain ⟨hlt, -, hm⟩ := Memory.wf_cons.mp h
    have ih := ih hm
    unfold Memory.zero at ih ⊢
    rw [List.filter_cons]
    split
    · rename_i hk
      have hk : c.1 < a ∨ a + n ≤ c.1 := of_decide_eq_true hk
      rw [Memory.read, Memory.read, ih]
      by_cases hx : x = c.1
      · rw [if_pos hx, if_pos hx, if_neg (by omega)]
      · rw [if_neg hx, if_neg hx]
    · rename_i hk
      have hk : ¬ (c.1 < a ∨ a + n ≤ c.1) := fun e => hk (decide_eq_true e)
      rw [ih, Memory.read]
      by_cases hx : x = c.1
      · rw [if_pos (by omega), if_pos (by omega)]
      · rw [if_neg hx]

/-- A run read is its bytes, one by one. -/
theorem Memory.readBytes_eq (m : Memory) (a n : Nat) :
    Memory.readBytes m a n = (List.range n).map fun k => Memory.read m (a + k) := by
  induction n generalizing a with
  | zero => rfl
  | succ n ih =>
    rw [Memory.readBytes, ih, List.range_succ_eq_map, List.map_cons, List.map_map, Nat.add_zero]
    congr 1
    apply List.map_congr_left
    intro k _
    simp only [Function.comp_apply, Nat.succ_eq_add_one]
    congr 1
    omega

@[simp] theorem Memory.length_readBytes (m : Memory) (a n : Nat) : (Memory.readBytes m a n).length = n := by
  simp [Memory.readBytes_eq]

/-- Two canonical memories that read alike are the same list. -/
theorem Memory.ext_read : ∀ {m k : Memory}, Memory.wf m → Memory.wf k →
    (∀ a, Memory.read m a = Memory.read k a) → m = k := by
  intro m
  induction m with
  | nil =>
    intro k _ hk e
    cases k with
    | nil => rfl
    | cons d k =>
      have := e d.1
      simp only [Memory.read, if_true] at this
      exact absurd this.symm (Memory.wf_cons.mp hk).2.1
  | cons c m ih =>
    intro k hm hk e
    obtain ⟨cl, cz, hm'⟩ := Memory.wf_cons.mp hm
    cases k with
    | nil =>
      have := e c.1
      simp only [Memory.read, if_true] at this
      exact absurd this cz
    | cons d k =>
      obtain ⟨dl, dz, hk'⟩ := Memory.wf_cons.mp hk
      have hcd : c.1 = d.1 := by
        rcases Nat.lt_trichotomy c.1 d.1 with h | h | h
        · have ec := e c.1
          rw [Memory.read, if_pos rfl, Memory.read_of_lt (m := d :: k) fun x hx => by
            rcases List.mem_cons.mp hx with rfl | hx
            · exact h
            · exact Nat.lt_trans h (dl x hx)] at ec
          exact absurd ec cz
        · exact h
        · have ed := e d.1
          rw [Memory.read_of_lt (m := c :: m) fun x hx => by
            rcases List.mem_cons.mp hx with rfl | hx
            · exact h
            · exact Nat.lt_trans h (cl x hx), Memory.read, if_pos rfl] at ed
          exact absurd ed.symm dz
      have hv : c.2 = d.2 := by
        have := e c.1
        rwa [Memory.read, if_pos rfl, Memory.read, if_pos hcd] at this
      have tails : m = k := by
        apply ih hm' hk'
        intro a
        by_cases ha : a ≤ c.1
        · rw [Memory.read_of_lt fun x hx => Nat.lt_of_le_of_lt ha (cl x hx),
            Memory.read_of_lt fun x hx => Nat.lt_of_le_of_lt (hcd ▸ ha) (dl x hx)]
        · have := e a
          rwa [Memory.read, if_neg (by omega), Memory.read, if_neg (by omega)] at this
      rw [tails]
      congr 1
      exact Prod.ext hcd hv

/-! ## The images of the part -/

/-- Hard reset's images are canonical (R147). -/
theorem Memory.reset_wf : Memory.wf State.reset.imageIn.mem ∧ Memory.wf State.reset.imageOut.mem :=
  ⟨Memory.wf_nil, Memory.wf_nil⟩

/-- The three operations on a slot's window keep both images canonical. -/
theorem State.imagesCanonical_writeWindow {s : State} (h : Safety.ImagesCanonical s) (i : Slot) (g : ImageId) (o : Nat)
    (bs : List Byte) : Safety.ImagesCanonical (s.writeWindow i g o bs) := by
  unfold State.writeWindow
  split
  · exact h
  · cases g
    · exact ⟨Memory.wf_writeBytes bs h.1 _, h.2⟩
    · exact ⟨h.1, Memory.wf_writeBytes bs h.2 _⟩

theorem State.imagesCanonical_zeroWindow {s : State} (h : Safety.ImagesCanonical s) (i : Slot) (g : ImageId) :
    Safety.ImagesCanonical (s.zeroWindow i g) := by
  unfold State.zeroWindow
  split
  · exact h
  · cases g
    · exact ⟨Memory.wf_zero h.1 _ _, h.2⟩
    · exact ⟨h.1, Memory.wf_zero h.2 _ _⟩

theorem State.imagesCanonical_releaseWindow {s : State} (h : Safety.ImagesCanonical s) (i : Slot) (g : ImageId) :
    Safety.ImagesCanonical (s.releaseWindow i g) := by
  unfold State.releaseWindow
  split
  · exact h
  · cases g <;> exact h

end Sys2Proof.Machine
end

