-- ==== Sys2Proof/Laws/Ops.lean ====
section
/-! SUPPORT. One lemma for each shared operation that says once what it can do: the notice queue, the match references, the
windows, the free lists, the switches and the identify queue; and the frames that an answer and a change of one slot meet. -/

namespace Sys2Proof.Machine

open Sys2Proof Sys2Proof.Safety

/-! ## Operands -/

@[simp] theorem slotOf_byteOf (i : Slot) : slotOf (byteOf i.val) = some i := by revert i; decide

@[simp] theorem indexOf_byteOf (k : EntryIndex) : indexOf (byteOf k.val) = some k := by revert k; decide

theorem slotOf_of_gt {b : Byte} (h : 11 < b.toNat) : slotOf b = none := by
  unfold slotOf
  rw [dif_neg (by omega)]

@[simp] theorem slotOf_ff : slotOf 0xFF = none := by decide

/-! ## Frames -/

theorem onlyLink_answerWith (s : State) (c t : Byte) (st : Status) (b : List Byte) (o : Option Bool) :
    OnlyLink s (s.answerWith c t st b o) := rfl

theorem answers_reply (s : State) (c t : Byte) (st : Status) (b : List Byte) :
    Answers s (s.answerWith c t st b none) c t st b := rfl

theorem onlySlot_modSlot (s : State) (i : Slot) (f : SlotRecord → SlotRecord) : OnlySlot i s (s.modSlot i f) :=
  ⟨fun _ h => State.slot_modSlot_ne s f h, rfl⟩

/-- An answer after a change of one slot meets the frame of both. -/
theorem onlySlotAndLink_modSlot (s : State) (i : Slot) (f : SlotRecord → SlotRecord) (c t : Byte) (st : Status)
    (b : List Byte) (o : Option Bool) : OnlySlotAndLink i s ((s.modSlot i f).answerWith c t st b o) :=
  ⟨fun _ h => State.slot_modSlot_ne s f h, rfl⟩

/-! ## The answer of a request (R180, R183) -/

/-- What taking an answer can do: within an open window that did not start HANDLING, note it and leave the link state and
the reply to the window's end; otherwise make the link HANDLING. -/
theorem Link.take_cases (l : Link) (a : Answer) :
    (∃ start x, l.window = .opened start x ∧ start ≠ .handling
      ∧ l.take a = { l with window := .opened start true, answer := some a })
    ∨ ((∀ start x, l.window = .opened start x → start = .handling)
      ∧ l.take a = { l with state := .handling, answer := some a, reply := none }) := by
  unfold Link.take
  split
  · rename_i x h
    exact .inl ⟨.idle, x, h, by decide, rfl⟩
  · rename_i x h
    exact .inl ⟨.replyReady, x, h, by decide, rfl⟩
  · rename_i h₁ h₂
    refine .inr ⟨fun start x h => ?_, rfl⟩
    cases start
    · exact absurd h (h₁ x)
    · rfl
    · exact absurd h (h₂ x)

@[simp] theorem Link.take_answer (l : Link) (a : Answer) : (l.take a).answer = some a := by
  rcases l.take_cases a with ⟨_, _, -, -, e⟩ | ⟨-, e⟩ <;> rw [e]

@[simp] theorem Link.take_dropped (l : Link) (a : Answer) : (l.take a).dropped = l.dropped := by
  rcases l.take_cases a with ⟨_, _, -, -, e⟩ | ⟨-, e⟩ <;> rw [e]

@[simp] theorem Link.take_sdo (l : Link) (a : Answer) : (l.take a).sdo = l.sdo := by
  rcases l.take_cases a with ⟨_, _, -, -, e⟩ | ⟨-, e⟩ <;> rw [e]

/-! ## The notice queue (R187) -/

/-- An offer leaves the queue as it is, sets OVERFLOW, or adds the notice at the end; and the bound of 24 stands. -/
theorem Notices.offer_cases (q : Notices) (n : Notice) :
    q.offer n = q
    ∨ (24 ≤ q.queue.length ∧ q.offer n = { q with overflow := true })
    ∨ (q.queue.length < 24 ∧ q.offer n = { q with queue := q.queue ++ [n] }) := by
  unfold Notices.offer
  split
  · exact .inl rfl
  · split
    · rename_i h
      exact .inr (.inl ⟨h, rfl⟩)
    · rename_i h
      exact .inr (.inr ⟨Nat.lt_of_not_le h, rfl⟩)

theorem Notices.length_offer {q : Notices} (h : q.queue.length ≤ 24) (n : Notice) : (q.offer n).queue.length ≤ 24 := by
  rcases q.offer_cases n with e | ⟨-, e⟩ | ⟨l, e⟩ <;> rw [e]
  · exact h
  · exact h
  · rw [List.length_append]
    exact l

/-! ## Match references (R113) -/

theorem State.slot_dropMatch (s : State) (i j : Slot) :
    (s.dropMatch i).slot j
      = if j = i then { s.slot i with ctx := { (s.slot i).ctx with matched := none } } else s.slot j := by
  unfold State.dropMatch
  split
  · rename_i h
    have h : (s.slot i).ctx.matched = none := h
    by_cases e : j = i
    · subst e
      rw [if_pos rfl]
      conv_lhs => rw [show s.slot j = { s.slot j with ctx := (s.slot j).ctx } from rfl,
        show (s.slot j).ctx = { (s.slot j).ctx with matched := (s.slot j).ctx.matched } from rfl, h]
    · rw [if_neg e]
  · simp only [State.modCtx_eq, State.slot_modSlot, State.slot_modEntry]

/-- What dropping a match can do: the slot's match goes, and the entry that it named has one user less. -/
theorem State.dropMatch_spec (s : State) (i : Slot) :
    MatchDropped i s (s.dropMatch i) ∧ (s.dropMatch i).directory.ageTimer = s.directory.ageTimer
      ∧ { s.dropMatch i with slots := s.slots, directory := s.directory } = s := by
  refine ⟨⟨?_, ?_⟩, ?_, ?_⟩
  · rw [State.ctx_eq, State.slot_dropMatch, if_pos rfl]
  · intro k
    unfold State.dropMatch
    split
    · rename_i h
      rw [h, if_neg (by simp)]
    · rename_i m h
      rw [h]
      simp only [State.modCtx_eq, State.entry_modSlot]
      by_cases e : k = m
      · subst e
        rw [if_pos rfl, State.entry_modEntry_self]
      · rw [if_neg (by simpa using fun c => e c.symm), State.entry_modEntry_ne _ _ e]
  · unfold State.dropMatch
    split <;> rfl
  · unfold State.dropMatch
    split <;> rfl

/-! ## Extents and windows (R134 to R140) -/

/-- What a carve gives: the start of an extent of the list that is long enough, of which the low end is taken, with the
extents below it as they stood because each is too short. -/
theorem carve_spec : ∀ {need : Nat} {l r : List Extent} {start : Nat}, carve need l = some (start, r) →
    ∃ below x above, l = below ++ x :: above ∧ x.start = start ∧ need ≤ x.length ∧ (∀ y ∈ below, y.length < need)
      ∧ r = below ++ (if x.length = need then above else ⟨x.start + need, x.length - need⟩ :: above) := by
  intro need l
  induction l with
  | nil => intro r start h; simp [carve] at h
  | cons x xs ih =>
    intro r start h
    rw [carve] at h
    split at h
    · rename_i hx
      simp only [Option.some.injEq, Prod.mk.injEq] at h
      exact ⟨[], x, xs, rfl, h.1, hx, by simp, h.2.symm⟩
    · rename_i hx
      rcases hc : carve need xs with _ | ⟨a, q⟩
      · simp [hc] at h
      · simp only [hc, Option.map_some, Option.some.injEq, Prod.mk.injEq] at h
        obtain ⟨rfl, rfl⟩ := h
        obtain ⟨below, y, above, rfl, e, l, m, rfl⟩ := ih hc
        refine ⟨x :: below, y, above, rfl, e, l, ?_, rfl⟩
        intro z hz
        rcases List.mem_cons.mp hz with rfl | hz
        · omega
        · exact m z hz

/-- A carve takes its need from the list's total (R136). -/
theorem carve_total {need start : Nat} {l r : List Extent} (h : carve need l = some (start, r)) :
    (r.map Extent.length).sum + need = (l.map Extent.length).sum := by
  obtain ⟨below, x, above, rfl, -, le, -, rfl⟩ := carve_spec h
  split <;> simp <;> omega

/-- An extent that returns adds its length to the list's total (R140). -/
theorem insertExtent_total (e : Extent) (l : List Extent) :
    ((insertExtent e l).map Extent.length).sum = e.length + (l.map Extent.length).sum := by
  induction l generalizing e with
  | nil => simp [insertExtent]
  | cons x xs ih =>
    unfold insertExtent
    split
    · simp
    · split
      · simp
        omega
      · split
        · rw [ih]
          simp
          omega
        · simp [ih]
          omega

/-- Releasing a window changes the slot's field and the image's free list, and no byte. -/
theorem State.releaseWindow_spec (s : State) (i : Slot) (g : ImageId) :
    (∀ j, j ≠ i → (s.releaseWindow i g).slot j = s.slot j)
      ∧ ((s.releaseWindow i g).image g).mem = (s.image g).mem
      ∧ { s.releaseWindow i g with slots := s.slots, imageIn := s.imageIn, imageOut := s.imageOut } = s := by
  unfold State.releaseWindow
  split
  · exact ⟨fun _ _ => rfl, rfl, rfl⟩
  · refine ⟨fun j h => ?_, ?_, ?_⟩
    · rw [State.modCtx_eq, State.slot_modSlot_ne _ _ h, State.slot_setImage]
    · cases g <;> rfl
    · cases g <;> rfl

/-! ## Switches (R69, R71) -/

/-- What the power step does to its own slot and to slots outside the ramp queue: a closed switch opens, commitments go to
zero and the discharge starts; an open one leaves the state as it is. -/
theorem State.powerStep_spec (s : State) (i : Slot) :
    ((s.slot i).rail.closed = false → s.powerStep i = s)
      ∧ ((s.slot i).rail.closed = true → (s.slot i).rail.queued = false →
          (s.powerStep i).slot i = SlotRecord.openSwitch s.dischargeUs (s.slot i))
      ∧ ∀ j, j ≠ i → (s.slot j).rail.queued = false → (s.powerStep i).slot j = s.slot j := by
  unfold State.powerStep
  refine ⟨fun h => ?_, fun h q => ?_, fun j hj q => ?_⟩
  · rw [State.railOf_eq, h]
    rfl
  · rw [State.railOf_eq, h, if_pos rfl,
      State.arbitrate_slot_of_not_queued (by simp only [State.openSwitch, State.slot_modSlot_self]; exact q)]
    simp only [State.openSwitch, State.slot_modSlot_self]
  · split
    · have e : (s.openSwitch i).slot j = s.slot j := State.slot_modSlot_ne _ _ hj
      rw [State.arbitrate_slot_of_not_queued (by rw [e]; exact q), e]
    · rfl

/-! ## The identify queue (R79, R80) -/

/-- What the test of R80 can do: open a transaction for the head, or nothing. -/
theorem Lane.tryOpen_cases (l : Lane) :
    (∃ i rest, l.queue = i :: rest ∧ l.state = .idle ∧ l.retryGap = none ∧ l.tryOpen = l.openFor i)
    ∨ ((l.queue = [] ∨ l.state ≠ .idle ∨ l.retryGap ≠ none) ∧ l.tryOpen = l) := by
  unfold Lane.tryOpen
  split
  · rename_i h
    exact .inr ⟨.inl h, rfl⟩
  · rename_i i rest h
    split
    · rename_i g
      exact .inl ⟨i, rest, h, g.1, g.2, rfl⟩
    · rename_i g
      refine .inr ⟨?_, rfl⟩
      by_cases e : l.state = .idle
      · exact .inr (.inr fun k => g ⟨e, k⟩)
      · exact .inr (.inl e)

@[simp] theorem Lane.openFor_queue (l : Lane) (i : Slot) : (l.openFor i).queue = l.queue := by
  unfold Lane.openFor
  split <;> rfl

@[simp] theorem Lane.tryOpen_queue (l : Lane) : l.tryOpen.queue = l.queue := by
  rcases l.tryOpen_cases with ⟨i, rest, -, -, -, e⟩ | ⟨-, e⟩ <;> simp [e]

end Sys2Proof.Machine
end

