-- ==== Sys2Proof/Tests/Slice0.lean ====
section
/-! SUPPORT. Tests: the ill-formed commands that WellFormed refuses, the reading of request frames, figures worked out in the
spec, and for every statement of Certificates/Slice0/Obligations.lean that has hypotheses a state and operands that meet
them, clause by clause. -/

set_option maxRecDepth 40000

namespace Sys2Proof.Tests

open Sys2Proof Sys2Proof.Machine Sys2Proof.Safety

/-! ## Well-formedness -/

/-- An id outside the class rows carries one value (R184). -/
theorem test_wf_refuses_a_second_value : (Instr.setParameter 0 0x10 5 (some 6)).wellFormed = false := by decide

/-- A class row carries two values (R57, R184). -/
theorem test_wf_refuses_a_class_row_with_one_value : (Instr.setParameter 0 0x18 5 none).wellFormed = false := by decide

/-- IMAGE WRITE carries at least one data byte (R144). -/
theorem test_wf_refuses_an_empty_write : (Instr.imageWrite 0 1 0 []).wellFormed = false := by decide

/-- IMAGE WRITE carries at most 64 data bytes (R144). -/
theorem test_wf_refuses_a_long_write : (Instr.imageWrite 0 1 0 (List.replicate 65 0)).wellFormed = false := by decide

/-- A message whose length field is 3 carries three bytes (R90). -/
theorem test_wf_refuses_a_short_message : (Instr.cardMessageEnd 2 3 [1, 2] 0).wellFormed = false := by decide

/-- A message whose length field is above 8 ends after it (R90). -/
theorem test_wf_refuses_data_after_a_bad_length : (Instr.cardMessageEnd 2 9 [1] 0).wellFormed = false := by decide

theorem test_wf_takes_the_rest : (Instr.setParameter 0 0x18 5 (some 6)).wellFormed = true
    ∧ (Instr.imageWrite 0 1 0 [7]).wellFormed = true ∧ (Instr.cardMessageEnd 2 9 [] 0).wellFormed = true := by decide

/-! ## Request frames and the CRC (10.8, R189) -/

/-- The table of spec/opcode_table.json gives no bits. -/
theorem test_no_table_word : decodeTableWord 8 0 = none := rfl

theorem test_read_status : Decode.request 0x01 7 [] = .ok (.status 7) := by rfl
theorem test_read_set_parameter :
    Decode.request 0x04 1 [0x10, 0x01, 0x2C] = .ok (.setParameter 1 0x10 300 none) := by rfl
theorem test_read_class_row :
    Decode.request 0x04 1 [0x19, 0, 40, 0, 9] = .ok (.setParameter 1 0x19 40 (some 9)) := by rfl
theorem test_read_image_read :
    Decode.request 0x32 2 [5, 1, 0x01, 0x02, 16] = .ok (.imageRead 2 5 1 0x0102 16) := by rfl
theorem test_read_safe_off : Decode.request 0x43 3 [0x0F, 0xFE] = .ok (.safeOff 3 0x0FFE) := by rfl
theorem test_unknown_code : Decode.request 0x99 3 [] = .error .unknownRequest := by rfl
theorem test_bad_length : Decode.request 0x30 3 [1] = .error .badLength := by rfl

/-- The check value of the nine digits under this CRC's polynomial, initial value and bit order, known from outside. -/
theorem test_crc16 : crc16 [0x31, 0x32, 0x33, 0x34, 0x35, 0x36, 0x37, 0x38, 0x39] = 0x29B1 := by decide

/-! ## Figures worked out in the spec -/

/-- R54: a rail of 21000 mV gives half the default budget. -/
theorem test_effective_at_the_midpoint : effectiveSteady 200 21000 22800 19200 = 100 := by decide

/-- R96: the expected counts at M = 2, D = 3, and the counts that match them. -/
theorem test_expected_counts : expectedCounts 2 3 = ⟨10, 21, 42⟩ ∧ countMatches 1 11 10 = true
    ∧ countMatches 1 43 42 = true ∧ countMatches 1 40 42 = false := by decide

/-- R161: the smallest and the largest scan cost, and B after hard reset. -/
theorem test_scan_figures : State.reset.budget = 1700000 ∧ 4000 + 320 * (512 + 512) = 331680
    ∧ minimumPeriod 3980160 50 = 8000 := by decide

/-- R136, R140: first fit at the low end, and a release that joins both neighbours. -/
theorem test_extents : carve 3 [⟨2, 2⟩, ⟨10, 5⟩] = some (10, [⟨2, 2⟩, ⟨13, 2⟩])
    ∧ insertExtent ⟨4, 6⟩ [⟨2, 2⟩, ⟨10, 5⟩] = [⟨2, 13⟩] := by decide

/-- R62: the ROUND order after last granted = 4. -/
theorem test_round_order : slotsAfter 4 = [5, 6, 7, 8, 9, 10, 11, 0, 1, 2, 3, 4] := by decide

/-! ## States that the witnesses share -/

/-- The part after hard reset with slot 3 changed. -/
def slot3 (f : SlotRecord → SlotRecord) : State := State.reset.modSlot 3 f

/-- Slot 3 in a state. -/
def inState (st : SlotState) : State := slot3 fun r => { r with ctx := { r.ctx with state := st } }

/-- An identity of M = D = 1 with 24 bytes each way, RELEASE_CAPABLE. -/
def card : Identity where
  vendor := 0x1111
  kind := 2
  revision := 0x10
  formatVersion := 1
  serial := 5
  steadyCurrent := 300
  inputBytes := 24
  outputBytes := 24
  clockRatio := 0
  flags := 1
  vendorText := Vector.replicate 12 0x41

/-- Slot 3 powered in a state of its bring-up, with a running qualification timer and a checkpoint due with no edge. -/
def powered (st : SlotState) : State :=
  slot3 fun r =>
    { r with
      ctx := { r.ctx with state := st, contact := .seated, policy := .admitCard, identity := some card, steadyCommitted := 4 }
      rail := ⟨true, some 5, true, false, none, false⟩
      detector := { r.detector with
        run := .running, duty := some .qualify, due := some ⟨.after16, 0⟩, qualTimer := .running 9 } }

/-- Slot 3 ONLINE in the roster with windows of two segments, while the scan runs. -/
def online : State :=
  let s := slot3 fun r =>
    { r with
      ctx := { r.ctx with
        state := .online, contact := .seated, policy := .admitCard, identity := some card
        inWindow := some ⟨0, 2⟩, outWindow := some ⟨0, 2⟩, missCount := some 1, inputQuality := some .none }
      rail := ⟨true, none, true, false, none, false⟩
      scan := ⟨none, some 19360, some false, some .normal, some []⟩ }
  { s with scan := { s.scan with state := .running, period := .running 50 } }

/-- The state of a lane at work. -/
def laneOf (l : Lane) : State := { State.reset with lane := l }

/-- A record that carries the card's identity with its check value. -/
def record : Vector Byte 32 :=
  #v[0x11, 0x11, 0, 2, 0x10, 1, 0, 0, 0, 5, 1, 0x2C, 0, 24, 0, 24, 0, 1,
     0x41, 0x41, 0x41, 0x41, 0x41, 0x41, 0x41, 0x41, 0x41, 0x41, 0x41, 0x41, 192, 159]

/-- A record that checks and is invalid: its format version is 2 (R124). -/
def badRecord : Vector Byte 32 := ((record.set 5 2).set 30 14).set 31 67

/-- The part with one STATIC entry at index 0 that matches the card, and a LEARNED one at index 2. -/
def withEntries : State :=
  let e : Vector Entry 48 := State.reset.directory.entries
  let e := e.set 0 ⟨some ⟨.vendor 0x1111, .admitCard, .static, none, false, some 320⟩, 0⟩
  let e := e.set 2 ⟨some ⟨.kind 0x2222 3, .park, .learned .fresh, none, false, none⟩, 0⟩
  { State.reset with directory := ⟨e, some 60000000⟩ }

/-- The directory with every entry taken, all in use. -/
def fullDirectory : State :=
  { State.reset with
    directory := ⟨Vector.replicate 48 ⟨some ⟨.vendor 7, .deny, .static, none, false, none⟩, 1⟩, none⟩ }

/-- The lane reads slot 3, whose identity transfer is on the lane. -/
def reading : State :=
  let s := withEntries.modSlot 3 fun r =>
    { r with
      ctx := { r.ctx with
        state := .identifying, contact := .seated, policy := .admitCard, inrushClass := some 1, steadyCommitted := 2 }
      rail := ⟨true, none, true, false, none, false⟩ }
  let s := { s with rail := { s.rail with value := 24000, effective := 200 } }
  { s with lane := { Lane.reset with
      state := .partBusy, queue := [3], transaction := some ⟨3, .transfer, false⟩, holdTimer := some 9
      readBegun := true } }

/-- Every timer of slot 3 and of the rack running. -/
def timed : State :=
  let s := powered .qualifying
  let s := s.modSlot 3 fun r => { r with ctx := { r.ctx with settleTimer := some 8 } }
  let s := s.modSlot 4 fun r => { r with detector := { r.detector with qualTimer := .paused 7 } }
  { s with
    scan := { s.scan with period := .running 50 }
    lane := { s.lane with holdTimer := some 9 }
    directory := { s.directory with ageTimer := some 60000000 } }

/-- The link unit in a state of its own. -/
def linked (l : Link) : State := { State.reset with link := l }

/-- A pin, a rail or a clock of the rack in a state of its own. -/
def clocked (c : Clock) : State := { State.reset with clock := c }
def inSafeOff : State := { State.reset with safeOff := true }
def inRun : State := { State.reset with mode := .run }
def scanning (x : ScanState) : State := { State.reset with scan := { State.reset.scan with state := x } }

/-- Slots 3 and 4 in the ramp queue on a full rail. -/
def twoQueued : State :=
  let f := fun r : SlotRecord => { r with
    ctx := { r.ctx with state := .rampWait, inrushClass := some 7, priority := 1 }
    rail := { r.rail with queued := true } }
  let s := (slot3 f).modSlot 4 f
  { s with rail := ⟨24000, 200, false, false, 3⟩ }

/-- The state a command leads to. -/
def after (c : Instr) (s : State) : State :=
  match exec c s with
  | .next t => t
  | _ => State.reset

/-! ## Witnesses, one theorem for each statement that has hypotheses -/

theorem witness_IdleStepPassesOneMicrosecond : timed.pending = []
    ∧ timed.scan.period = .running 50 ∧ timed.clock.watchTimer = some 10 ∧ timed.lane.holdTimer = some 9
    ∧ timed.directory.ageTimer = some 60000000 ∧ (timed.slot 3).ctx.settleTimer = some 8
    ∧ (timed.slot 3).rail.rampTimer = some 5 ∧ (timed.slot 4).detector.qualTimer = .paused 7 := by decide

theorem witness_HardResetRestoresEveryBlock : State.reset.link.window = .closed
    ∧ (linked { Link.reset with window := .opened .handling false }).link.window ≠ .closed := by decide

theorem witness_WindowStartKeepsTheLinkState : (linked { Link.reset with state := .handling }).link.window = .closed := by
  decide

/-- A code that the table does not have, a body of one byte for SCAN START, none for SET MODE, one value for a class row and two
for another id, and a body of 80 bytes. -/
theorem witness_TakenFrameRunsItsRequest_refused :
    (∀ p ∈ requestBodies, p.1 ≠ (0x99 : Byte).toNat) ∧ WrongLength 0x30 [1] ∧ WrongLength 0x40 []
    ∧ WrongLength 0x04 [0x18, 0, 1] ∧ WrongLength 0x04 [0x10, 0, 1, 0, 1] ∧ WrongLength 0x33 [3, 0, 0]
    ∧ WrongLength 0x33 (List.replicate 80 0) ∧ (List.replicate 80 (0 : Byte)).length ≤ 80
    ∧ LinkState.idle ≠ .handling ∧ LinkState.replyReady ≠ .handling := by
  unfold WrongLength
  decide

/-- R181, R183: an unknown request, with a byte after its frame, is taken and answered. -/
theorem test_unknown_request_is_answered :
    (after (.transferWindowEnd (requestFrame 0x99 3 [7] ++ [0x55]))
      (linked { Link.reset with window := .opened .idle false })).link.answer
      = some ⟨0x99, 3, .unknownRequest, [], none⟩ := by decide

theorem witness_TakenFrameRunsItsRequest :
    (Instr.imageWrite 7 3 511 (List.replicate 64 0)).WellFormed
    ∧ (Decode.encode (.imageWrite 7 3 511 [1])).isSome = true
    ∧ (Decode.encode (.status 1)) = some ⟨0x01, 1, []⟩ ∧ (Instr.status 1).WellFormed
    ∧ (linked { Link.reset with window := .opened .idle false }).link.window = .opened .idle false
    ∧ (let s := linked { Link.reset with
          state := .replyReady, window := .opened .replyReady false, reply := some ⟨1, 2, .ok, false, true, []⟩ }
       s.link.window = .opened .replyReady false ∧ LinkState.replyReady ≠ .handling ∧ s.link.state = .replyReady
         ∧ s.link.reply = some ⟨1, 2, .ok, false, true, []⟩)
    ∧ State.reset.link.window = .closed
    ∧ (linked { Link.reset with window := .opened .idle true }).link.window = .opened .idle true
    ∧ (let s := linked { Link.reset with
          state := .replyReady, window := .opened .replyReady true, reply := some ⟨1, 2, .ok, false, true, []⟩ }
       s.link.window = .opened .replyReady true ∧ s.link.reply = some ⟨1, 2, .ok, false, true, []⟩) := by
  refine ⟨?_, ?_, ?_, ?_, ?_, ?_, ?_, ?_, ?_⟩ <;> decide

/-- One SDI for each way a frame is bad: no marker, a length of 81, a frame one byte short, a wrong CRC; and a window of each
start. -/
theorem witness_UntakenFramesChangeOnlyTheLink :
    (([0xD0] : List Byte)[0]?).getD 0 ≠ 0xD1
    ∧ 80 < ((([0xD1, 81] : List Byte)[1]?).getD 0).toNat
    ∧ (let sdi : List Byte := [0xD1, 0, 1, 7, 0]; sdi ≠ [] ∧ sdi.length < 6 + ((sdi[1]?).getD 0).toNat)
    ∧ (let sdi : List Byte := [0xD1, 0, 1, 7, 0, 0]
       sdi.length = 6 + ((sdi[1]?).getD 0).toNat
         ∧ (sdi.drop (4 + ((sdi[1]?).getD 0).toNat)).take 2
            ≠ crcTail ((sdi.drop 1).take (3 + ((sdi[1]?).getD 0).toNat)))
    ∧ (linked { Link.reset with window := .opened .idle false }).link.window = .opened .idle false
    ∧ (let s := linked { Link.reset with state := .replyReady, window := .opened .replyReady false }
       s.link.window = .opened .replyReady false ∧ s.link.state = .replyReady)
    ∧ (linked { Link.reset with window := .opened .handling false }).link.window = .opened .handling false
    ∧ (linked { Link.reset with window := .opened .handling true }).link.window = .opened .handling true := by
  decide

/-- A frame of no body that has just ended in the open window, and one byte less. -/
theorem witness_ReplyIsBuiltWithItsFlags :
    (let s := linked { Link.reset with state := .handling, answer := some ⟨1, 2, .ok, [], none⟩, dropped := true }
     s.link.state = .handling ∧ s.link.answer = some ⟨1, 2, .ok, [], none⟩ ∧ s.link.window ≠ .opened .handling false)
    ∧ (let s := linked { Link.reset with
          state := .handling, answer := some ⟨3, 2, .ok, [], some true⟩, window := .opened .handling false }
       s.link.state = .handling ∧ s.link.answer = some ⟨3, 2, .ok, [], some true⟩
         ∧ s.link.window = .opened .handling false)
    ∧ (let seen : List Byte := [0xD1, 0, 1, 7, 0, 0]; 2 ≤ seen.length ∧ 6 + ((seen[1]?).getD 0).toNat ≤ seen.length)
    ∧ (let seen : List Byte := [0xD1, 0, 1, 7, 0]; seen.length < 6 + ((seen[1]?).getD 0).toNat)
    ∧ ([0xD1] : List Byte).length < 2 := by decide

theorem witness_RequestReadingAndWritingAgree : (Instr.safeOff 7 4095).WellFormed
    ∧ Decode.encode (.safeOff 7 4095) = some ⟨0x43, 7, [0x0F, 0xFF]⟩
    ∧ Decode.request 0x43 7 [0x0F, 0xFF] = .ok (.safeOff 7 4095) := by
  refine ⟨?_, ?_, ?_⟩ <;> decide

theorem witness_IdentityRecordIsReadBack :
    record.toList.take 30 = card.bytes ∧ record.toList.drop 30 = crcTail card.bytes := by decide

theorem witness_QueriesAreAnsweredInEveryState : 11 < (12 : Byte).toNat ∧ (paramOf 0x50).isSome = true := by decide

theorem witness_ReportBodiesHaveTheirLayout :
    (online.ctx 3).identity = some card ∧ (State.reset.ctx 3).identity = none ∧ (State.reset.mon 3).locate = none
    ∧ ((slot3 fun r => { r with monitor := { r.monitor with locate := some ⟨0, 0, 0⟩ } }).mon 3).locate = some ⟨0, 0, 0⟩
    ∧ State.reset.imageIn.free[0]? = some ⟨0, 128⟩ ∧ State.reset.imageOut.free[0]? = some ⟨0, 128⟩ := by decide

theorem witness_FetchNoticesRemovesTheOldest :
    (1 ≤ (1 : Byte).toNat ∧ (1 : Byte).toNat ≤ 8) ∧ (1 ≤ (8 : Byte).toNat ∧ (8 : Byte).toNat ≤ 8)
    ∧ (0 : Byte).toNat = 0 ∧ 8 < (9 : Byte).toNat := by decide

/-- The boundary values of the ranges and of the two rail thresholds, and a ramp queue whose head must wait. -/
theorem witness_RangedParametersAreClamped :
    (0x21, ParamId.qualRun, 1, 15) ∈ rangedParameters ∧ State.reset.safeOff = false
    ∧ ParamId.qualTimeout ≠ ParamId.qualRun
    ∧ (max 10000 (min 30000 (19200 : HWord).toNat) ≤ State.reset.params.railFloorMv
        ∧ State.reset.params.railFloorMv < max 10000 (min 30000 (19201 : HWord).toNat))
    ∧ (State.reset.params.railFullMv ≤ max 10000 (min 30000 (22800 : HWord).toNat)
        ∧ max 10000 (min 30000 (22799 : HWord).toNat) < State.reset.params.railFullMv)
    ∧ 1 < (2 : HWord).toNat ∧ (1 : HWord).toNat ≤ 1
    ∧ (after (.setParameter 0 0x13 1 none) { twoQueued with rail := ⟨0, 0, true, true, 3⟩ }).rampOrder = 4 :: [3]
    ∧ (∀ i, (State.reset.railOf i).queued = false) ∧ (twoQueued.railOf 3).queued = true := by
  refine ⟨?_, ?_, ?_, ?_, ?_, ?_, ?_, ?_, ?_, ?_⟩ <;> decide

/-- Slots 3 and 4 wait in the ramp queue, of class 6 and 7, on a rail that carries neither. -/
def twoWaiting : State :=
  let f := fun (c : InrushClass) (r : SlotRecord) => { r with
    ctx := { r.ctx with state := .rampWait, contact := .seated, policy := .hold, inrushClass := some c }
    rail := { r.rail with queued := true } }
  (slot3 (f 6)).modSlot 4 (f 7)

/-- A rail threshold is taken in BROWNOUT, which grants no head. -/
theorem witness_RangedParameters_thresholds :
    (after (.setParameter 0 0x16 23000 none) { twoWaiting with rail := ⟨0, 0, true, true, 3⟩ }).rampOrder = 3 :: [4]
    ∧ (after (.setParameter 0 0x17 19000 none) { twoWaiting with rail := ⟨0, 0, true, true, 3⟩ }).rampOrder = 3 :: [4] := by
  decide

/-- R61: a class row raised above INRUSH_BUDGET refuses the queued slot of its class, and no other. -/
theorem test_class_row_recheck : let t := after (.setParameter 0 0x1E 200 (some 24)) twoWaiting
    (t.ctx 3).state = .refused ∧ (t.ctx 3).verdict = some .noPower ∧ (t.ctx 4).state = .rampWait
      ∧ t.notices.queue.map Notice.kind = [.started, .refused, .withdrawn] := by decide

theorem witness_RangedParameters_recheck :
    (∀ i, (twoWaiting.railOf i).queued = true → WaitsForRamp i twoWaiting)
    ∧ 3 ∈ nowRefused (after (.setParameter 0 0x1E 200 (some 24)) twoWaiting).params twoWaiting
    ∧ (after (.setParameter 0 0x1E 200 (some 24)) twoWaiting).rampOrder = 4 :: [] := by
  unfold WaitsForRamp
  decide

/-- Room for the period, no room for it, figures below what is in use, and a queued card whose class a new budget cannot
carry. -/
theorem witness_FiguresInUseAreNotLowered :
    (250 % 50 = 0 ∧ 19360 ≤ 250 * 10 * 50)
    ∧ (let s := online
       s.safeOff = false ∧ s.load = 19360 ∧ s.load ≤ max 250 (min 20000 299) / 50 * 50 * 10 * s.params.fillPercent
         ∧ s.load ≤ s.params.cyclePeriod * 10 * max 50 (min 95 0) ∧ s.ci ≤ min 0 1023 ∧ s.cs ≤ min 0 1023)
    ∧ (let s := slot3 fun r => { r with scan := ⟨none, some 331680, some false, none, none⟩ }
       s.safeOff = false ∧ max 250 (min 20000 0) / 50 * 50 * 10 * s.params.fillPercent < s.load)
    ∧ (let s := slot3 fun r => { r with scan := ⟨none, some 1331680, some false, none, none⟩ }
       s.params.cyclePeriod * 10 * max 50 (min 95 49) < s.load)
    ∧ (let s := slot3 fun r => { r with ctx := { r.ctx with
          state := .ramping, inrushCommitted := 8, steadyCommitted := 2 } }
       min 7 1023 < s.ci ∧ min 1 1023 < s.cs)
    ∧ (let f := fun r : SlotRecord => { r with ctx := { r.ctx with state := .ramping } }
       max 1 (min 4 1) < ((slot3 f).modSlot 4 f).rampingCount ∧ ((slot3 f).modSlot 4 f).rampingCount ≤ max 1 (min 4 2))
    ∧ (let s := slot3 fun r => { r with
          ctx := { r.ctx with state := .rampWait, contact := .seated, policy := .hold, inrushClass := some 7 }
          rail := { r.rail with queued := true } }
       s.ci ≤ min 95 1023 ∧ s.cs ≤ min 31 1023 ∧ (s.railOf 3).queued = true ∧ (s.ctx 3).state = .rampWait
         ∧ (s.railOf 3).closed = false ∧ (s.railOf 3).dischargeTimer = none ∧ s.inRoster 3 = false
         ∧ (s.ctx 3).policy ≠ .off ∧ (s.ctx 3).contact = .seated
         ∧ min 95 1023 < s.params.classTable[(s.ctx 3).inrushClass.getD 0].inrush
         ∧ min 31 1023 < s.params.classTable[(s.ctx 3).inrushClass.getD 0].provisional)
    ∧ (∀ i, (online.railOf i).queued = false)
    ∧ { twoQueued with rail := ⟨0, 0, true, true, 3⟩ }.rampOrder = 3 :: [4] := by decide

theorem witness_EffectiveSteadyFollowsTheRail :
    19200 < 22800 ∧ 22800 ≤ 22800 ∧ 19200 ≤ 19200 ∧ (19200 < 19201 ∧ 19201 < 22800) ∧ 19201 ≤ 19202 := by decide

theorem witness_RestartRebuildsEveryBlock : online.safeOff = false := by decide

theorem witness_SlotPolicyIsWritten :
    policyFieldsOf 2 3 1 3 1 = some ⟨.admitCard, 3, .zero, .rise, true⟩
    ∧ policyFieldsOf 0 0 0 0 0 = some ⟨.off, 0, .hold, .level, false⟩
    ∧ (State.reset.safeOff = false ∧ (State.reset.railOf 3).queued = false
        ∧ (State.reset.ctx 3).state = .disabled ∧ (State.reset.ctx 3).contact ≠ .seated)
    ∧ (let s := slot3 fun r => { r with ctx := { r.ctx with contact := .seated } }
       (s.ctx 3).state = .disabled ∧ (s.ctx 3).contact = .seated)
    ∧ (online.ctx 3).state ≠ .disabled ∧ (online.railOf 3).queued = false
    ∧ ((inState .vacant).ctx 3).state = .vacant ∧ ((inState .settling).ctx 3).state = .settling
    ∧ ((inState .refused).ctx 3).state = .refused ∧ ((inState .quarantined).ctx 3).state = .quarantined
    ∧ ((inState .withdrawing).ctx 3).state = .withdrawing := by decide

theorem witness_ReleaseAndRetryResumeTheBringUp :
    (powered .parked).safeOff = false ∧ ((powered .parked).ctx 3).state = .parked
    ∧ (powered .parked).clock.refLost = false
    ∧ (let s := { powered .parked with clock := ⟨true, true, none, none⟩ }
       (s.ctx 3).state = .parked ∧ s.clock.refLost = true)
    ∧ ((inState .refused).ctx 3).state = .refused ∧ ((inState .quarantined).ctx 3).state = .quarantined
    ∧ (online.ctx 3).state ≠ .parked ∧ (online.ctx 3).state ≠ .refused ∧ (online.ctx 3).state ≠ .quarantined := by
  decide

theorem powered_bring_up (st : SlotState) (h : st = .ramping ∨ st = .parked ∨ st = .qualifying) :
    PoweredBringUp 3 (powered st) := by
  unfold PoweredBringUp
  rcases h with rfl | rfl | rfl <;> decide

/-- Slot 3 in a state of its bring-up with its switch open. -/
def unpowered (st : SlotState) : State := (powered st).modRail 3 fun r => { r with closed := false, rampTimer := none }

/-- Slot 3's card is being read: it is the head of the identify queue, with slot 4 behind it. -/
def headRead (p : LanePhase) (tries lost : Nat) : State :=
  { powered .identifying with lane := { Lane.reset with
      state := .partBusy, queue := [3, 4], transaction := some ⟨3, p, false⟩, tries := tries, lost := lost
      checkUsed := true, readBegun := true } }

theorem witness_WithdrawalsPowerTheCardDown :
    ((powered .parked).safeOff = false ∧ PoweredBringUp 3 (powered .parked) ∧ ((powered .parked).ctx 3).state = .parked)
    ∧ ((powered .qualifying).safeOff = false ∧ PoweredBringUp 3 (powered .qualifying)
        ∧ ((powered .qualifying).ctx 3).state = .qualifying)
    ∧ PoweredBringUp 3 (powered .ramping)
    ∧ (InBringUp 3 (powered .spliceWait) ∧ ((powered .spliceWait).ctx 3).state = .spliceWait
        ∧ ((powered .spliceWait).railOf 3).closed = true ∧ ((powered .spliceWait).railOf 3).queued = false)
    ∧ (let s := headRead .start 1 0
       InBringUp 3 s ∧ (s.ctx 3).state = .identifying ∧ s.lane.queue = 3 :: [4] ∧ s.lane.queue.Nodup
         ∧ s.lane.state = .partBusy ∧ s.lane.transaction = some ⟨3, .start, false⟩)
    ∧ policyFieldsOf 0 3 1 3 1 = some ⟨.off, 3, .zero, .rise, true⟩ ∧ (State.reset.ctx 3).state ≠ .parked
    ∧ (∀ st ∈ [SlotState.settling, .rampWait, .parked],
        InBringUp 3 (unpowered st) ∧ ((unpowered st).ctx 3).state = st ∧ ((unpowered st).railOf 3).closed = false
          ∧ ((unpowered st).railOf 3).dischargeTimer = none ∧ ((unpowered st).railOf 3).queued = false) := by
  unfold PoweredBringUp InBringUp
  decide

theorem witness_WithdrawFromTheRosterWaitsForTheScan :
    (online.safeOff = false ∧ (online.ctx 3).state = .online ∧ online.inRoster 3 = true
        ∧ online.scan.state = .running ∧ (online.ctx 3).identity.any Identity.releaseCapable = true)
    ∧ (let s := online.modCtx 3 fun c => { c with identity := some { card with flags := 0 } }
       (s.ctx 3).identity.any Identity.releaseCapable = false ∧ (s.ctx 3).state = .online ∧ s.inRoster 3 = true)
    ∧ (let s := { online with scan := Scan.reset }
       OnlineInRoster 3 s ∧ s.scan.state = .stopped ∧ s.safeOff = false)
    ∧ ((inState .withdrawing).ctx 3).state = .withdrawing ∧ ((inState .vacant).ctx 3).state = .vacant
    ∧ ((inState .disabled).ctx 3).state = .disabled ∧ ((inState .refused).ctx 3).state = .refused
    ∧ ((inState .quarantined).ctx 3).state = .quarantined := by
  unfold OnlineInRoster
  decide

theorem witness_IndicatorLayersFollowTheirRules :
    State.reset.safeOff = false ∧ 0 < (1 : Byte).toNat ∧ (60 : Byte).toNat ≤ 60 ∧ ¬ (61 : Byte).toNat ≤ 60
    ∧ (let s := slot3 fun r => { r with monitor := { r.monitor with
          pattern := .double, ledPhase := 3, ledSamples := 2800, locate := some ⟨5, 16, 4000⟩ } }
       (s.mon 3).pattern.phases[(s.mon 3).ledPhase]? = some (false, 2800) ∧ 2800 ≤ (s.mon 3).ledSamples
         ∧ (s.mon 3).locate = some ⟨5, 16, 4000⟩ ∧ (locatePhases[16]?).isSome = true
         ∧ ((locatePhases[16]?).map fun x => decide (x.2 ≤ 4000)) = some true)
    ∧ (let s := slot3 fun r => { r with monitor := { r.monitor with pattern := .fast, darkPulse := some 0 } }
       (s.mon 3).locate = none ∧ (s.mon 3).darkPulse ≠ none)
    ∧ (let s := slot3 fun r => { r with monitor := { r.monitor with pattern := .steady } }
       (s.mon 3).locate = none ∧ (s.mon 3).darkPulse = none ∧ (s.mon 3).pattern = .steady)
    ∧ (State.reset.mon 3).pattern = .off := by decide

theorem witness_AckAlertClearsTheStickyFlag :
    (let s := online.modMon 3 fun m => { m with sticky := true, lastAlert := .low, alertNotices := true }
     s.safeOff = false ∧ (s.mon 3).sticky = true ∧ (s.mon 3).triggerMode = .level ∧ (s.mon 3).lastAlert = .low)
    ∧ (let s := online.modMon 3 fun m => { m with sticky := true, triggerMode := .fall }
       (s.mon 3).sticky = true ∧ (s.mon 3).triggerMode ≠ .level ∧ (s.mon 3).lastAlert = .high)
    ∧ (online.mon 3).sticky = false := by decide

theorem witness_ClearFaultClearsMarks :
    (let s := slot3 fun r => { r with ctx := { r.ctx with faultRecord := ⟨some .lockLost, false, true⟩ } }
     s.safeOff = false ∧ (s.ctx 3).faultRecord.cause ≠ none)
    ∧ (State.reset.ctx 3).faultRecord.cause = none := by decide

/-- The body of a VENDOR entry, as a request carries it. -/
def vendorEntry (v : HWord) : EntryBytes := ⟨3, v, 0, 0, 0, 0, 0, 0, 0xFF, 0, 0xFFFF, 0⟩

theorem witness_DirectoryAddTakesTheLowestFreeEntry :
    entryBodyOf (vendorEntry 9) = some ⟨.vendor 9, .admitCard, .static, none, false, none⟩
    ∧ entryBodyOf (vendorEntry 0x1111) = some ⟨.vendor 0x1111, .admitCard, .static, none, false, none⟩
    ∧ withEntries.safeOff = false ∧ withEntries.mode = .commission ∧ inRun.mode = .run
    ∧ (withEntries.entry 0).body = some ⟨.vendor 0x1111, .admitCard, .static, none, false, some 320⟩
    ∧ (∀ j : EntryIndex, j < 0 → (withEntries.entry j).body.map EntryBody.key ≠ some (.vendor 0x1111))
    ∧ (∀ k, (withEntries.entry k).body.map EntryBody.key ≠ some (.vendor 9))
    ∧ (withEntries.entry 1).body = none ∧ (∀ j : EntryIndex, j < 1 → (withEntries.entry j).body ≠ none)
    ∧ (∀ k, (fullDirectory.entry k).body.map EntryBody.key ≠ some (.vendor 9))
    ∧ (∀ k, (fullDirectory.entry k).body ≠ none) ∧ fullDirectory.mode = .commission := by decide

theorem witness_DirectoryDeleteAndKeepFollowTheirTests :
    withEntries.safeOff = false ∧ withEntries.mode = .commission ∧ (withEntries.entry 1).body = none
    ∧ (withEntries.entry 0).body.map EntryBody.origin = some .static ∧ (withEntries.entry 0).users = 0
    ∧ (withEntries.entry 2).body.map EntryBody.origin = some (.learned .fresh)
    ∧ ({ fullDirectory with mode := .run }.entry 47).body.map EntryBody.origin = some .static
    ∧ { fullDirectory with mode := .run }.mode = .run
    ∧ fullDirectory.mode = .commission ∧ 0 < (fullDirectory.entry 47).users := by decide

theorem witness_DirectoryReadAndFindChangeNothing :
    withEntries.safeOff = false ∧ entryKeyOf (vendorEntry 0x1111) = some (.vendor 0x1111)
    ∧ (withEntries.entry 0).body.map EntryBody.key = some (.vendor 0x1111)
    ∧ (∀ j : EntryIndex, j < 0 → (withEntries.entry j).body.map EntryBody.key ≠ some (.vendor 0x1111))
    ∧ (∀ j, (State.reset.entry j).body.map EntryBody.key ≠ some (.vendor 0x1111))
    ∧ entryKeyOf { vendorEntry 1 with typeCode := 5 } = none := by decide

/-- An expiring entry, one in use and one SEEN, and a running age interval timer. -/
theorem witness_AgeingSweepsTheLearnedEntries :
    withEntries.safeOff = false ∧ withEntries.directory.ageTimer ≠ none ∧ Expires (withEntries.entry 2) = true := by
  decide

theorem witness_ImageAccessReachesTheWindowOnly :
    online.safeOff = false ∧ (online.ctx 3).identity = some card ∧ (online.ctx 3).state = .online
    ∧ (online.ctx 3).window .input = some ⟨0, 2⟩ ∧ (online.ctx 3).outWindow = some ⟨0, 2⟩
    ∧ 1 ≤ (24 : Byte).toNat ∧ (24 : Byte).toNat ≤ 64 ∧ (0 : HWord).toNat + (24 : Byte).toNat ≤ card.declared .input
    ∧ card.declared .input < (1 : HWord).toNat + (24 : Byte).toNat ∧ (511 : HWord).toNat ≤ 511
    ∧ (23 : HWord).toNat + ([7] : List Byte).length ≤ card.outputBytes.toNat ∧ ImagesCanonical online
    ∧ card.outputBytes.toNat < (24 : HWord).toNat + ([7] : List Byte).length
    ∧ ((State.reset.ctx 3).window .input = none ∧ (State.reset.ctx 3).outWindow = none)
    ∧ (let s := online.modCtx 3 fun c => { c with state := .spliceWait }
       (s.ctx 3).state ≠ .online ∧ (s.ctx 3).state ≠ .withdrawing)
    ∧ ((online.modCtx 3 fun c => { c with state := .withdrawing }).ctx 3).state = .withdrawing := by
  unfold ImagesCanonical
  decide

theorem witness_SetModeFollowsItsTable :
    1 < (2 : Byte).toNat ∧ (1 : Byte).toNat ≤ 1 ∧ inSafeOff.safeOff = true ∧ State.reset.safeOff = false
    ∧ (0 : Byte) = State.reset.mode.code ∧ State.reset.mode = .commission
    ∧ inRun.mode = .run ∧ inRun.scan.state = .stopped
    ∧ { inRun with scan := { inRun.scan with state := .stopping } }.scan.state ≠ .stopped := by decide

/-- A FROZEN rack whose STOPPED scan holds a JOIN. -/
def heldJoin : State :=
  let s := slot3 fun r => { r with
    ctx := { r.ctx with state := .spliceWait, identity := some card }
    scan := ⟨some .join, some 19360, none, none, none⟩ }
  { s with clock := ⟨false, true, some 5, none⟩ }

theorem witness_FreezeHoldsAndThawReleases :
    State.reset.safeOff = false ∧ State.reset.clock.frozen = false ∧ State.reset.clock.refLost = false
    ∧ (clocked ⟨true, true, none, none⟩).clock.refLost = true ∧ (clocked ⟨true, true, none, none⟩).clock.frozen = true
    ∧ (let s := clocked ⟨false, true, some 5, none⟩
       s.clock.refLost = false ∧ s.clock.frozen = true ∧ (∀ i, (s.railOf i).queued = false)
         ∧ (∀ i, (s.scanOf i).splice ≠ some .join) ∧ (s.scanOf 3).splice ≠ some .join)
    ∧ (heldJoin.safeOff = false ∧ heldJoin.clock.refLost = false ∧ heldJoin.clock.frozen = true
        ∧ heldJoin.scan.state = .stopped ∧ (heldJoin.railOf 3).queued = false
        ∧ (heldJoin.scanOf 3).splice = some .join) := by decide

theorem witness_HonouredSafeOffQuietsTheRack :
    (let s := { powered .qualifying with clock := ⟨true, true, none, none⟩ }
     s.safeOff = false ∧ s.clock.refLost = true ∧ (8 : HWord).toNat = maskOf s.closedSwitches
       ∧ (8 : HWord).toNat < 4096 ∧ (4095 : HWord).toNat ≠ maskOf s.closedSwitches ∧ (4095 : HWord).toNat < 4096)
    ∧ (powered .qualifying).clock.refLost = false ∧ 4096 ≤ (4096 : HWord).toNat := by decide

theorem witness_SafeOffRefusesEveryOtherRequest :
    (Instr.scanStart 7).WellFormed ∧ Decode.encode (.scanStart 7) = some ⟨0x30, 7, []⟩
    ∧ isQuery (.scanStart 7) = false ∧ inSafeOff.safeOff = true
    ∧ refusedBeforeSafeOff (.safeOff 7 4096) = some .badValue ∧ (Instr.safeOff 7 4096).WellFormed := by
  refine ⟨?_, ?_, ?_, ?_, ?_, ?_⟩ <;> decide

theorem witness_RefusedRequestsChangeNothing : Decode.encode (.release 7 12) = some ⟨0x11, 7, [12]⟩
    ∧ 0x10 ≤ Status.badSlot.code.toNat
    ∧ (Instr.release 7 12).WellFormed ∧ refusedBeforeSafeOff (.release 7 12) = some .badSlot
    ∧ (Instr.directoryRead 7 48).WellFormed ∧ State.reset.safeOff = false
    ∧ carriesBadValue (.directoryRead 7 48) = true
    ∧ Decode.encode (.directoryRead 7 48) = some ⟨0x22, 7, [48]⟩ := by
  refine ⟨?_, ?_, ?_, ?_, ?_, ?_, ?_, ?_⟩ <;> decide

/-- A slot whose run of SEATED, or of a state away from SEATED, one sample short of its bound. -/
def sampled (st : SlotState) (now candidate : ContactState) (run : Nat) : State :=
  (powered st).modSlot 3 fun r => { r with
    monitor := { r.monitor with contact := now, candidate := some candidate, run := run }
    ctx := { r.ctx with contact := now } }

theorem witness_SamplesAreDebounced :
    (let s := sampled .vacant .partway .seated 7
     rawContact .made .made ≠ (s.mon 3).contact ∧ (s.mon 3).candidate = some (rawContact .made .made)
       ∧ (s.mon 3).contact.rank < (rawContact .made .made).rank ∧ s.params.makeFilter ≤ (s.mon 3).run + 1)
    ∧ (let s := sampled .vacant .seated .opened 1
       rawContact .broken .made ≠ (s.mon 3).contact ∧ ¬ (s.mon 3).contact.rank < (rawContact .broken .made).rank
         ∧ 2 ≤ (s.mon 3).run + 1)
    ∧ (let s := sampled .vacant .partway .seated 6
       rawContact .made .made ≠ (s.mon 3).contact ∧ (s.mon 3).run + 1 < s.params.makeFilter)
    ∧ rawContact .made .made = ((sampled .vacant .seated .opened 1).mon 3).contact := by decide

theorem witness_AlertsSetTheStickyFlag :
    (let s := online.modMon 3 fun m => { m with contact := .seated }
     rawContact .made .made = (s.mon 3).contact ∧ (s.ctx 3).state = .online ∧ (s.mon 3).sticky = false
       ∧ (s.mon 3).triggerMode = .level)
    ∧ (State.reset.ctx 3).state ≠ .online ∧ rawContact .broken .made = (State.reset.mon 3).contact := by decide

theorem witness_ContactChangesReachTheSequencer :
    (let s := sampled .vacant .opened .seated 7
     rawContact .made .made ≠ (s.mon 3).contact ∧ rawContact .made .made = .seated
       ∧ s.params.makeFilter ≤ runAfter 3 (rawContact .made .made) s ∧ (s.ctx 3).state = .vacant
       ∧ s.safeOff = false ∧ (s.mon 3).pattern ≠ .slow)
    ∧ (let s := { inState .vacant with params := { State.reset.params with makeFilter := 1 } }
       (s.mon 3).candidate = none ∧ s.params.makeFilter ≤ runAfter 3 .seated s ∧ (s.mon 3).contact ≠ .seated)
    ∧ (let s := sampled .withdrawing .partway .seated 7
       rawContact .made .made ≠ (s.mon 3).contact ∧ s.params.makeFilter ≤ runAfter 3 (rawContact .made .made) s
         ∧ (s.ctx 3).state = .withdrawing)
    ∧ (let s := sampled .settling .seated .partway 1
       rawContact .made .broken ≠ (s.mon 3).contact ∧ (s.mon 3).contact = .seated
         ∧ 2 ≤ runAfter 3 (rawContact .made .broken) s ∧ (s.ctx 3).state = .settling)
    ∧ (∀ st ∈ [SlotState.qualifying, .spliceWait, .identifying, .withdrawing],
        let s := sampled st .seated .opened 1
        (s.mon 3).contact = .seated ∧ 2 ≤ runAfter 3 (rawContact .broken .broken) s
          ∧ (s.ctx 3).state = st ∧ (s.railOf 3).closed = true ∧ (s.railOf 3).queued = false)
    ∧ PoweredBringUp 3 (sampled .qualifying .seated .opened 1) ∧ InBringUp 3 (sampled .spliceWait .seated .opened 1)
    ∧ (let s := (sampled .qualifying .seated .opened 1).modRail 3 fun r => { r with closed := false }
       InBringUp 3 s ∧ (s.ctx 3).state ≠ .settling ∧ (s.railOf 3).closed = false ∧ (s.railOf 3).dischargeTimer = none)
    ∧ (let s := online.modMon 3 fun m => { m with contact := .seated, candidate := some .opened, run := 1 }
       2 ≤ runAfter 3 (rawContact .broken .broken) s ∧ (s.ctx 3).state = .online ∧ s.inRoster 3 = true
         ∧ (s.railOf 3).queued = false ∧ s.scan.state ≠ .stopped ∧ (s.railOf 3).closed = true
         ∧ { s with scan := Scan.reset }.scan.state = .stopped)
    ∧ (let s := sampled .disabled .partway .opened 1
       2 ≤ runAfter 3 (rawContact .broken .broken) s ∧ (s.ctx 3).state = .disabled
         ∧ ¬ (s.mon 3).contact.rank < (rawContact .broken .broken).rank)
    ∧ (let s := (sampled .withdrawing .seated .opened 1).modRail 3 fun r => { r with closed := false }
       (s.ctx 3).state = .withdrawing ∧ (s.railOf 3).closed = false) := by
  unfold PoweredBringUp InBringUp
  decide

/-- Slot 3 at the end of its settling. -/
def settled (c : InrushClass) : State :=
  let s := slot3 fun r => { r with ctx := { r.ctx with
    state := .settling, contact := .seated, policy := .admitCard, inrushClass := some c, settleTimer := some 0 } }
  { s with rail := { s.rail with value := 24000, effective := 200 } }

theorem witness_SettleExpiryOffersThePower :
    (let s := settled 0
     (s.ctx 3).state = .settling ∧ (s.ctx 3).settleTimer = some 0 ∧ (s.ctx 3).inrushClass = some 0
       ∧ (s.railOf 3).queued = false ∧ (s.railOf 3).dischargeTimer = none ∧ (s.railOf 3).closed = false
       ∧ s.inRoster 3 = false ∧ s.lane.queue = [] ∧ s.lane.state = .idle ∧ s.lane.retryGap = none
       ∧ s.lane.readBegun = false)
    ∧ (let s := settled 7
       let t := { s with params := { s.params with inrushBudget := 95 } }
       (t.ctx 3).inrushClass = some 7 ∧ t.params.inrushBudget < t.params.classTable[7].inrush
         ∧ (t.ctx 3).policy ≠ .off ∧ (t.ctx 3).contact = .seated)
    ∧ (let s := settled 7
       (s.ctx 3).inrushClass = some 7 ∧ s.params.classTable[7].inrush ≤ s.params.inrushBudget
         ∧ s.params.classTable[7].provisional ≤ s.params.steadyBudget ∧ s.clock.frozen = false
         ∧ (∀ j, (s.railOf j).queued = false) ∧ (s.ctx 3).priority ≤ 3 ∧ s.rail.brownout = false
         ∧ s.rampingCount < s.params.rampLimit ∧ s.ci + s.params.classTable[7].inrush ≤ s.params.inrushBudget
         ∧ s.cs + s.params.classTable[7].provisional ≤ s.rail.effective)
    ∧ { settled 7 with clock := ⟨false, true, some 5, none⟩ }.clock.frozen = true := by decide

theorem witness_RailSampleSetsTheBudget :
    State.reset.rail.sag = false ∧ min 22799 32000 < State.reset.params.railFullMv
    ∧ State.reset.params.railFullMv ≤ min 22800 32000
    ∧ (let s := { State.reset with rail := ⟨22000, 155, true, false, 11⟩ }
       s.rail.sag = true ∧ s.params.railFullMv + 200 ≤ min 23000 32000 ∧ min 22999 32000 < s.params.railFullMv + 200
         ∧ s.rail.brownout = false) := by decide

theorem witness_ArbiterServesOnlyTheHead :
    twoQueued.params.arbiterMode = .fixed ∧ (∀ i, (twoQueued.ctx i).priority ≤ 3)
    ∧ twoQueued.rampOrder = 3 :: [4] ∧ MayBeGranted 3 twoQueued ∧ (twoQueued.railOf 4).queued = true
    ∧ twoQueued.arbitrate.rampOrder = 4 :: [] ∧ (twoQueued.railOf 5).queued = false
    ∧ (let s := { twoQueued with rail := ⟨0, 0, true, true, 3⟩ }
       s.rail.brownout = true ∧ s.rampOrder = 3 :: [4] ∧ ¬ MayBeGranted 3 s)
    ∧ (let s := { twoQueued with params := { twoQueued.params with arbiterMode := .round } }
       s.params.arbiterMode = .round ∧ s.rampOrder = [4, 3])
    ∧ State.reset.rampOrder = [] ∧ (∀ i, (State.reset.railOf i).queued = false)
    ∧ { twoQueued with clock := ⟨false, true, none, none⟩ }.clock.frozen = true := by
  unfold MayBeGranted
  decide

theorem witness_PowerGoodEndsTheRamp :
    (let s := powered .ramping
     (s.ctx 3).state = .ramping ∧ (s.railOf 3).closed = true ∧ (s.railOf 3).queued = false)
    ∧ (State.reset.ctx 3).state ≠ .ramping := by decide

theorem witness_FaultsPowerTheCardDown :
    (PoweredBringUp 3 (powered .ramping) ∧ ((powered .ramping).ctx 3).state = .ramping
        ∧ ((powered .ramping).railOf 3).rampTimer = some 5)
    ∧ (PoweredBringUp 3 (powered .qualifying) ∧ ((powered .qualifying).det 3).qualTimer = .running 9
        ∧ ((powered .qualifying).det 3).run = .running ∧ ((powered .qualifying).det 3).due = some ⟨.after16, 0⟩
        ∧ ((powered .qualifying).det 3).duty = some .qualify ∧ ((powered .qualifying).ctx 3).state = .qualifying)
    ∧ (PoweredBringUp 3 (powered .parked) ∧ ((powered .parked).railOf 3).powerSeen = true
        ∧ ((powered .parked).railOf 3).lossReported = false)
    ∧ (let s := unpowered .qualifying
       (s.ctx 3).state = .qualifying ∧ s.inRoster 3 = false ∧ (s.railOf 3).closed = false
         ∧ (s.railOf 3).dischargeTimer = none ∧ (s.det 3).qualTimer = .running 9)
    ∧ (InBringUp 3 (powered .spliceWait) ∧ ((powered .spliceWait).ctx 3).state = .spliceWait
        ∧ ((powered .spliceWait).railOf 3).closed = true ∧ ((powered .spliceWait).railOf 3).queued = false)
    ∧ (OnlineInRoster 3 online ∧ online.scan.state ≠ .stopped ∧ (online.railOf 3).powerSeen = true
        ∧ (online.railOf 3).lossReported = false)
    ∧ (let s := powered .withdrawing
       (s.ctx 3).state = .withdrawing ∧ (s.railOf 3).closed = true ∧ (s.railOf 3).queued = false
         ∧ (s.railOf 3).powerSeen = true ∧ (s.railOf 3).lossReported = false) := by
  unfold PoweredBringUp InBringUp OnlineInRoster
  decide

/-- Slot 3 at the end of its discharge. -/
def discharged (p : Policy) (c : ContactState) (d : Destination) : State :=
  slot3 fun r => { r with
    ctx := { r.ctx with
      state := .withdrawing, policy := p, contact := c, identity := some card, reason := some .fault
      destination := some d, leaving := some .none }
    rail := { r.rail with dischargeTimer := some 0 } }

theorem witness_DischargeEndsTheWithdrawal :
    (let s := discharged .admitCard .seated .settling
     (s.railOf 3).dischargeTimer = some 0 ∧ (s.ctx 3).state = .withdrawing ∧ s.inRoster 3 = false
       ∧ (s.ctx 3).reason = some .fault ∧ (s.ctx 3).destination = some .settling ∧ (s.ctx 3).policy ≠ .off
       ∧ (s.ctx 3).contact = .seated)
    ∧ (((discharged .admitCard .seated .refused).ctx 3).destination = some .refused
        ∧ ((discharged .off .seated .refused).ctx 3).policy = .off
        ∧ ((discharged .hold .partway .quarantined).ctx 3).contact ≠ .seated)
    ∧ (let s := slot3 fun r => { r with rail := { r.rail with dischargeTimer := some 4 } }
       (s.railOf 3).dischargeTimer = some 4 ∧ (s.ctx 3).state ≠ .withdrawing) := by decide

theorem witness_LaneTransactionsEndAndRetry :
    (let l := { Lane.reset with state := .partBusy, queue := [3], transaction := some ⟨3, .start, false⟩, tries := 1 }
     (laneOf l).lane.transaction = some ⟨3, .start, false⟩ ∧ (laneOf l).lane.tries + 1 < 3
       ∧ (laneOf l).lane.state = .partBusy)
    ∧ (HeadIsRead 3 .start [4] (headRead .start 2 0) ∧ 3 ≤ (headRead .start 2 0).lane.tries + 1
        ∧ (headRead .start 2 0).lane.retryGap = none)
    ∧ HeadIsRead 3 .transfer [4] (headRead .transfer 2 0)
    ∧ (laneOf { Lane.reset with transaction := some ⟨3, .transfer, true⟩ }).lane.transaction
        = some ⟨3, .transfer, true⟩
    ∧ (let s := laneOf { Lane.reset with state := .partBusy, queue := [4], transaction := some ⟨3, .start, true⟩ }
       s.lane.transaction = some ⟨3, .start, true⟩ ∧ (laneIdle s.lane).queue = 4 :: []
         ∧ (laneIdle s.lane).retryGap = none)
    ∧ (let s := laneOf { Lane.reset with state := .recovering, recoveryTimer := some 0, queue := [3, 4] }
       s.lane.state = .recovering ∧ s.lane.queue = 3 :: [4] ∧ s.lane.retryGap = none ∧ s.lane.readBegun = false)
    ∧ (laneOf { Lane.reset with state := .recovering }).lane.queue = []
    ∧ (laneOf { Lane.reset with state := .recovering, retryGap := some 1 }).lane.retryGap ≠ none
    ∧ (let s := laneOf { Lane.reset with queue := [3], retryGap := some 0, readBegun := true }
       s.lane.retryGap = some 0 ∧ s.lane.queue = 3 :: [] ∧ s.lane.state = .idle ∧ s.lane.readBegun = true)
    ∧ (laneOf { Lane.reset with state := .cardBusy, retryGap := some 0 }).lane.state ≠ .idle := by
  unfold HeadIsRead
  decide

theorem witness_CardMessagesAreJudgedAtTheirEnd :
    State.reset.lane.state = .idle
    ∧ (let s := laneOf { Lane.reset with
          state := .partBusy, queue := [3], transaction := some ⟨3, .start, false⟩, lost := 6 }
       s.lane.state = .partBusy ∧ s.lane.transaction = some ⟨3, .start, false⟩ ∧ s.lane.lost + 1 < 8)
    ∧ (HeadIsRead 3 .start [4] (headRead .start 0 7) ∧ 8 ≤ (headRead .start 0 7).lane.lost + 1
        ∧ (headRead .start 0 7).lane.state = .partBusy)
    ∧ (let s := laneOf { Lane.reset with state := .recovering }
       s.lane.state = .recovering)
    ∧ (let s := { online with lane := { Lane.reset with state := .cardBusy, message := some [] } }
       s.lane.state = .cardBusy ∧ s.lane.queue = [] ∧ (3 : Byte) = byteOf (3 : Slot).val ∧ (s.ctx 3).state = .online
         ∧ 1 ≤ ([9] : List Byte).length ∧ ([9] : List Byte).length ≤ 8
         ∧ (1 : Byte) = byteOf ([9] : List Byte).length ∧ (s.ctx 4).state ≠ .online)
    ∧ (0 : Byte).toNat = 0 ∧ 8 < (9 : Byte).toNat ∧ (0 : HWord) ≠ crc16 (3 :: 1 :: [9])
    ∧ 11 < (12 : Byte).toNat := by
  unfold HeadIsRead
  decide

/-- The lane reads slot 3, whose card one entry of the directory describes. -/
def readingWith (a : Action) (pin : Option Slot) (service : Bool) : State :=
  { reading with directory :=
      ⟨State.reset.directory.entries.set 0 ⟨some ⟨.vendor 0x1111, a, .static, pin, service, some 320⟩, 0⟩, none⟩ }

/-- The lane reads slot 3, whose card no entry describes. -/
def readingUnknown (p : Policy) (m : RackMode) : State :=
  ({ reading with directory := State.reset.directory, mode := m }).modCtx 3 fun c => { c with policy := p }

theorem witness_IdentityCompletionDecidesTheVerdict :
    (reading.lane.transaction = some ⟨3, .transfer, false⟩ ∧ reading.lane.queue = 3 :: []
        ∧ reading.lane.retryGap = none ∧ reading.lane.readBegun = true)
    ∧ (recordChecks (record.set 31 0) = false ∧ reading.lane.checkUsed = false)
    ∧ (HeadIsRead 3 .transfer [4] (headRead .transfer 0 0) ∧ (headRead .transfer 0 0).lane.checkUsed = true)
    ∧ (recordChecks badRecord = true ∧ (identityOfRecord badRecord).valid = false
        ∧ TransferEnds 3 [] reading ∧ FreeOfQueues 3 reading)
    ∧ (IdentityArrives 3 [] record reading ∧ (reading.ctx 3).policy = .admitCard
        ∧ reading.lookupEntry 3 (identityOfRecord record) = some 0
        ∧ (reading.entry 0).body = some ⟨.vendor 0x1111, .admitCard, .static, none, false, some 320⟩
        ∧ (reading.ctx 3).inrushClass.getD 0 ≠ 0 ∧ unitsOf (identityOfRecord record) 320 = 13
        ∧ SteadyFits 3 13 reading)
    ∧ (let s := { reading with rail := { reading.rail with effective := 12 } }
       s.rail.effective < s.cs - (s.ctx 3).steadyCommitted + 13) := by
  unfold HeadIsRead FreeOfQueues IdentityArrives TransferEnds SteadyFits
  decide

theorem witness_IdentityCompletion_lookup :
    (readingWith .deny none false).lookupEntry 3 (identityOfRecord record) = some 0
    ∧ (readingWith .park none false).lookupEntry 3 (identityOfRecord record) = some 0
    ∧ ((readingWith .admitCard (some 4) false).lookupEntry 3 (identityOfRecord record) = some 0 ∧ (4 : Slot) ≠ 3)
    ∧ (KeyAt (.vendor 0x1111) 0 reading ∧ KeyNowhere (.kind 0x1111 2) reading
        ∧ KeyNowhere (.exact 0x1111 2 0x10) reading ∧ KeyNowhere (.placed 0x1111 2 3) reading
        ∧ KeyNowhere (.vendor 0x1111) State.reset) := by
  unfold KeyAt KeyNowhere
  decide

/-- Slot 3 is being read with slot 4 behind it in the identify queue, and slot 5 waits in the ramp queue for what the card's
steady units, below its provisional 20, give back. -/
def readingAhead : State :=
  let s := reading.modCtx 3 fun c => { c with steadyCommitted := 20 }
  let s := s.modSlot 5 fun r => { r with
    ctx := { r.ctx with state := .rampWait, inrushClass := some 5 }, rail := { r.rail with queued := true } }
  { s with rail := { s.rail with effective := 30 }, lane := { s.lane with queue := [3, 4] } }

/-- Slot 3 is being read with a class 0 card, whose switch is open. -/
def readingClassZero : State := reading.modSlot 3 fun r => { r with
  ctx := { r.ctx with inrushClass := some 0 }, rail := { r.rail with closed := false } }

theorem witness_IdentityCompletion_forms :
    (laneOf { Lane.reset with transaction := some ⟨3, .transfer, true⟩ }).lane.transaction = some ⟨3, .transfer, true⟩
    ∧ (IdentityArrives 3 [4] record readingAhead ∧ readingAhead.lane.retryGap = none)
    ∧ (SteadyFits 3 13 readingAhead ∧ 13 < (readingAhead.ctx 3).steadyCommitted)
    ∧ (FreeOfQueues 3 readingClassZero ∧ (readingClassZero.railOf 3).closed = false
        ∧ IdentityArrives 3 [] record readingClassZero) := by
  unfold FreeOfQueues IdentityArrives TransferEnds SteadyFits
  decide

/-- Slot 3's detector at a checkpoint. -/
def atCheckpoint (st : SlotState) (duty : Duty) (p : Checkpoint) (n fineRun : Nat) : State :=
  slot3 fun r => { r with
    ctx := { r.ctx with state := st, identity := some card }
    detector := { r.detector with
      run := .running, duty := some duty, expected := some ⟨16, 32, 64⟩, due := some ⟨p, n⟩, coarse := true
      fineRun := fineRun, qualTimer := .running 9 } }

theorem witness_CheckpointsJudgeTheLock :
    (let s := atCheckpoint .qualifying .qualify .after16 1 0
     (s.det 3).run = .running ∧ (s.det 3).expected = some ⟨16, 32, 64⟩ ∧ (s.det 3).duty = some Duty.qualify
       ∧ (s.det 3).due = some ⟨.after16, 1⟩)
    ∧ (let s := atCheckpoint .online .watch .after32 33 0
       (s.det 3).due = some ⟨.after32, 33⟩ ∧ 33 ≤ 32 + s.params.lockTolerance ∧ 32 ≤ 33 + s.params.lockTolerance)
    ∧ (let s := atCheckpoint .qualifying .qualify .after64 63 2
       (s.det 3).due = some ⟨.after64, 63⟩ ∧ 63 ≤ 64 + s.params.lockTolerance ∧ 64 ≤ 63 + s.params.lockTolerance
         ∧ min 15 ((s.det 3).fineRun + 1) < s.params.qualRun)
    ∧ (let s := atCheckpoint .online .watch .after64 66 3
       (s.det 3).duty = some Duty.watch ∧ 64 + s.params.lockTolerance < 66 ∧ 0 < s.params.qualRun
         ∧ (s.det 3).coarse = true) := by decide

theorem witness_IdentityCompletion_without_an_entry :
    (let s := readingUnknown .admitCard .run
     (readingUnknown .admitCard .run).lookupEntry 3 (identityOfRecord record) = none ∧ (s.ctx 3).policy = .admitCard)
    ∧ (let s := readingUnknown .learn .run
       s.mode = .run ∧ (s.ctx 3).policy = .learn)
    ∧ (let s := readingUnknown .hold .run
       (s.ctx 3).policy = .hold ∧ unitsOf (identityOfRecord record) 0 = 12 ∧ SteadyFits 3 12 s
         ∧ IdentityArrives 3 [] record s)
    ∧ (let s := readingUnknown .learn .commission
       (s.ctx 3).policy = .learn ∧ s.mode = .commission ∧ (s.entry 0).body = none
         ∧ ∀ j : EntryIndex, j < 0 → (s.entry j).body ≠ none)
    ∧ (let s := { readingUnknown .learn .commission with directory := fullDirectory.directory }
       (∀ k, (s.entry k).body ≠ none) ∧ s.lookupEntry 3 (identityOfRecord record) = none) := by
  unfold IdentityArrives TransferEnds SteadyFits
  decide

/-- Slot 3 at the fine match that completes its run, with a card of 24 bytes each way. -/
def passing : State :=
  (atCheckpoint .qualifying .qualify .after64 65 3).modRail 3 fun r => { r with closed := true }

theorem witness_QualificationPassPlacesTheCard :
    PassCompletes 3 65 ⟨16, 32, 64⟩ card passing
    ∧ (passing.scan.state = .stopped ∧ passing.clock.frozen = false)
    ∧ passing.load + (4000 + 320 * (card.inputBytes.toNat + card.outputBytes.toNat))
        ≤ passing.params.cyclePeriod * 10 * passing.params.fillPercent
    ∧ (card.inputBytes.toNat + 15) / 16 = 2 ∧ (card.outputBytes.toNat + 15) / 16 = 2
    ∧ (¬ NoRoom 3 .input passing.params.imageReserveIn 2 passing ∧ ¬ NoRoom 3 .output passing.params.imageReserveOut 2 passing)
    ∧ (let s := { passing with imageIn := ⟨[], [⟨0, 1⟩, ⟨5, 3⟩]⟩ }
       ¬ NoRoom 3 .input 0 2 s ∧ s.imageIn.free = [⟨0, 1⟩] ++ ⟨5, 3⟩ :: [] ∧ (∀ e ∈ [(⟨0, 1⟩ : Extent)], e.length < 2)) := by
  unfold PassCompletes NoRoom
  decide

/-- A card with no cyclic data at all. -/
def dataless : Identity := { card with inputBytes := 0, outputBytes := 0 }

/-- The dataless card at its pass, with its switch open. -/
def passingDataless : State := passing.modSlot 3 fun r => { r with
  ctx := { r.ctx with identity := some dataless }, rail := { r.rail with closed := false } }

theorem witness_QualificationPass_of_a_dataless_card :
    PassCompletes 3 65 ⟨16, 32, 64⟩ dataless passingDataless
    ∧ (dataless.inputBytes.toNat + 15) / 16 = 0 ∧ (dataless.outputBytes.toNat + 15) / 16 = 0
    ∧ ¬ NoRoom 3 .input 200 0 passingDataless
    ∧ FreeOfQueues 3 passingDataless ∧ (passingDataless.railOf 3).closed = false := by
  unfold PassCompletes FreeOfQueues NoRoom
  decide

theorem witness_QualificationPass_refusals :
    FreeOfQueues 3 passing ∧ (passing.railOf 3).closed = true
    ∧ (let s := passing.modScan 4 fun c => { c with cost := some 1680641 }
       s.params.cyclePeriod * 10 * s.params.fillPercent
         < s.load + (4000 + 320 * (card.inputBytes.toNat + card.outputBytes.toNat)))
    ∧ NoRoom 3 .input 0 2 { passing with imageIn := ⟨[], [⟨0, 1⟩, ⟨5, 1⟩]⟩ }
    ∧ NoRoom 3 .input 127 2 passing
    ∧ ¬ NoRoom 3 .input 126 2 passing
    ∧ NoRoom 3 .output 0 2 { passing with imageOut := ⟨[], []⟩ } := by
  unfold FreeOfQueues NoRoom
  decide

/-- Slot 3 ONLINE in the roster, watched, with a checkpoint due. -/
def watched (p : Checkpoint) (n : Nat) : State :=
  online.modDet 3 fun d => { d with
    duty := some .watch, run := .running, expected := some ⟨16, 32, 64⟩, due := some ⟨p, n⟩ }

theorem witness_LossOfLockWithdrawsTheCard :
    ((online.ctx 3).state = .online ∧ online.inRoster 3 = true ∧ online.scan.state ≠ .stopped)
    ∧ (let s := { watched .after16 0 with scan := Scan.reset }
       (s.ctx 3).state = .online ∧ s.inRoster 3 = true ∧ s.scan.state = .stopped ∧ (s.railOf 3).queued = false
         ∧ (s.railOf 3).closed = true)
    ∧ LosesLock 3 (.graceTimerExpiry 3) (online.modDet 3 fun d => { d with graceTimer := some 0 })
    ∧ LosesLock 3 (.lockCheckpoint16 3) (watched .after16 0)
    ∧ LosesLock 3 (.lockCheckpoint32 3) (watched .after32 30) :=
  ⟨by decide, by decide, .inl ⟨rfl, by decide⟩, .inr ⟨rfl, rfl, .inl ⟨rfl, rfl⟩⟩,
    .inr ⟨rfl, rfl, .inr ⟨rfl, rfl, 30, _, rfl, rfl, by decide⟩⟩⟩

theorem witness_ReferenceWatchLosesAndRegains :
    (let s := slot3 fun r => { r with detector := { r.detector with run := .running, spanPosition := 63 } }
     (s.det 3).run = .running ∧ (s.det 3).awaitingEdge = false ∧ (s.det 3).spanPosition + 1 = 64
       ∧ (s.det 4).run ≠ .running)
    ∧ (let s := slot3 fun r => { r with detector := { r.detector with run := .running, awaitingEdge := true } }
       (s.det 3).run = .running ∧ (s.det 3).awaitingEdge = true)
    ∧ (let s := slot3 fun r => { r with detector := { r.detector with run := .running, spanPosition := 15 } }
       (s.det 3).spanPosition + 1 ≠ 64 ∧ (s.det 3).spanPosition + 1 = 16)
    ∧ (State.reset.clock.watchTimer ≠ none ∧ State.reset.clock.refLost = false)
    ∧ (let c := (clocked ⟨true, true, some 3, some 0⟩).clock
       c.watchTimer ≠ none ∧ c.refLost = true ∧ c.returnTimer ≠ none)
    ∧ (let s := slot3 fun r => { r with detector := { r.detector with
          run := .paused, qualTimer := .paused 4, duty := some .watch } }
       (s.det 3).run = .paused ∧ (s.det 3).qualTimer = .paused 4 ∧ (s.det 3).duty = some Duty.watch) := by decide

/-- Slot 4 leaves the roster of the running scan at the next boundary, its switch closed or its discharge over. -/
def leaving (closed : Bool) : State :=
  online.modSlot 4 fun r =>
    { r with
      ctx := { r.ctx with
        state := .withdrawing, reason := some .host, destination := some .refused, leaving := some .leavePending
        contact := .seated, policy := .admitCard, inWindow := some ⟨2, 1⟩ }
      rail := ⟨closed, none, true, false, none, false⟩
      scan := ⟨some .leave, some 4000, some false, some .normal, some []⟩ }

theorem witness_BoundaryBeginsACycle :
    (let s := { online with scan := Scan.reset }
     s.safeOff = false ∧ (∀ i, (s.scanOf i).splice = none) ∧ s.scan.state = .stopped ∧ s.scan.exchange = none
       ∧ s.roster = 3 :: [] ∧ (s.scanOf 3).skip = some false)
    ∧ (online.scan.state = .running ∧ online.scan.period = .running 50 ∧ online.scan.remaining = []
        ∧ online.scan.exchange = none ∧ (∀ i, (online.scanOf i).splice = none)
        ∧ (∀ i, (online.ctx i).leaving ≠ some Leaving.releasePending))
    ∧ (let s := { online.modSlot 3 fun r => { r with
            ctx := { r.ctx with leaving := some .releasePending }, scan := { r.scan with skip := some true } } with
          scan := Scan.reset }
       3 ∈ skipped s s.roster ∧ (s.ctx 3).leaving = some .releasePending)
    ∧ ((∀ i, (heldJoin.scanOf i).splice ≠ some .leave) ∧ heldJoin.clock.frozen = true ∧ heldJoin.scan.state = .stopped
        ∧ heldJoin.scan.exchange = none ∧ (heldJoin.scanOf 3).splice = some .join)
    ∧ { heldJoin with clock := ⟨false, false, some 5, none⟩ }.clock.frozen = false
    ∧ (∀ b, let s := leaving b
        (s.scanOf 4).splice = some .leave ∧ (s.ctx 4).state = .withdrawing ∧ (s.railOf 4).queued = false
          ∧ (s.ctx 4).leaving = some .leavePending ∧ (s.railOf 4).closed = b ∧ (s.railOf 4).dischargeTimer = none
          ∧ (s.ctx 4).reason = some .host ∧ (s.ctx 4).destination = some .refused
          ∧ (∀ j, j ≠ 4 → (s.scanOf j).splice = none ∧ (s.ctx j).leaving ≠ some .releasePending))
    ∧ (let s := { online with scan := { online.scan with exchange := some ⟨3, .window, false, [], 24⟩ } }
       s.scan.period = .running 50 ∧ s.scan.exchange = some ⟨3, .window, false, [], 24⟩ ∧ s.scan.state = .running) := by
  decide

theorem witness_BoundaryBeginsACycle_stop :
    (let s := { heldJoin with scan := { Scan.reset with state := .running } }
     s.scan.state = .running ∧ s.scan.exchange = none ∧ s.scan.remaining = []
       ∧ (∀ i, (s.ctx i).leaving ≠ some .releasePending ∧ (s.scanOf i).splice ≠ some .leave)
       ∧ (s.scanOf 3).splice = some .join ∧ s.safeOff = false)
    ∧ (scanning .stopping).scan.state ≠ .stopped ∧ (scanning .stopping).scan.state ≠ .running
    ∧ (scanning .running).scan.state ≠ .stopped := by decide

/-- Slot 4 leaves and slot 5 joins, at a boundary or as the scan stops. -/
def leavingAndJoining (closed : Bool) : State :=
  (leaving closed).modSlot 5 fun r =>
    { r with
      ctx := { r.ctx with state := .spliceWait, identity := some card }
      scan := ⟨some .join, some 19360, none, none, none⟩ }

theorem witness_BoundaryBeginsACycle_order :
    (∀ b, let s := leavingAndJoining b
      s.scan.state = .running ∧ s.scan.exchange = none ∧ s.scan.remaining = [] ∧ s.safeOff = false
        ∧ (∀ i, (s.ctx i).leaving ≠ some .releasePending)
        ∧ (∀ i, (s.scanOf i).splice = some .leave → WaitsForLeave i s)
        ∧ (∀ j, (s.scanOf j).splice = some .join → (s.railOf j).queued = false) ∧ joinsDue s = [5])
    ∧ leavesEnding (leavingAndJoining false) = [4] ∧ leavesEnding (leavingAndJoining true) = [] := by
  unfold WaitsForLeave
  decide

/-- R150, log entry 19: the WITHDRAWN of the LEAVE comes ahead of the ONLINE of the JOIN. -/
theorem test_leave_before_join_at_a_stop :
    (after (.scanStop 7) (leavingAndJoining false)).notices.queue.map Notice.kind = [.started, .withdrawn, .online] := by
  decide

/-- The commands that take a boundary, in a STOPPED and in a RUNNING scan. -/
theorem witness_TakesBoundary : TakesBoundary 7 (.scanStart 7) { online with scan := Scan.reset }
    ∧ TakesBoundary 7 .periodTimerExpiry online ∧ TakesBoundary 7 .periodTimerExpiry (leaving true)
    ∧ TakesBoundary 7 (.scanStart 7) heldJoin :=
  ⟨⟨rfl, .inl ⟨rfl, rfl⟩⟩, ⟨rfl, .inr ⟨rfl, rfl, ⟨50, rfl⟩, rfl⟩⟩, ⟨rfl, .inr ⟨rfl, rfl, ⟨50, rfl⟩, rfl⟩⟩,
    ⟨rfl, .inl ⟨rfl, rfl⟩⟩⟩

/-- Slot 3's exchange on the data lane. -/
def exchanging (p : ExchangePhase) (discarded : Bool) : State :=
  { online with scan := { online.scan with exchange := some ⟨3, p, discarded, [3, 0], 24⟩ } }

theorem witness_ExchangesUpdateTheInputs :
    (∀ p ∈ [ExchangePhase.sending, .window, .replying], ∀ d, (exchanging p d).scan.exchange = some ⟨3, p, d, [3, 0], 24⟩)
    ∧ (let s := { exchanging .replying true with scan := { Scan.reset with exchange := some ⟨3, .replying, true, [], 24⟩ } }
       s.scan.exchange = some ⟨3, .replying, true, [], 24⟩ ∧ s.scan.state = .stopped ∧ s.scan.remaining = [])
    ∧ (let s := exchanging .replying false
       (s.scanOf 3).skip = some false ∧ (s.ctx 3).state = .online ∧ (s.ctx 3).inWindow = some ⟨0, 2⟩
         ∧ (s.ctx 3).missCount = some 1 ∧ (s.scanOf 3).marker = some Marker.normal ∧ s.scan.state = .running
         ∧ s.scan.period = .running 50 ∧ ImagesCanonical s ∧ min 15 (1 + 1) < s.params.missLimit)
    ∧ (List.replicate 24 (5 : Byte)).length = 24 ∧ 24 + 3 ≤ (List.replicate 27 (5 : Byte)).length
    ∧ (List.replicate 26 (5 : Byte)).length < 24 + 3
    ∧ (List.replicate 27 (5 : Byte))[0]? ≠ some (byteOf (3 : Slot).val)
    ∧ (let s := (exchanging .window false).modCtx 3 fun c => { c with missCount := some 2 }
       s.params.missLimit ≤ min 15 ((s.ctx 3).missCount.getD 0 + 1))
    ∧ (let s := (exchanging .window false).modScan 3 fun c => { c with skip := some true }
       (s.scanOf 3).skip = some true ∧ (s.scanOf 3).skip ≠ some false)
    ∧ (let s := { exchanging .replying false with
          scan := { (exchanging .replying false).scan with period := .expired } }
       s.scan.state = .running ∧ s.scan.period = .expired ∧ s.scan.remaining = [] ∧ s.roster = 3 :: []
         ∧ (∀ j, (s.scanOf j).splice = none) ∧ (s.scanOf 3).skip = some false)
    ∧ (let s := { exchanging .replying false with
          scan := { (exchanging .replying false).scan with state := .stopping } }
       s.scan.state = .stopping ∧ s.scan.remaining = [] ∧ (s.scanOf 3).splice = none
         ∧ ∀ j, (s.scanOf j).splice ≠ some .leave ∧ (s.ctx j).leaving ≠ some .releasePending) := by
  unfold ImagesCanonical
  decide

theorem witness_FaultRecordKeepsTheFirstHardCause :
    ([.lockLost, .powerLost] : List Cause) = .lockLost :: [.powerLost] := rfl

/-- Slot 3 ONLINE with a match, two windows and its share of the accounts, all as a run leaves them. -/
def settledCard : State :=
  let s := online.modSlot 3 fun r => { r with
    monitor := { r.monitor with contact := .seated, seatedClass := some 1, pattern := .steady }
    ctx := { r.ctx with matched := some 0, inrushClass := some 1, steadyCommitted := 13 } }
  let e := withEntries.directory.entries.set 0
    ⟨some ⟨.vendor 0x1111, .admitCard, .static, none, false, some 320⟩, 1⟩
  { s with
    directory := ⟨e, none⟩, rail := ⟨24000, 200, false, false, 3⟩
    imageIn := ⟨[(3, 7)], [⟨2, 126⟩]⟩, imageOut := ⟨[], [⟨2, 126⟩]⟩ }

theorem witness_FiguresStayWithinTheirBounds : AccountsBounded settledCard ∧ RampsBounded settledCard
    ∧ LoadBounded settledCard ∧ NoticesBounded settledCard ∧ step settledCard = .next (tick settledCard)
    ∧ settledCard.cs = 13 ∧ settledCard.load = 19360 := by
  unfold NoticesBounded AccountsBounded RampsBounded LoadBounded
  refine ⟨?_, ?_, ?_, ?_, rfl, ?_⟩ <;> decide

theorem witness_UsersCountsStayTrue : UsersCounted settledCard ∧ (settledCard.entry 0).users = 1 := by
  unfold UsersCounted
  decide

theorem witness_ShownAndLaneStatesStayTrue : SlotsShown settledCard ∧ LaneSound settledCard := by
  unfold SlotsShown LaneSound
  decide

theorem settledCard_windows : ∀ i : Slot, (settledCard.ctx i).window .input = (if i = 3 then some ⟨0, 2⟩ else none)
    ∧ (settledCard.ctx i).window .output = (if i = 3 then some ⟨0, 2⟩ else none) := by decide

theorem settledCard_segments (g : ImageId) : SegmentsSound settledCard g := by
  have hw : ∀ i : Slot, (settledCard.ctx i).window g = (if i = 3 then some ⟨0, 2⟩ else none) := fun i => by
    cases g
    · exact (settledCard_windows i).1
    · exact (settledCard_windows i).2
  have hf : (settledCard.image g).free = [⟨2, 126⟩] := by cases g <;> rfl
  unfold SegmentsSound FreeListSound Apart
  rw [hf]
  refine ⟨by simp, ?_, ?_⟩
  · intro i w h
    rw [hw i] at h
    split at h
    · cases h
      simp
    · cases h
  · intro i j w v ne hi hj
    rw [hw i] at hi
    rw [hw j] at hj
    split at hi
    · split at hj
      · exact absurd (by simp_all) ne
      · cases hj
    · cases hi

theorem witness_SegmentsStayApart : SegmentsSound settledCard .input ∧ SegmentsSound settledCard .output
    ∧ ImagesCanonical settledCard ∧ SegmentsCounted settledCard .input ∧ SegmentsCounted settledCard .output
    ∧ step settledCard = .next (tick settledCard) := by
  refine ⟨settledCard_segments _, settledCard_segments _, ?_⟩
  unfold ImagesCanonical SegmentsCounted
  refine ⟨?_, ?_, ?_, rfl⟩ <;> decide

/-- A state in SAFE_OFF, where QuietInSafeOff says something. -/
theorem witness_SafeOffStaysQuiet : inSafeOff.safeOff = true ∧ QuietInSafeOff inSafeOff := by
  refine ⟨rfl, fun _ => ⟨?_, rfl, rfl, rfl, rfl, rfl, rfl⟩⟩
  intro i
  refine ⟨.inl ?_, ?_, ?_, ?_, ?_, ?_, ?_, ?_, ?_, ?_, ?_, ?_, ?_⟩ <;> revert i <;> decide

/-! ## Steps on small states -/

/-- R190, R194: after hard reset READY is deasserted and ATTN asserted, by the notice STARTED. -/
theorem test_reset_lines : State.reset.readyLine = false ∧ State.reset.attnLine = true := by decide

/-- The status and the body a command is answered with. -/
def answer (c : Instr) (s : State) : Option (Status × List Byte) :=
  (after c s).link.answer.map fun a => (a.status, a.body)

/-- R54, R55: the midpoint of the two thresholds gives half the budget and raises SAG. -/
theorem test_rail_sample : (after (.railSample 21000) State.reset).rail = ⟨21000, 100, true, false, 11⟩ := by decide

/-- R4, R183: MAKE_FILTER 16 is clamped to 15. -/
theorem test_set_parameter : answer (.setParameter 0 0x01 16 none) State.reset = some (.okClamped, [0x01, 0, 15]) := by
  decide

/-- R190, 10.8: the first notice a host fetches is STARTED for the rack with code HARD. -/
theorem test_fetch_notices : ((answer (.fetchNotices 0 8) State.reset).map fun a => (a.1, a.2.take 4))
    = some (.ok, [1, 0x01, 0xFF, 0]) := by decide

/-- R173: CLEAR FAULT takes 0xFF for the rack, and slot 12 is BAD_SLOT. -/
theorem test_clear_fault : answer (.clearFault 0 0xFF) State.reset = some (.already, [0])
    ∧ answer (.clearFault 0 12) State.reset = some (.badSlot, []) := by decide

/-- R148: SCAN STOP in STOPPED is answered ALREADY. -/
theorem test_scan_stop : answer (.scanStop 0) State.reset = some (.already, []) := by decide

/-- R3, R25: the eighth sample of SEATED takes a VACANT slot to SETTLING with its class. -/
theorem test_seated : let t := after (.slotSample 3 .made .made 5 .high) (sampled .vacant .partway .seated 7)
    (t.ctx 3).state = .settling ∧ (t.ctx 3).inrushClass = some 5 ∧ (t.ctx 3).settleTimer = some 300000 := by decide

/-- R65: a class 7 card alone is granted, with 96 and 32 units committed. -/
theorem test_grant : let t := after (.settleTimerExpiry 3) (settled 7)
    (t.ctx 3).state = .ramping ∧ t.ci = 96 ∧ t.cs = 32 ∧ (t.railOf 3).rampTimer = some 100000 := by decide

/-- R70: the card's 13 units replace 20, so Cs falls and slot 5's class 5, of 16 provisional units, is granted; and the next
head's transaction opens (R80). -/
theorem test_steady_falls : let t := after (.identityTransferComplete record) readingAhead
    (t.ctx 3).steadyCommitted = 13 ∧ (t.ctx 5).state = .ramping ∧ t.lane.transaction = some ⟨4, .start, false⟩ := by decide

/-- R41: the first soft fault of two attempts goes back to SETTLING, the second to QUARANTINED. -/
theorem test_soft_fault : ((after (.rampTimerExpiry 3) (powered .ramping)).ctx 3).destination = some .settling
    ∧ ((after (.rampTimerExpiry 3) ((powered .ramping).modCtx 3 fun c => { c with attempts := 1 })).ctx 3).destination
        = some .quarantined := by decide

/-- R33, R70: the record's 300 mA against the entry's reserve of 320 mA commits 13 units. -/
theorem test_identity : let t := after (.identityTransferComplete record) reading
    (t.ctx 3).state = .qualifying ∧ (t.ctx 3).identity = some card ∧ (t.ctx 3).steadyCommitted = 13
      ∧ (t.entry 0).users = 1 := by decide

/-- R155: a good reply of 24 bytes of 5 lands in the window at byte 0 and leaves byte 24. -/
theorem test_reply_end :
    let inputs := List.replicate 24 (5 : Byte)
    let t := after (.replyEnd ((3 :: inputs) ++ crcTail (3 :: inputs))) (exchanging .replying false)
    Memory.read t.imageIn.mem 0 = 5 ∧ Memory.read t.imageIn.mem 23 = 5 ∧ Memory.read t.imageIn.mem 24 = 0
      ∧ (t.ctx 3).inputQuality = some .fresh := by decide

/-- R155, R164: the part's frame is on the lane in its phase alone, and RESTART lets it run to its end. -/
theorem test_lane_frame : (exchanging .sending false).laneFrame = some [3, 0]
    ∧ (after (.restart 0) (exchanging .sending false)).laneFrame = some [3, 0]
    ∧ (exchanging .window false).laneFrame = none := by decide

/-- R13: the SLOW pattern that the completing sample begins stands at the start of its first on phase. -/
theorem test_pattern_begins : let t := after (.slotSample 3 .made .made 5 .high) (sampled .vacant .partway .seated 7)
    (t.mon 3).pattern = .slow ∧ (t.mon 3).ledPhase = 0 ∧ (t.mon 3).ledSamples = 0 ∧ t.ledLine 3 = true := by decide

/-- 1.1, 10.8: a display that is present shows 1 to 60 seconds, also at the end of its time. -/
theorem test_locate_seconds : locateSeconds (some ⟨0, 0, 0⟩) = 1 ∧ locateSeconds (some ⟨1000001, 0, 0⟩) = 2
    ∧ locateSeconds (some ⟨60000000, 0, 0⟩) = 60 ∧ locateSeconds none = 0 := by decide

/-- R180, R181: a request taken within an open window leaves the reply being shifted out to the end of the window. -/
theorem test_request_in_a_window :
    let s := linked { Link.reset with
      state := .replyReady, window := .opened .replyReady false, reply := some ⟨1, 2, .ok, false, true, []⟩ }
    let t := after (.status 7) s
    t.link.state = .replyReady ∧ t.link.reply.isSome = true
      ∧ (after (.transferWindowEnd [0xD1]) t).link.state = .handling
      ∧ (after (.transferWindowEnd [0xD1]) t).link.reply = none
      ∧ (after (.transferWindowEnd [0xD1]) t).link.sdo = [0xD2] := by decide

/-- R181: a frame with a good CRC runs its request; a wrong CRC is a FRAME_ERROR. -/
theorem test_window_end : let s := linked { Link.reset with window := .opened .idle false }
    answer (.transferWindowEnd (requestFrame 0x30 7 [])) s = some (.ok, [])
      ∧ (after (.transferWindowEnd [0xD1, 0, 0x30, 7, 0, 0]) s).link.reply.map Reply.status = some .frameError := by
  decide

/-- R178: in SAFE_OFF a request that is no query is refused. -/
theorem test_safe_off_refusal : answer (.freeze 0) inSafeOff = some (.safeOff, []) := by decide

end Sys2Proof.Tests
end

/-! A sample of a slot's lines (Section 1): the debounce step, what the report of a contact change leaves of the
monitor's record in every slot state, and the alert line. -/

namespace Sys2Proof.Machine

open Sys2Proof

/-! ## The debounce step (R3, R7) -/

/-- The run of the debounce after a sample that reads `raw`, a state other than the contact state (R3). -/
def Monitor.runWith (m : Monitor) (raw : ContactState) : Nat := if m.candidate = some raw then m.run + 1 else 1

/-- A sample that agrees with the contact state ends the run of a candidate (R3). -/
theorem Monitor.debounce_of_eq {m : Monitor} {raw : ContactState} (h : raw = m.contact) (makeFilter : Nat)
    (key : BitVec 3) : m.debounce makeFilter raw key = { m with candidate := none, run := 0 } := by
  simp [Monitor.debounce, Monitor.track, Monitor.settle, h]

/-- A sample that differs from the contact state counts for its candidate: one more in the candidate's run, and the first of
a new run (R3). -/
theorem Monitor.track_of_ne {m : Monitor} {raw : ContactState} (h : raw ≠ m.contact) :
    m.track raw = { m with candidate := some raw, run := m.runWith raw } := by
  unfold Monitor.track Monitor.runWith
  rw [if_neg h]
  split
  · rename_i hc
    rw [← hc]
  · rfl

/-- A run short of the threshold leaves the contact state and the seated class (R3). -/
theorem Monitor.debounce_of_lt {m : Monitor} {raw : ContactState} {makeFilter : Nat} (h : raw ≠ m.contact)
    (hn : m.runWith raw < debounceThreshold makeFilter m.contact raw) (key : BitVec 3) :
    m.debounce makeFilter raw key = { m with candidate := some raw, run := m.runWith raw } := by
  simp [Monitor.debounce, Monitor.track_of_ne h, Monitor.settle, Nat.not_le_of_lt hn]

/-- A run at the threshold makes the candidate the contact state, and the keying pins are read (R3, R7). -/
theorem Monitor.debounce_of_le {m : Monitor} {raw : ContactState} {makeFilter : Nat} (h : raw ≠ m.contact)
    (hn : debounceThreshold makeFilter m.contact raw ≤ m.runWith raw) (key : BitVec 3) :
    m.debounce makeFilter raw key = { m with contact := raw, candidate := none, run := 0 }.readKey key := by
  simp [Monitor.debounce, Monitor.track_of_ne h, Monitor.settle, hn, h]

/-- The keying pins give the seated class in SEATED, keep it in PARTIAL and remove it in OPEN (R7). -/
theorem Monitor.readKey_eq (m : Monitor) (key : BitVec 3) :
    m.readKey key = { m with seatedClass := match m.contact with
      | .opened => none
      | .partway => m.seatedClass
      | .seated => some (classOfKey key) } := by
  obtain ⟨contact⟩ := m
  cases contact <;> rfl

/-! ## What the sequencer leaves of a slot's contacts -/

/-- What the sequencer's work leaves of a slot's record: the copied contact state, and the monitor's record but for the LED
pattern (R13) and the alert overlay (R9, R14). -/
structure SlotRecord.SameContacts (r q : SlotRecord) : Prop where
  contact : q.ctx.contact = r.ctx.contact
  monitor : q.monitor = { r.monitor with
    pattern := q.monitor.pattern, ledPhase := q.monitor.ledPhase, ledSamples := q.monitor.ledSamples,
    sticky := q.monitor.sticky, darkPulse := q.monitor.darkPulse }

theorem SlotRecord.SameContacts.of_eq {r q : SlotRecord} (hc : q.ctx.contact = r.ctx.contact)
    (hm : q.monitor = r.monitor) : SameContacts r q :=
  ⟨hc, by rw [hm]⟩

theorem SlotRecord.SameContacts.trans {a b c : SlotRecord} (h : SameContacts a b) (g : SameContacts b c) :
    SameContacts a c :=
  ⟨g.contact.trans h.contact, by rw [g.monitor, h.monitor]⟩

theorem SlotRecord.sameContacts_enter (st : SlotState) (r : SlotRecord) : SameContacts r (r.enter st) :=
  ⟨SlotRecord.enter_ctx_contact st r, SlotRecord.enter_monitor st r⟩

/-- `t` keeps slot `i`'s contacts as they were in `s`, and the whole record of every other slot outside the ramp queue. -/
structure State.KeepsContacts (i : Slot) (s t : State) : Prop where
  own : SlotRecord.SameContacts (s.slot i) (t.slot i)
  others : ∀ j, j ≠ i → (s.slot j).rail.queued = false → t.slot j = s.slot j

namespace State.KeepsContacts

variable {i : Slot} {s t u : State}

theorem of_slot_eq (h : ∀ j, t.slot j = s.slot j) : KeepsContacts i s t :=
  ⟨.of_eq (by rw [h]) (by rw [h]), fun j _ _ => h j⟩

theorem refl (i : Slot) (s : State) : KeepsContacts i s s := of_slot_eq fun _ => rfl

theorem trans (h : KeepsContacts i s t) (g : KeepsContacts i t u) : KeepsContacts i s u where
  own := h.own.trans g.own
  others j hj hq := by
    have e := h.others j hj hq
    rw [g.others j hj (by rw [e]; exact hq), e]

theorem modSlot {f : SlotRecord → SlotRecord} (h : ∀ r, SlotRecord.SameContacts r (f r)) :
    KeepsContacts i s (s.modSlot i f) :=
  ⟨by rw [State.slot_modSlot_self]; exact h _, fun _ hj _ => State.slot_modSlot_ne s f hj⟩

/-- A change of slot `i`'s record outside the monitor that leaves the copied contact state. -/
theorem modSlot_of_eq {f : SlotRecord → SlotRecord} (hc : ∀ r, (f r).ctx.contact = r.ctx.contact := by intro; rfl)
    (hm : ∀ r, (f r).monitor = r.monitor := by intro; rfl) : KeepsContacts i s (s.modSlot i f) :=
  modSlot fun r => .of_eq (hc r) (hm r)

end State.KeepsContacts

section
variable (s : State) (i : Slot)

theorem State.keepsContacts_modCtx {f : Context → Context} (h : ∀ c, (f c).contact = c.contact := by intro; rfl) :
    KeepsContacts i s (s.modCtx i f) :=
  .modSlot_of_eq fun r => h r.ctx

theorem State.keepsContacts_modScan (f : ScanSlot → ScanSlot) : KeepsContacts i s (s.modScan i f) :=
  .modSlot_of_eq

theorem State.keepsContacts_setState (st : SlotState) : KeepsContacts i s (s.setState i st) :=
  .modSlot (SlotRecord.sameContacts_enter st)

theorem State.keepsContacts_postSlot (k : NoticeKind) (c : Byte) (d : List Byte) :
    KeepsContacts i s (s.postSlot k i c d) :=
  .of_slot_eq fun _ => rfl

/-- An evaluation of the arbiter grants slots of the ramp queue alone, and a grant keeps the contacts (R63, R65). -/
theorem State.keepsContacts_arbitrate : KeepsContacts i s s.arbitrate where
  own := ⟨by rw [(s.arbitrate_grantedFrom.slot i).ctx], (s.arbitrate_grantedFrom.slot i).monitor⟩
  others _ _ := State.arbitrate_slot_of_not_queued

theorem State.keepsContacts_powerStep : KeepsContacts i s (s.powerStep i) := by
  unfold State.powerStep
  split
  · have opens : KeepsContacts i s (s.openSwitch i) := .modSlot_of_eq
    exact opens.trans (State.keepsContacts_arbitrate _ i)
  · exact .refl i s

theorem State.keepsContacts_leaveRampQueue : KeepsContacts i s (s.leaveRampQueue i) := by
  unfold State.leaveRampQueue
  split
  · have leaves : KeepsContacts i s (s.modRail i fun r => { r with queued := false }) := .modSlot_of_eq
    exact leaves.trans (State.keepsContacts_arbitrate _ i)
  · exact .refl i s

/-! ### Entering a state (R22 to R24) -/

theorem State.keepsContacts_dropMatch : KeepsContacts i s (s.dropMatch i) where
  own := by
    rw [State.slot_dropMatch, if_pos rfl]
    exact .of_eq rfl rfl
  others j hj _ := by rw [State.slot_dropMatch, if_neg hj]

theorem State.keepsContacts_enterHeld (st : SlotState) : KeepsContacts i s (s.enterHeld i st) :=
  (s.keepsContacts_dropMatch i).trans (State.keepsContacts_setState _ i st)

theorem State.keepsContacts_enterEmpty (st : SlotState) : KeepsContacts i s (s.enterEmpty i st) :=
  (s.keepsContacts_enterHeld i st).trans (State.keepsContacts_modCtx _ i)

theorem State.keepsContacts_enterSettling (us : Nat) : KeepsContacts i s (s.enterSettling i us) :=
  (s.keepsContacts_enterHeld i .settling).trans .modSlot_of_eq

/-! ### The end of a withdrawal and the departure (R49, R50, R154) -/

theorem State.keepsContacts_enterEnd (st : SlotState) : KeepsContacts i s (s.enterEnd i st) := by
  unfold State.enterEnd
  split
  · exact s.keepsContacts_enterEmpty i .disabled
  · exact s.keepsContacts_enterEmpty i .vacant
  · exact s.keepsContacts_enterSettling i _
  · exact s.keepsContacts_enterHeld i _

theorem State.keepsContacts_endWithdrawal : KeepsContacts i s (s.endWithdrawal i) :=
  ((s.keepsContacts_modCtx i).trans (State.keepsContacts_enterEnd _ i _)).trans
    (State.keepsContacts_postSlot _ i _ _ _)

theorem State.keepsContacts_endIfDone : KeepsContacts i s (s.endIfDone i) := by
  unfold State.endIfDone
  split
  · exact s.keepsContacts_endWithdrawal i
  · exact .refl i s

theorem State.keepsContacts_releaseWindow (g : ImageId) : KeepsContacts i s (s.releaseWindow i g) := by
  unfold State.releaseWindow
  split
  · exact .refl i s
  · have frees : ∀ x, KeepsContacts i s (s.setImage g x) := fun x => .of_slot_eq (State.slot_setImage s g x)
    exact (frees _).trans (State.keepsContacts_modCtx _ i fun _ => by cases g <;> rfl)

theorem State.keepsContacts_releaseWindows : KeepsContacts i s (s.releaseWindows i) :=
  ((s.keepsContacts_releaseWindow i .input).trans (State.keepsContacts_releaseWindow _ i .output)).trans
    (State.keepsContacts_modCtx _ i)

theorem State.keepsContacts_depart : KeepsContacts i s (s.depart i) :=
  (((s.keepsContacts_modScan i _).trans (State.keepsContacts_releaseWindows _ i)).trans
    (State.keepsContacts_powerStep _ i)).trans (State.keepsContacts_endIfDone _ i)

theorem State.keepsContacts_queueLeave : KeepsContacts i s (s.queueLeave i) :=
  .modSlot_of_eq

theorem State.keepsContacts_requestDeparture : KeepsContacts i s (s.requestDeparture i) := by
  unfold State.requestDeparture
  split
  · split
    · exact s.keepsContacts_modCtx i
    · exact s.keepsContacts_queueLeave i
  · exact s.keepsContacts_queueLeave i
  · exact (s.keepsContacts_queueLeave i).trans (State.keepsContacts_depart _ i)

/-! ### The start of a withdrawal (R29, R165, R166) -/

theorem State.keepsContacts_abortWork (old : SlotState) : KeepsContacts i s (s.abortWork i old) := by
  have stops : KeepsContacts i s (s.modDet i Detector.stop) := .modSlot_of_eq
  unfold State.abortWork
  split
  · exact s.keepsContacts_modCtx i
  · exact s.keepsContacts_leaveRampQueue i
  · exact .of_slot_eq fun _ => rfl
  · exact stops
  · exact (s.keepsContacts_modScan i _).trans (State.keepsContacts_releaseWindows _ i)
  · exact stops
  · exact .refl i s

theorem State.keepsContacts_markWithdrawing (reason : Reason) (dest : Destination) :
    KeepsContacts i s (s.markWithdrawing i reason dest) :=
  (s.keepsContacts_setState i .withdrawing).trans (State.keepsContacts_modCtx _ i)

theorem State.keepsContacts_postRefusal (reason : Reason) (data : List Byte) :
    KeepsContacts i s (s.postRefusal i reason data) := by
  unfold State.postRefusal
  split
  · exact s.keepsContacts_postSlot i _ _ _
  · exact .refl i s

theorem State.keepsContacts_beginWithdrawal (reason : Reason) (dest : Destination) (early : Bool) (data : List Byte) :
    KeepsContacts i s (s.beginWithdrawal i reason dest early data) := by
  have aborted := ((s.keepsContacts_markWithdrawing i reason dest).trans
    (State.keepsContacts_postRefusal _ i reason data)).trans (State.keepsContacts_abortWork _ i (s.ctx i).state)
  have departs : ∀ t : State, KeepsContacts i t
      (if t.inRoster i then t.requestDeparture i else (t.powerStep i).endIfDone i) := fun t => by
    split
    · exact t.keepsContacts_requestDeparture i
    · exact (t.keepsContacts_powerStep i).trans (State.keepsContacts_endIfDone _ i)
  cases early with
  | false => exact aborted.trans (departs _)
  | true => exact (aborted.trans (State.keepsContacts_powerStep _ i)).trans (departs _)

/-! ### The report of a contact change (R6, R25 to R28) -/

theorem State.keepsContacts_removeCard (contact : ContactState) : KeepsContacts i s (s.removeCard i contact) := by
  have skips : ∀ t : State, KeepsContacts i t (t.setSkip i) := fun t => t.keepsContacts_modScan i _
  have posts := s.keepsContacts_postSlot i .removed contact.code []
  have empties := (s.keepsContacts_enterEmpty i .vacant).trans
    (State.keepsContacts_postSlot _ i .removed contact.code [])
  unfold State.removeCard
  split
  · exact .refl i s
  · exact .refl i s
  · exact empties
  · exact empties
  · exact empties
  · exact (posts.trans (State.keepsContacts_powerStep _ i)).trans (skips _)
  · exact (posts.trans (skips _)).trans (State.keepsContacts_beginWithdrawal _ i _ _ _ _)

theorem State.keepsContacts_seatCard (cls : InrushClass) : KeepsContacts i s (s.seatCard i cls) := by
  unfold State.seatCard
  split
  · split
    · exact .refl i s
    · exact (s.keepsContacts_enterSettling i _).trans (State.keepsContacts_postSlot _ i _ _ _)
  · exact (s.keepsContacts_modCtx i).trans (State.keepsContacts_postSlot _ i _ _ _)
  · exact .refl i s

/-- The report of a contact change copies the new state into the context, whatever the slot's state, and the work that it
begins keeps that copy and the monitor's contacts (R6). -/
theorem State.keepsContacts_contactChange (old new : ContactState) (key : BitVec 3) :
    KeepsContacts i (s.modCtx i fun c => { c with contact := new }) (s.contactChange i old new key) := by
  have removes : ∀ (t : State) (c : ContactState), KeepsContacts i t (if old = .seated then t.removeCard i c else t) :=
    fun t c => by
      split
      · exact t.keepsContacts_removeCard i c
      · exact .refl i t
  cases new with
  | seated => exact State.keepsContacts_seatCard _ i _
  | partway => exact removes _ _
  | opened => exact removes _ _

end

/-! ## The contacts and the alert line of a sample -/

/-- A debounce step that leaves the contact state reports nothing to the sequencer (R6). -/
theorem State.sampleContacts_of_eq {s : State} {i : Slot} {raw : ContactState} {key : BitVec 3}
    (h : ((s.mon i).debounce s.params.makeFilter raw key).contact = (s.mon i).contact) :
    s.sampleContacts i raw key = s.modMon i fun m => m.debounce s.params.makeFilter raw key := by
  unfold State.sampleContacts
  exact if_pos (by simpa using h)

/-- A debounce step that changes the contact state reports it to the sequencer (R6). -/
theorem State.sampleContacts_of_ne {s : State} {i : Slot} {raw : ContactState} {key : BitVec 3}
    (h : ((s.mon i).debounce s.params.makeFilter raw key).contact ≠ (s.mon i).contact) :
    s.sampleContacts i raw key
      = (s.modMon i fun m => m.debounce s.params.makeFilter raw key).contactChange i (s.mon i).contact
          ((s.mon i).debounce s.params.makeFilter raw key).contact key := by
  unfold State.sampleContacts
  refine (if_neg (by simpa using h)).trans ?_
  simp

/-- What a debounce step that changes the contact state does: it writes the monitor's record, copies the new contact state
into the context, and leaves the rest to the sequencer (R3, R6). -/
theorem State.keepsContacts_sampleContacts {s : State} {i : Slot} {raw : ContactState} {key : BitVec 3} {m : Monitor}
    (hm : (s.mon i).debounce s.params.makeFilter raw key = m) (h : m.contact ≠ (s.mon i).contact) :
    KeepsContacts i (s.modSlot i fun r => { r with monitor := m, ctx := { r.ctx with contact := m.contact } })
      (s.sampleContacts i raw key) := by
  subst hm
  rw [State.sampleContacts_of_ne h]
  refine (KeepsContacts.of_slot_eq fun j => ?_).trans (State.keepsContacts_contactChange _ i _ _ key)
  by_cases hj : j = i
  · subst hj
    simp
  · simp [State.slot_modSlot_ne _ _ hj]

/-- The debounce step and its report leave every other slot outside the ramp queue (R1, R6). -/
theorem State.slot_sampleContacts_ne (s : State) {i j : Slot} (raw : ContactState) (key : BitVec 3) (hj : j ≠ i)
    (hq : (s.slot j).rail.queued = false) : (s.sampleContacts i raw key).slot j = s.slot j := by
  by_cases h : ((s.mon i).debounce s.params.makeFilter raw key).contact = (s.mon i).contact
  · rw [State.sampleContacts_of_eq h, State.modMon_eq, State.slot_modSlot_ne _ _ hj]
  · rw [(State.keepsContacts_sampleContacts rfl h).others j hj (by rw [State.slot_modSlot_ne _ _ hj]; exact hq),
      State.slot_modSlot_ne _ _ hj]

/-- Setting the sticky flag starts or extends the dark pulse and changes nothing else of the slot's record (R9, R14). -/
@[simp] theorem State.slot_setSticky_self (s : State) (i : Slot) :
    (s.setSticky i).slot i = { s.slot i with monitor := { (s.slot i).monitor with
      sticky := true, darkPulse := some Config.darkPulseUs } } := by
  unfold State.setSticky
  dsimp only
  split <;> simp

theorem State.slot_setSticky_ne (s : State) {i j : Slot} (hj : j ≠ i) : (s.setSticky i).slot j = s.slot j := by
  unfold State.setSticky
  dsimp only
  split <;> simp [State.slot_modSlot_ne _ _ hj]

/-- The alert line of a sample reaches the sticky flag, the dark pulse and the recorded level of its slot, and no other
field of its record (R8, R9). -/
theorem State.slot_sampleAlert_self (s : State) (i : Slot) (alert : Level) :
    ∃ sticky pulse, (s.sampleAlert i alert).slot i = { s.slot i with monitor := { (s.slot i).monitor with
      sticky := sticky, darkPulse := pulse, lastAlert := alert } } := by
  unfold State.sampleAlert
  dsimp only
  split
  · exact ⟨true, some Config.darkPulseUs, by simp⟩
  · exact ⟨(s.slot i).monitor.sticky, (s.slot i).monitor.darkPulse, by simp⟩

theorem State.slot_sampleAlert_ne (s : State) {i j : Slot} (alert : Level) (hj : j ≠ i) :
    (s.sampleAlert i alert).slot j = s.slot j := by
  unfold State.sampleAlert
  dsimp only
  split
  · simp [State.slot_modSlot_ne _ _ hj, State.slot_setSticky_ne s hj]
  · simp [State.slot_modSlot_ne _ _ hj]

/-! ## The sample (R1) -/

/-- The part after a sample of slot `i`'s lines. -/
def State.sample (s : State) (i : Slot) (raw : ContactState) (key : BitVec 3) (alert : Level) : State :=
  ((s.modMon i Monitor.countSample).sampleContacts i raw key).sampleAlert i alert

theorem exec_slotSample (i : Slot) (l x : ContactLine) (key : BitVec 3) (alert : Level) (s : State) :
    exec (.slotSample i l x key alert) s = .next (s.sample i (rawContact l x) key alert) := rfl

/-- The monitor's record of slot `i` as the debounce step of a sample leaves it, with the sample counted. -/
def State.debounced (s : State) (i : Slot) (raw : ContactState) (key : BitVec 3) : Monitor :=
  (s.mon i).countSample.debounce s.params.makeFilter raw key

@[simp] theorem Monitor.countSample_contact (m : Monitor) : m.countSample.contact = m.contact := rfl

section
variable (s : State) (i : Slot) (raw : ContactState) (key : BitVec 3) (alert : Level)

theorem State.lastAlert_sample : ((s.sample i raw key alert).mon i).lastAlert = alert := by
  obtain ⟨sticky, pulse, h⟩ :=
    ((s.modMon i Monitor.countSample).sampleContacts i raw key).slot_sampleAlert_self i alert
  rw [State.mon_eq, State.sample, h]

theorem State.slot_sample_ne {j : Slot} (hj : j ≠ i) (hq : (s.slot j).rail.queued = false) :
    (s.sample i raw key alert).slot j = s.slot j := by
  have counts : (s.modMon i Monitor.countSample).slot j = s.slot j := State.slot_modSlot_ne s _ hj
  rw [State.sample, State.slot_sampleAlert_ne _ alert hj,
    State.slot_sampleContacts_ne _ raw key hj (by rw [counts]; exact hq), counts]

variable {s i raw key}

/-- A sample that leaves the contact state does the debounce step and reads the alert line, and changes nothing else of
its slot. -/
theorem State.slot_sample_of_eq (h : (s.debounced i raw key).contact = (s.mon i).contact) :
    ∃ sticky pulse, (s.sample i raw key alert).slot i = { s.slot i with monitor := { s.debounced i raw key with
      sticky := sticky, darkPulse := pulse, lastAlert := alert } } := by
  obtain ⟨sticky, pulse, e⟩ :=
    ((s.modMon i Monitor.countSample).sampleContacts i raw key).slot_sampleAlert_self i alert
  refine ⟨sticky, pulse, ?_⟩
  rw [State.sample, e, State.sampleContacts_of_eq (by simpa [State.debounced] using h)]
  simp [State.debounced]

/-- A sample that changes the contact state copies it into the context, and whatever the sequencer does of it leaves what
the debounce step and the reading of the keying pins have written (R6, R7). -/
theorem State.sample_of_ne (h : (s.debounced i raw key).contact ≠ (s.mon i).contact) :
    ((s.sample i raw key alert).mon i).contact = (s.debounced i raw key).contact
      ∧ ((s.sample i raw key alert).ctx i).contact = (s.debounced i raw key).contact
      ∧ ((s.sample i raw key alert).mon i).candidate = (s.debounced i raw key).candidate
      ∧ ((s.sample i raw key alert).mon i).run = (s.debounced i raw key).run
      ∧ ((s.sample i raw key alert).mon i).seatedClass = (s.debounced i raw key).seatedClass := by
  obtain ⟨sticky, pulse, e⟩ :=
    ((s.modMon i Monitor.countSample).sampleContacts i raw key).slot_sampleAlert_self i alert
  have kept := (State.keepsContacts_sampleContacts (s := s.modMon i Monitor.countSample) (i := i) (raw := raw)
    (key := key) (m := s.debounced i raw key) (by simp [State.debounced]) (by simpa using h)).own
  rw [State.slot_modSlot_self] at kept
  rw [State.mon_eq, State.ctx_eq, State.sample, e]
  refine ⟨?_, kept.contact, ?_, ?_, ?_⟩ <;> dsimp only <;> rw [kept.monitor]

end

/-- Settles O36: a sample that leaves the contact state is the debounce step alone, and the report of one that changes it
keeps the contacts in every slot state. -/
theorem samplesAreDebounced : Obligations.SamplesAreDebounced := by
  refine ⟨rfl, rfl, rfl, rfl, fun i l x key alert s => ?_⟩
  refine ⟨_, exec_slotSample i l x key alert s, s.lastAlert_sample i _ key alert,
    fun _ => s.slot_sample_ne i _ key alert, fun same => ?_, fun differs => ⟨fun short => ?_, fun full => ?_⟩⟩
  · have step := Monitor.debounce_of_eq (m := (s.mon i).countSample) same s.params.makeFilter key
    obtain ⟨sticky, pulse, e⟩ := State.slot_sample_of_eq alert (by rw [State.debounced, step]; rfl)
    rw [State.mon_eq, State.ctx_eq, e, State.debounced, step]
    exact ⟨rfl, rfl, rfl, rfl, rfl, rfl, rfl, rfl, rfl⟩
  · have step := Monitor.debounce_of_lt (m := (s.mon i).countSample) differs short key
    obtain ⟨sticky, pulse, e⟩ := State.slot_sample_of_eq alert (by rw [State.debounced, step]; rfl)
    rw [State.mon_eq, State.ctx_eq, e, State.debounced, step]
    exact ⟨rfl, rfl, rfl, rfl, rfl⟩
  · have step : s.debounced i (rawContact l x) key = _ :=
      (Monitor.debounce_of_le (m := (s.mon i).countSample) differs full key).trans (Monitor.readKey_eq _ key)
    obtain ⟨hmon, hctx, hcand, hrun, hclass⟩ := State.sample_of_ne alert (by rw [step]; exact differs)
    rw [hmon, hctx, hcand, hrun, hclass, step]
    exact ⟨rfl, rfl, rfl, rfl, rfl⟩

end Sys2Proof.Machine

/-! RELEASE and RETRY (Section 2): a slot that enters a state from one other than ONLINE, the start of a detector for its
qualification, and a slot that drops its match and settles afresh. -/

namespace Sys2Proof.Machine

open Sys2Proof Sys2Proof.Safety

/-! ## Entering a state -/

/-- A slot that was not ONLINE takes the state and its LED pattern, and nothing more (R13). -/
theorem SlotRecord.enter_of_ne_online {r : SlotRecord} (h : r.ctx.state ≠ .online) (st : SlotState) :
    r.enter st = { r with monitor := r.monitor.showPattern st.pattern, ctx := { r.ctx with state := st } } :=
  if_neg fun online => h online.1

theorem SlotRecord.enter_seatedClass (st : SlotState) (r : SlotRecord) :
    (r.enter st).monitor.seatedClass = r.monitor.seatedClass := by
  rw [SlotRecord.enter_monitor]

/-! ## The start of a qualification (R35, R94) -/

/-- Entering a state and starting the detector is one change of the slot's record. -/
theorem State.setState_startDetector (s : State) (i : Slot) (st : SlotState) (duty : Duty) :
    (s.setState i st).startDetector i duty = s.modSlot i fun r =>
      { r.enter st with detector := r.detector.start duty (s.ctx i).identity s.clock.refLost s.qualUs } := by
  unfold State.startDetector State.qualUs
  simp [State.modSlot_modSlot]

/-! ## A dropped match and a change of the slot's record -/

theorem State.slot_dropMatch_self (s : State) (i : Slot) :
    (s.dropMatch i).slot i = { s.slot i with ctx := { (s.slot i).ctx with matched := none } } := by
  rw [State.slot_dropMatch, if_pos rfl]

/-- An answer after a dropped match and a change of the slot's record meets the frame of the three. -/
theorem onlySlotAndMatch_dropMatch_modSlot (s : State) (i : Slot) (f : SlotRecord → SlotRecord) (c t : Byte)
    (st : Status) (b : List Byte) (o : Option Bool) :
    OnlySlotAndMatch i s (((s.dropMatch i).modSlot i f).answerWith c t st b o) := by
  obtain ⟨-, age, rest⟩ := s.dropMatch_spec i
  refine ⟨fun j hj => ?_, ?_, age⟩
  · rw [State.slot_answerWith, State.slot_modSlot_ne _ f hj, State.slot_dropMatch, if_neg hj]
  · exact congrArg (fun u : State => { u with notices := s.notices, link := s.link }) rest

/-- The change of the record that follows leaves the match dropped where it does not store another (R113). -/
theorem matchDropped_modSlot {s u : State} {i : Slot} {f : SlotRecord → SlotRecord} (h : MatchDropped i s u)
    (hf : (f (u.slot i)).ctx.matched = (u.slot i).ctx.matched) : MatchDropped i s (u.modSlot i f) := by
  obtain ⟨absent, entries⟩ := h
  refine ⟨?_, entries⟩
  rw [State.ctx_eq, State.slot_modSlot_self, hf]
  exact absent

theorem State.dropMatch_notices (s : State) (i : Slot) : (s.dropMatch i).notices = s.notices := by
  obtain ⟨-, -, rest⟩ := s.dropMatch_spec i
  exact (congrArg State.notices rest :)

theorem State.dropMatch_link (s : State) (i : Slot) : (s.dropMatch i).link = s.link := by
  obtain ⟨-, -, rest⟩ := s.dropMatch_spec i
  exact (congrArg State.link rest :)

/-! ## Entering SETTLING (R23) and RETRY (R46) -/

/-- A slot's record as it enters SETTLING with a settle time, its match aside. -/
def SlotRecord.settleFor (us : Nat) (r : SlotRecord) : SlotRecord :=
  { r.enter .settling with ctx := { (r.enter .settling).ctx with
      identity := none, verdict := none, inrushClass := r.monitor.seatedClass, settleTimer := some us } }

/-- Entering SETTLING leaves of the context what is not named here: the policy, the attempts and the fault record among
them. -/
theorem SlotRecord.settleFor_ctx (us : Nat) (r : SlotRecord) :
    (r.settleFor us).ctx = { r.ctx with
      state := .settling, missCount := (r.enter .settling).ctx.missCount, identity := none, verdict := none
      inrushClass := r.monitor.seatedClass, settleTimer := some us } := by
  unfold SlotRecord.settleFor
  rw [SlotRecord.enter_ctx]

@[simp] theorem SlotRecord.settleFor_rail (us : Nat) (r : SlotRecord) : (r.settleFor us).rail = r.rail :=
  r.enter_rail .settling

@[simp] theorem SlotRecord.settleFor_detector (us : Nat) (r : SlotRecord) : (r.settleFor us).detector = r.detector :=
  r.enter_detector .settling

@[simp] theorem SlotRecord.settleFor_scan (us : Nat) (r : SlotRecord) : (r.settleFor us).scan = r.scan :=
  r.enter_scan .settling

theorem State.enterSettling_eq (s : State) (i : Slot) (us : Nat) :
    s.enterSettling i us = (s.dropMatch i).modSlot i (SlotRecord.settleFor us) := by
  unfold State.enterSettling
  rw [State.setState_eq, State.modSlot_modSlot]
  simp only [SlotRecord.enter_seatedClass]
  rfl

/-- A slot's record as RETRY settles it afresh, its match aside. -/
def SlotRecord.retryFor (us : Nat) (r : SlotRecord) : SlotRecord :=
  { r.settleFor us with ctx := { (r.settleFor us).ctx with attempts := 0 } }

theorem State.retrySlot_eq (s : State) (i : Slot) :
    s.retrySlot i = (s.dropMatch i).modSlot i (SlotRecord.retryFor s.settleUs) := by
  unfold State.retrySlot
  rw [State.enterSettling_eq, State.modCtx_eq, State.modSlot_modSlot]
  rfl

theorem SlotRecord.retryFor_ctx (us : Nat) (r : SlotRecord) :
    (r.retryFor us).ctx = { r.ctx with
      state := .settling, missCount := (r.enter .settling).ctx.missCount, identity := none, verdict := none
      inrushClass := r.monitor.seatedClass, settleTimer := some us, attempts := 0 } := by
  unfold SlotRecord.retryFor
  rw [SlotRecord.settleFor_ctx]

@[simp] theorem SlotRecord.retryFor_rail (us : Nat) (r : SlotRecord) : (r.retryFor us).rail = r.rail :=
  r.settleFor_rail us

@[simp] theorem SlotRecord.retryFor_detector (us : Nat) (r : SlotRecord) : (r.retryFor us).detector = r.detector :=
  r.settleFor_detector us

@[simp] theorem SlotRecord.retryFor_scan (us : Nat) (r : SlotRecord) : (r.retryFor us).scan = r.scan :=
  r.settleFor_scan us

/-! ## The requests (R35, R46) -/

section
variable {s : State} {i : Slot} (tag : Byte) (on : s.safeOff = false)
include on

theorem exec_release_of_parked (h : (s.ctx i).state = .parked) :
    exec (.release tag (byteOf i.val)) s
      = .next (((s.setState i .qualifying).startDetector i .qualify).reply 0x11 tag .ok []) := by
  change Host.Outcome.next (requestRelease tag (byteOf i.val) s) = _
  simp only [requestRelease, slotOf_byteOf, on, h, Bool.false_eq_true, if_true, if_false]

theorem exec_release_of_ne_parked (h : (s.ctx i).state ≠ .parked) :
    exec (.release tag (byteOf i.val)) s = .next (s.reply 0x11 tag .wrongState []) := by
  change Host.Outcome.next (requestRelease tag (byteOf i.val) s) = _
  simp only [requestRelease, slotOf_byteOf, on, h, Bool.false_eq_true, if_false]

theorem exec_retry_of_held (h : (s.ctx i).state = .refused ∨ (s.ctx i).state = .quarantined) :
    exec (.retry tag (byteOf i.val)) s = .next ((s.retrySlot i).reply 0x13 tag .ok []) := by
  change Host.Outcome.next (requestRetry tag (byteOf i.val) s) = _
  simp only [requestRetry, slotOf_byteOf, on, h, Bool.false_eq_true, if_true, if_false]

theorem exec_retry_of_not_held (hr : (s.ctx i).state ≠ .refused) (hq : (s.ctx i).state ≠ .quarantined) :
    exec (.retry tag (byteOf i.val)) s = .next (s.reply 0x13 tag .wrongState []) := by
  change Host.Outcome.next (requestRetry tag (byteOf i.val) s) = _
  simp only [requestRetry, slotOf_byteOf, on, hr, hq, or_self, Bool.false_eq_true, if_false]

end

/-- Settles O20: a taken RELEASE is one change of the slot's record, which was not ONLINE; a taken RETRY is a dropped match
and one change of the record; a refused request is its answer alone. -/
theorem releaseAndRetryResumeTheBringUp : Obligations.ReleaseAndRetryResumeTheBringUp := by
  intro tag i s on
  refine ⟨fun parked => ?_, fun h => ?_, fun held => ?_, fun hr hq => ?_⟩
  · have entered := SlotRecord.enter_of_ne_online (r := s.slot i) (by rw [← State.ctx_eq, parked]; decide) .qualifying
    refine ⟨_, exec_release_of_parked tag on parked, ?_⟩
    rw [State.reply_eq, State.setState_startDetector]
    refine ⟨onlySlotAndLink_modSlot s i _ _ _ _ _ _, rfl, ?_⟩
    rw [State.ctx_eq] at parked
    rw [State.ctx_eq, State.det_eq, State.railOf_eq, State.scanOf_eq, State.mon_eq, State.slot_answerWith,
      State.slot_modSlot_self, entered]
    refine ⟨by rw [← parked]; rfl, rfl, rfl, rfl, rfl, rfl, rfl, fun ref => ?_, fun lost => ?_, rfl, rfl,
      Monitor.showPattern_contact _ _⟩
    · rw [ref]
      exact ⟨rfl, rfl⟩
    · rw [lost]
      exact ⟨rfl, rfl⟩
  · exact ⟨_, exec_release_of_ne_parked tag on h, onlyLink_answerWith s _ _ _ _ _, answers_reply s _ _ _ _⟩
  · have dropped : MatchDropped i s ((s.dropMatch i).modSlot i (SlotRecord.retryFor s.settleUs)) :=
      matchDropped_modSlot (s.dropMatch_spec i).1 (by rw [SlotRecord.retryFor_ctx])
    refine ⟨_, exec_retry_of_held tag on held, ?_⟩
    rw [State.reply_eq, State.retrySlot_eq]
    refine ⟨onlySlotAndMatch_dropMatch_modSlot s i _ _ _ _ _ _, ?_, s.dropMatch_notices i, dropped, ?_⟩
    · unfold Answers
      rw [State.answerWith_link, State.modSlot_link, State.dropMatch_link]
    · rw [State.ctx_eq, State.railOf_eq, State.det_eq, State.scanOf_eq, State.slot_answerWith, State.slot_modSlot_self,
        State.slot_dropMatch_self, SlotRecord.retryFor_ctx, SlotRecord.retryFor_rail, SlotRecord.retryFor_detector,
        SlotRecord.retryFor_scan]
      exact ⟨rfl, rfl, rfl, rfl, rfl, rfl, rfl, rfl, rfl, rfl, rfl⟩
  · exact ⟨_, exec_retry_of_not_held tag on hr hq, onlyLink_answerWith s _ _ _ _ _, answers_reply s _ _ _ _⟩

end Sys2Proof.Machine

/-! The admission directory (Section 6): the lowest index whose entry meets a test, an ageing sweep as the sum of its
visits, and the requests that write one entry or none. -/

namespace Sys2Proof.Machine

open Sys2Proof Sys2Proof.Safety

/-! ## The indexes in ascending order (R112) -/

theorem allIndexes_eq_finRange : allIndexes = List.finRange 48 := by decide

theorem mem_allIndexes (k : EntryIndex) : k ∈ allIndexes := by
  rw [allIndexes_eq_finRange]
  exact List.mem_finRange k

theorem nodup_allIndexes : allIndexes.Nodup := by
  rw [allIndexes_eq_finRange]
  exact List.nodup_finRange 48

/-! ## The lowest entry that meets a test (R112, R117) -/

theorem State.findEntry_eq_some {s : State} {p : Entry → Bool} {k : EntryIndex} (meets : p (s.entry k) = true)
    (lowest : ∀ j, j < k → p (s.entry j) = false) : s.findEntry p = some k := by
  unfold State.findEntry
  rw [allIndexes_eq_finRange, List.find?_eq_some_iff_getElem]
  refine ⟨meets, k.val, by simp, by simp, fun j hj => ?_⟩
  rw [List.getElem_finRange, lowest _ (Fin.lt_def.mpr hj)]
  rfl

theorem State.findEntry_eq_none {s : State} {p : Entry → Bool} (h : ∀ k, p (s.entry k) = false) :
    s.findEntry p = none :=
  List.find?_eq_none.mpr fun k _ => by simp [h k]

/-- The test of a search by key is that the entry has the key. -/
theorem Entry.hasKey_iff (e : Entry) (key : EntryKey) :
    (e.body.any fun b => b.key == key) = true ↔ e.body.map EntryBody.key = some key := by
  cases e.body <;> simp

theorem Entry.hasKey_eq_false {e : Entry} {key : EntryKey} (h : e.body.map EntryBody.key ≠ some key) :
    (e.body.any fun b => b.key == key) = false :=
  Bool.eq_false_iff.mpr fun c => h ((e.hasKey_iff key).mp c)

theorem State.findKey_eq_some {s : State} {key : EntryKey} {k : EntryIndex}
    (has : (s.entry k).body.map EntryBody.key = some key)
    (lowest : ∀ j, j < k → (s.entry j).body.map EntryBody.key ≠ some key) : s.findKey key = some k :=
  State.findEntry_eq_some (((s.entry k).hasKey_iff key).mpr has) fun j hj => Entry.hasKey_eq_false (lowest j hj)

theorem State.findKey_eq_none {s : State} {key : EntryKey}
    (h : ∀ k, (s.entry k).body.map EntryBody.key ≠ some key) : s.findKey key = none :=
  State.findEntry_eq_none fun k => Entry.hasKey_eq_false (h k)

theorem State.findFree_eq_some {s : State} {k : EntryIndex} (free : (s.entry k).body = none)
    (lowest : ∀ j, j < k → (s.entry j).body ≠ none) : s.findFree = some k :=
  State.findEntry_eq_some (Option.isNone_iff_eq_none.mpr free) fun j hj =>
    Option.isNone_eq_false_iff.mpr (Option.isSome_iff_ne_none.mpr (lowest j hj))

theorem State.findFree_eq_none {s : State} (h : ∀ k, (s.entry k).body ≠ none) : s.findFree = none :=
  State.findEntry_eq_none fun k => Option.isNone_eq_false_iff.mpr (Option.isSome_iff_ne_none.mpr (h k))

/-! ## A request's outcome: its answer alone, or one entry written with its answer -/

@[simp] theorem State.entry_answerWith (s : State) (c t : Byte) (st : Status) (b : List Byte) (o : Option Bool)
    (k : EntryIndex) : (s.answerWith c t st b o).entry k = s.entry k := rfl

section
variable {s : State} {k : EntryIndex} {c tag : Byte} {st : Status} {body : List Byte}
  {o : Host.Outcome State Fault Refusal}

theorem answered_of_eq_reply (h : o = .next (s.reply c tag st body)) :
    ∃ t, o = .next t ∧ OnlyLink s t ∧ Answers s t c tag st body :=
  ⟨_, h, onlyLink_answerWith s c tag st body none, answers_reply s c tag st body⟩

/-- A request that writes one entry and answers changes that entry and the link unit. -/
theorem entryWritten_of_eq_reply {f : Entry → Entry} (h : o = .next ((s.modEntry k f).reply c tag st body)) :
    ∃ t, o = .next t ∧ OnlyDirectoryAndLink s t ∧ t.directory.ageTimer = s.directory.ageTimer
      ∧ t.entry k = f (s.entry k) ∧ (∀ j, j ≠ k → t.entry j = s.entry j) ∧ Answers s t c tag st body := by
  refine ⟨_, h, rfl, rfl, ?_, fun j hj => ?_, rfl⟩
  · rw [State.reply_eq, State.entry_answerWith, State.entry_modEntry_self]
  · rw [State.reply_eq, State.entry_answerWith, State.entry_modEntry_ne _ _ hj]

end

/-! ## DIRECTORY ADD (R116, R117) -/

/-- Every body that R116 lets pass describes a STATIC entry. -/
theorem entryBodyOf_origin {body : EntryBytes} {b : EntryBody} (h : entryBodyOf body = some b) : b.origin = .static := by
  simp only [entryBodyOf, bind, Option.bind_eq_some_iff, pure, Option.some.injEq] at h
  obtain ⟨_, -, _, -, _, -, _, -, _, -, rfl⟩ := h
  rfl

section
variable {s : State} {b : EntryBody} {k : EntryIndex} (tag : Byte)

theorem exec_directoryAdd_of_body {body : EntryBytes} (on : s.safeOff = false) (hb : entryBodyOf body = some b) :
    exec (.directoryAdd tag body) s = .next (s.addEntry tag b) := by
  change Host.Outcome.next (requestDirectoryAdd tag body s) = _
  simp only [requestDirectoryAdd, on, hb, Bool.false_eq_true, if_false]

theorem State.addEntry_of_run (run : s.mode = .run) : s.addEntry tag b = s.reply 0x20 tag .locked [] :=
  if_pos run

theorem State.addEntry_of_findKey (mode : s.mode = .commission) (has : s.findKey b.key = some k) :
    s.addEntry tag b = s.reply 0x20 tag .duplicate [byteOf k.val] := by
  simp [State.addEntry, mode, has]

theorem State.addEntry_of_full (mode : s.mode = .commission) (new : s.findKey b.key = none)
    (full : s.findFree = none) : s.addEntry tag b = s.reply 0x20 tag .full [] := by
  simp only [State.addEntry, mode, new, full, reduceCtorEq, if_false]

theorem State.addEntry_of_findFree (mode : s.mode = .commission) (new : s.findKey b.key = none)
    (free : s.findFree = some k) :
    s.addEntry tag b = (s.modEntry k fun _ => ⟨some b, 0⟩).reply 0x20 tag .ok [byteOf k.val] := by
  simp only [State.addEntry, mode, new, free, reduceCtorEq, if_false]

end

/-- Settles O26: the tests of R117 in their order, each a search of the directory for the lowest entry. -/
theorem directoryAddTakesTheLowestFreeEntry : Obligations.DirectoryAddTakesTheLowestFreeEntry := by
  intro tag body b s on hb
  rw [exec_directoryAdd_of_body tag on hb]
  refine ⟨entryBodyOf_origin hb, fun run => ?_, fun mode k c hc key lowest => ?_, fun mode new full => ?_,
    fun mode new k free lowest => ?_⟩
  · exact answered_of_eq_reply (congrArg _ (State.addEntry_of_run tag run))
  · have has : s.findKey b.key = some k := State.findKey_eq_some (by rw [hc, ← key]; rfl) lowest
    exact answered_of_eq_reply (congrArg _ (State.addEntry_of_findKey tag mode has))
  · exact answered_of_eq_reply
      (congrArg _ (State.addEntry_of_full tag mode (State.findKey_eq_none new) (State.findFree_eq_none full)))
  · exact entryWritten_of_eq_reply
      (congrArg _ (State.addEntry_of_findFree tag mode (State.findKey_eq_none new) (State.findFree_eq_some free lowest)))

/-! ## DIRECTORY DELETE and DIRECTORY KEEP (R118, R121) -/

section
variable {s : State} {k : EntryIndex} {b : EntryBody} (tag : Byte)

theorem exec_directoryDelete_of_index (on : s.safeOff = false) :
    exec (.directoryDelete tag (byteOf k.val)) s = .next (s.deleteEntry tag k) := by
  change Host.Outcome.next (requestDirectoryDelete tag (byteOf k.val) s) = _
  simp only [requestDirectoryDelete, on, indexOf_byteOf, Bool.false_eq_true, if_false]

theorem exec_directoryKeep_of_index (on : s.safeOff = false) :
    exec (.directoryKeep tag (byteOf k.val)) s = .next (s.keepEntry tag k) := by
  change Host.Outcome.next (requestDirectoryKeep tag (byteOf k.val) s) = _
  simp only [requestDirectoryKeep, on, indexOf_byteOf, Bool.false_eq_true, if_false]

theorem State.deleteEntry_of_free (free : (s.entry k).body = none) :
    s.deleteEntry tag k = s.reply 0x21 tag .already [] := by
  simp only [State.deleteEntry, free]

theorem State.deleteEntry_of_locked (hb : (s.entry k).body = some b) (static : b.origin = .static)
    (run : s.mode = .run) : s.deleteEntry tag k = s.reply 0x21 tag .locked [] := by
  simp only [State.deleteEntry, hb, static, run, and_self, if_true]

/-- Only a STATIC entry in RUN is LOCKED against DELETE (R118). -/
theorem not_locked_of_origin_or_mode (h : b.origin ≠ .static ∨ s.mode = .commission) :
    ¬ (b.origin = .static ∧ s.mode = .run) := by
  rintro ⟨static, run⟩
  rcases h with learned | mode
  · exact learned static
  · rw [mode] at run
    cases run

theorem State.deleteEntry_of_used (hb : (s.entry k).body = some b) (h : b.origin ≠ .static ∨ s.mode = .commission)
    (used : 0 < (s.entry k).users) :
    s.deleteEntry tag k = s.reply 0x21 tag .inUse [byteOf (s.entry k).users] := by
  simp only [State.deleteEntry, hb, not_locked_of_origin_or_mode h, used, if_false, if_true]

theorem State.deleteEntry_of_unused (hb : (s.entry k).body = some b)
    (h : b.origin ≠ .static ∨ s.mode = .commission) (unused : (s.entry k).users = 0) :
    s.deleteEntry tag k = (s.modEntry k fun _ => Entry.free).reply 0x21 tag .ok [] := by
  simp only [State.deleteEntry, hb, not_locked_of_origin_or_mode h, unused, Nat.lt_irrefl, if_false]

theorem State.keepEntry_of_run (run : s.mode = .run) : s.keepEntry tag k = s.reply 0x24 tag .locked [] :=
  if_pos run

theorem State.keepEntry_of_free (mode : s.mode = .commission) (free : (s.entry k).body = none) :
    s.keepEntry tag k = s.reply 0x24 tag .wrongState [] := by
  simp only [State.keepEntry, mode, free, reduceCtorEq, if_false]

theorem State.keepEntry_of_static (mode : s.mode = .commission) (hb : (s.entry k).body = some b)
    (static : b.origin = .static) : s.keepEntry tag k = s.reply 0x24 tag .wrongState [] := by
  simp only [State.keepEntry, mode, hb, static, reduceCtorEq, if_false, if_true]

theorem State.keepEntry_of_learned (mode : s.mode = .commission) (hb : (s.entry k).body = some b)
    (learned : b.origin ≠ .static) :
    s.keepEntry tag k
      = (s.modEntry k fun e => { e with body := some { b with origin := .static } }).reply 0x24 tag .ok [] := by
  simp only [State.keepEntry, mode, hb, learned, reduceCtorEq, if_false]

end

/-- Settles O27: each outcome of the two requests is its answer alone, or one entry written with its answer. -/
theorem directoryDeleteAndKeepFollowTheirTests : Obligations.DirectoryDeleteAndKeepFollowTheirTests := by
  intro tag k s on
  rw [exec_directoryDelete_of_index tag on, exec_directoryKeep_of_index tag on]
  refine ⟨fun free => ?_, fun b hb static run => ?_, fun b hb h used => ?_, fun b hb h unused => ?_, fun run => ?_,
    fun mode h => ?_, fun b mode hb learned => ?_⟩
  · exact answered_of_eq_reply (congrArg _ (State.deleteEntry_of_free tag free))
  · exact answered_of_eq_reply (congrArg _ (State.deleteEntry_of_locked tag hb static run))
  · exact answered_of_eq_reply (congrArg _ (State.deleteEntry_of_used tag hb h used))
  · exact entryWritten_of_eq_reply (congrArg _ (State.deleteEntry_of_unused tag hb h unused))
  · exact answered_of_eq_reply (congrArg _ (State.keepEntry_of_run tag run))
  · rcases h with free | ⟨b, hb, static⟩
    · exact answered_of_eq_reply (congrArg _ (State.keepEntry_of_free tag mode free))
    · exact answered_of_eq_reply (congrArg _ (State.keepEntry_of_static tag mode hb static))
  · exact entryWritten_of_eq_reply (congrArg _ (State.keepEntry_of_learned tag mode hb learned))

/-! ## One entry at a sweep (R130) -/

theorem Entry.age_eq_aged (e : Entry) : e.age = Aged e := by
  obtain ⟨body, users⟩ := e
  rcases body with _ | ⟨key, action, origin, pin, service, reserve⟩
  · rfl
  rcases origin with _ | age
  · rfl
  cases age <;> simp [Entry.age, Aged, Entry.free]

/-- An entry that was not FREE is FREE after its visit exactly where it expires. -/
theorem Entry.freed_eq_expires (e : Entry) : (e.body.isSome && e.age.body.isNone) = Expires e := by
  rw [Entry.age_eq_aged]
  obtain ⟨body, users⟩ := e
  rcases body with _ | ⟨key, action, origin, pin, service, reserve⟩
  · rfl
  rcases origin with _ | age
  · rfl
  rcases Nat.eq_zero_or_pos users with rfl | used
  · cases age <;> rfl
  · simp [Aged, Expires, used, used.ne']

/-! ## A sweep (R130) -/

/-- The notice that an entry's expiry posts (R130). -/
def agedOutNotice (k : EntryIndex) : Notice := ⟨.agedOut, none, 0, [byteOf k.val]⟩

/-- `t` is `s` after a visit to each entry of `l` in turn: what a sweep of these entries changes, and its frame. -/
structure SweptAlong (l : List EntryIndex) (s t : State) : Prop where
  entry : ∀ j, t.entry j = if j ∈ l then Aged (s.entry j) else s.entry j
  ageTimer : t.directory.ageTimer = s.directory.ageTimer
  notices : t.notices
    = (l.filter fun k => Expires (s.entry k)).foldl (fun q k => q.offer (agedOutNotice k)) s.notices
  rest : { t with directory := s.directory, notices := s.notices } = s

theorem State.sweptAlong_ageEntry (s : State) (k : EntryIndex) : SweptAlong [k] s (s.ageEntry k) := by
  unfold State.ageEntry
  rw [Entry.freed_eq_expires]
  have aged (j : EntryIndex) : (s.modEntry k Entry.age).entry j = if j ∈ [k] then Aged (s.entry j) else s.entry j := by
    by_cases e : j = k
    · subst e
      rw [State.entry_modEntry_self, Entry.age_eq_aged, if_pos (List.mem_singleton_self j)]
    · rw [State.entry_modEntry_ne _ _ e, if_neg (by simpa using e)]
  by_cases expires : Expires (s.entry k) = true
  · rw [if_pos expires]
    exact ⟨aged, rfl, by simp [expires, agedOutNotice], rfl⟩
  · rw [if_neg expires]
    exact ⟨aged, rfl, by simp [expires], rfl⟩

/-- A visit leaves the entries still to be visited as they were, so the sweep of the rest judges them as they stood. -/
theorem SweptAlong.cons {k : EntryIndex} {l : List EntryIndex} {s t u : State} (new : k ∉ l)
    (head : SweptAlong [k] s t) (tail : SweptAlong l t u) : SweptAlong (k :: l) s u where
  entry j := by
    rw [tail.entry, head.entry]
    by_cases e : j = k
    · subst e
      simp [new]
    · simp [e]
  ageTimer := tail.ageTimer.trans head.ageTimer
  notices := by
    have same : (l.filter fun j => Expires (t.entry j)) = l.filter fun j => Expires (s.entry j) :=
      List.filter_congr fun j hj => by
        rw [head.entry, if_neg (by rw [List.mem_singleton]; exact fun e => new (e ▸ hj))]
    rw [tail.notices, head.notices, same, ← List.foldl_append, ← List.filter_append]
    rfl
  rest := by
    have visited := congrArg (fun v : State => { v with directory := s.directory, notices := s.notices }) tail.rest
    exact visited.trans head.rest

theorem State.sweptAlong_foldl {l : List EntryIndex} (distinct : l.Nodup) (s : State) :
    SweptAlong l s (l.foldl State.ageEntry s) := by
  induction l generalizing s with
  | nil => exact ⟨fun _ => rfl, rfl, rfl, rfl⟩
  | cons k l ih =>
    obtain ⟨new, distinct⟩ := List.nodup_cons.mp distinct
    exact (s.sweptAlong_ageEntry k).cons new (ih distinct _)

theorem State.sweptAlong_sweep (s : State) : SweptAlong allIndexes s s.sweep :=
  State.sweptAlong_foldl nodup_allIndexes s

theorem State.sweepFrees_eq (s : State) :
    s.sweepFrees = (allIndexes.filter fun k => Expires (s.entry k)).length := by
  simp only [State.sweepFrees, Entry.freed_eq_expires]

theorem SweptAlong.aged {s t : State} (h : SweptAlong allIndexes s t) (k : EntryIndex) :
    t.entry k = Aged (s.entry k) := by
  rw [h.entry, if_pos (mem_allIndexes k)]

theorem SweptAlong.link {l : List EntryIndex} {s t : State} (h : SweptAlong l s t) : t.link = s.link :=
  (congrArg State.link h.rest :)

theorem SweptAlong.params {l : List EntryIndex} {s t : State} (h : SweptAlong l s t) : t.params = s.params :=
  (congrArg State.params h.rest :)

/-! ## AGE SWEEP and the age interval timer (R131, R132) -/

theorem exec_ageSweep {s : State} (tag : Byte) (on : s.safeOff = false) :
    exec (.ageSweep tag) s = .next (s.sweep.reply 0x25 tag .ok [byteOf s.sweepFrees]) := by
  change Host.Outcome.next (requestAgeSweep tag s) = _
  simp only [requestAgeSweep, on, Bool.false_eq_true, if_false]

/-- The age interval timer starts with AGE_INTERVAL, and not at all where that is 0 (R132). -/
theorem exec_ageIntervalExpiry {s : State} (running : s.directory.ageTimer ≠ none) :
    exec .ageIntervalExpiry s
      = .next { s.sweep with directory := { s.sweep.directory with ageTimer := s.params.ageTimer } } := by
  obtain ⟨us, h⟩ := Option.ne_none_iff_exists'.mp running
  change execAgeIntervalExpiry s = _
  simp only [execAgeIntervalExpiry, h, s.sweptAlong_sweep.params, Params.ageTimer]

/-- Settles O29: both ends of a sweep are the sweep itself, with an answer or with the timer's start. -/
theorem ageingSweepsTheLearnedEntries : Obligations.AgeingSweepsTheLearnedEntries := by
  intro s
  have swept := s.sweptAlong_sweep
  refine ⟨fun tag on => ?_, fun running => ?_⟩
  · rw [exec_ageSweep tag on, State.sweepFrees_eq]
    generalize s.sweep = t at swept
    exact ⟨_, rfl, swept.aged, swept.ageTimer, swept.notices,
      congrArg (fun u : State => { u with link := s.link }) swept.rest, congrArg (Link.take · _) swept.link⟩
  · rw [exec_ageIntervalExpiry running]
    generalize s.sweep = t at swept
    exact ⟨_, rfl, swept.aged, rfl, swept.notices, swept.rest⟩

end Sys2Proof.Machine

/-! FETCH NOTICES (Section 10): the one request that takes notices out of the queue. -/

namespace Sys2Proof.Machine

open Sys2Proof Sys2Proof.Safety

/-! ## The two outcomes of FETCH NOTICES (R188) -/

section
variable {maximum : Byte} (tag : Byte) (s : State)

/-- The bound on the notices is the request's only test (R188). -/
theorem exec_fetchNotices_of_out_of_range (h : maximum.toNat = 0 ∨ 8 < maximum.toNat) :
    exec (.fetchNotices tag maximum) s = .next (s.reply 0x03 tag .badValue []) :=
  congrArg Host.Outcome.next (if_pos h)

/-- A fetch splits the queue at the maximum: the front goes into the answer, with OVERFLOW as it stood, and the rest stays
with OVERFLOW clear (R188). -/
theorem exec_fetchNotices_of_in_range (low : 1 ≤ maximum.toNat) (high : maximum.toNat ≤ 8) :
    exec (.fetchNotices tag maximum) s = .next
      { s.answerWith 0x03 tag .ok (noticesBody (s.notices.queue.take maximum.toNat)) (some s.notices.overflow) with
        notices := ⟨s.notices.queue.drop maximum.toNat, false⟩ } :=
  congrArg Host.Outcome.next (if_neg (by omega))

end

/-- Settles O14: a maximum within 1 to 8 splits the queue, and any other is answered and nothing more. -/
theorem fetchNoticesRemovesTheOldest : Obligations.FetchNoticesRemovesTheOldest := by
  intro tag maximum s
  refine ⟨fun ⟨low, high⟩ => ?_, fun outside => ?_⟩
  · exact ⟨_, exec_fetchNotices_of_in_range tag s low high, rfl, rfl, rfl⟩
  · exact answered_of_eq_reply (exec_fetchNotices_of_out_of_range tag s outside)

end Sys2Proof.Machine

/-! SET MODE (Section 11): the codes of the two modes, and the outcome of each test and of each row of its table. -/

namespace Sys2Proof.Machine

open Sys2Proof Sys2Proof.Safety

/-! ## The mode codes (R192) -/

@[simp] theorem modeOfCode_code (m : RackMode) : modeOfCode m.code = some m := by
  cases m <;> rfl

theorem modeOfCode_of_one_lt {b : Byte} (h : 1 < b.toNat) : modeOfCode b = none := by
  have not_commission : b ≠ 0 := by rintro rfl; exact absurd h (by decide)
  have not_run : b ≠ 1 := by rintro rfl; exact absurd h (by decide)
  rw [modeOfCode, if_neg not_commission, if_neg not_run]

theorem exists_code_of_le_one {b : Byte} (h : b.toNat ≤ 1) : ∃ m : RackMode, b = m.code := by
  obtain zero | one : b.toNat = 0 ∨ b.toNat = 1 := by omega
  · exact ⟨.commission, BitVec.eq_of_toNat_eq zero⟩
  · exact ⟨.run, BitVec.eq_of_toNat_eq one⟩

/-! ## The three tests in their order (R192) -/

section
variable {s : State} {mode : Byte} (tag : Byte)

theorem requestSetMode_of_one_lt (h : 1 < mode.toNat) :
    requestSetMode tag mode s = s.reply 0x40 tag .badValue [s.mode.code] := by
  simp only [requestSetMode, modeOfCode_of_one_lt h, State.modeReply]

theorem requestSetMode_of_safeOff (h : mode.toNat ≤ 1) (safe : s.safeOff = true) :
    requestSetMode tag mode s = s.reply 0x40 tag .safeOff [s.mode.code] := by
  obtain ⟨m, rfl⟩ := exists_code_of_le_one h
  simp only [requestSetMode, modeOfCode_code, safe, if_true, State.modeReply]

theorem requestSetMode_code (m : RackMode) (on : s.safeOff = false) :
    requestSetMode tag m.code s = s.changeMode tag m := by
  simp only [requestSetMode, modeOfCode_code, on, Bool.false_eq_true, if_false]

/-! ## The rows of the table (R192) -/

theorem State.changeMode_present : s.changeMode tag s.mode = s.reply 0x40 tag .already [s.mode.code] :=
  if_pos rfl

theorem State.changeMode_run (present : s.mode = .commission) :
    s.changeMode tag .run = { s with mode := .run }.reply 0x40 tag .ok [RackMode.run.code] := by
  simp only [State.changeMode, present, reduceCtorEq, false_and, if_false, State.modeReply]

theorem State.changeMode_commission_of_stopped (present : s.mode = .run) (stopped : s.scan.state = .stopped) :
    s.changeMode tag .commission
      = { s with mode := .commission }.reply 0x40 tag .ok [RackMode.commission.code] := by
  simp only [State.changeMode, present, stopped, reduceCtorEq, ne_eq, not_true_eq_false, and_false, if_false,
    State.modeReply]

theorem State.changeMode_commission_of_not_stopped (present : s.mode = .run) (scanning : s.scan.state ≠ .stopped) :
    s.changeMode tag .commission = s.reply 0x40 tag .wrongState [RackMode.run.code] := by
  simp only [State.changeMode, present, scanning, reduceCtorEq, ne_eq, not_false_eq_true, and_self, if_false, if_true,
    State.modeReply]

end

/-! ## What the two kinds of outcome leave -/

section
variable {s t : State} {c tag : Byte} {st : Status} {body : List Byte}

theorem onlyLink_and_answers_of_eq_reply (h : t = s.reply c tag st body) :
    OnlyLink s t ∧ Answers s t c tag st body := by
  subst h
  exact ⟨onlyLink_answerWith s c tag st body none, answers_reply s c tag st body⟩

/-- A change of mode with its answer leaves every field but the mode and the link unit. -/
theorem modeChanged_of_eq_reply {m n : RackMode} (present : s.mode = m)
    (h : t = { s with mode := n }.reply c tag st body) :
    { t with mode := m, link := s.link } = s ∧ t.mode = n ∧ Answers s t c tag st body := by
  subst present h
  exact ⟨rfl, rfl, rfl⟩

end

/-- Settles O31: each test and each row of the table is its answer alone, or a change of the mode with its answer. -/
theorem setModeFollowsItsTable : Obligations.SetModeFollowsItsTable := by
  intro tag mode s
  refine ⟨requestSetMode tag mode s, rfl, fun unknown => ?_, fun known safe => ?_, fun _ on => ⟨?_, ?_, ?_, ?_⟩⟩
  · exact onlyLink_and_answers_of_eq_reply (requestSetMode_of_one_lt tag unknown)
  · exact onlyLink_and_answers_of_eq_reply (requestSetMode_of_safeOff tag known safe)
  · rintro rfl
    exact onlyLink_and_answers_of_eq_reply ((requestSetMode_code tag s.mode on).trans (State.changeMode_present tag))
  · rintro rfl present
    exact modeChanged_of_eq_reply present
      ((requestSetMode_code tag .run on).trans (State.changeMode_run tag present))
  · rintro rfl present stopped
    exact modeChanged_of_eq_reply present
      ((requestSetMode_code tag .commission on).trans (State.changeMode_commission_of_stopped tag present stopped))
  · rintro rfl present scanning
    exact onlyLink_and_answers_of_eq_reply
      ((requestSetMode_code tag .commission on).trans (State.changeMode_commission_of_not_stopped tag present scanning))

end Sys2Proof.Machine

/-! What every step keeps. `State.Keeps s t` says that `t` meets every invariant of Safety.lean that `s` meets, with the
same commands waiting and the same SAFE_OFF flag; each shared operation of the part is shown to keep them once, and the
commands follow by composition. From here on declarations are elaborated one after another (`Elab.async false`): elaborated side
by side, so many proofs in one text need more threads than the check's memory limit holds. -/

namespace Sys2Proof.Machine

open Sys2Proof Sys2Proof.Safety

set_option Elab.async false

/-! ## Sums over the slots -/

theorem allSlots_eq_finRange : allSlots = List.finRange 12 := by decide

theorem State.total_eq_sum (s : State) (f : SlotRecord → Nat) : s.total f = ∑ i, f (s.slot i) := by
  rw [State.total, allSlots_eq_finRange, ← List.ofFn_eq_map, List.sum_ofFn]

theorem State.length_slotsWith (s : State) (p : SlotRecord → Bool) :
    (s.slotsWith p).length = s.total fun r => if p r then 1 else 0 := by
  rw [State.slotsWith, State.total, ← List.countP_eq_length_filter]
  induction allSlots with
  | nil => rfl
  | cons i l ih =>
    rw [List.countP_cons, ih, List.map_cons, List.sum_cons, Nat.add_comm]

section
variable {s t : State} {f : SlotRecord → Nat}

theorem State.total_le (h : ∀ j, f (t.slot j) ≤ f (s.slot j)) : t.total f ≤ s.total f := by
  rw [State.total_eq_sum, State.total_eq_sum]
  exact Finset.sum_le_sum fun j _ => h j

theorem State.total_congr (h : ∀ j, f (t.slot j) = f (s.slot j)) : t.total f = s.total f := by
  rw [State.total_eq_sum, State.total_eq_sum]
  exact Finset.sum_congr rfl fun j _ => h j

/-- A change of one slot moves a sum by that slot's term. -/
theorem State.total_change {i : Slot} (h : ∀ j, j ≠ i → f (t.slot j) = f (s.slot j)) :
    t.total f + f (s.slot i) = s.total f + f (t.slot i) := by
  rw [State.total_eq_sum, State.total_eq_sum,
    ← Finset.add_sum_erase _ (fun j => f (t.slot j)) (Finset.mem_univ i),
    ← Finset.add_sum_erase _ (fun j => f (s.slot j)) (Finset.mem_univ i)]
  have rest : ∑ j ∈ Finset.univ.erase i, f (t.slot j) = ∑ j ∈ Finset.univ.erase i, f (s.slot j) :=
    Finset.sum_congr rfl fun j hj => h j (Finset.ne_of_mem_erase hj)
  omega

theorem State.le_total (s : State) (f : SlotRecord → Nat) (i : Slot) : f (s.slot i) ≤ s.total f := by
  rw [State.total_eq_sum]
  exact Finset.single_le_sum (f := fun j => f (s.slot j)) (fun _ _ => Nat.zero_le _) (Finset.mem_univ i)

end

theorem State.rampingCount_eq_total (s : State) :
    s.rampingCount = s.total fun r => if r.ctx.state = .ramping then 1 else 0 := by
  rw [State.rampingCount, State.length_slotsWith]
  simp only [decide_eq_true_eq]

/-! ## Each invariant under a change that leaves or lowers its terms -/

/-- The contact state copied is the monitor's, and the LED pattern that of the state (R6, R13). -/
def SlotRecord.Shown (r : SlotRecord) : Prop := r.ctx.contact = r.monitor.contact ∧ r.monitor.pattern = r.ctx.state.pattern

/-- The invariant of the lane controller (R78, 4.1). -/
def Lane.Sound (l : Lane) : Prop :=
  (l.transaction.isSome = true ↔ l.state = .partBusy) ∧ (l.message.isSome = true ↔ l.state = .cardBusy)
    ∧ (l.recoveryTimer.isSome = true ↔ l.state = .recovering)

theorem laneSound_iff (s : State) : LaneSound s ↔ s.lane.Sound := Iff.rfl

theorem slotsShown_iff (s : State) : SlotsShown s ↔ ∀ i, (s.slot i).Shown := Iff.rfl

section
variable {s t : State}

theorem accountsBounded_of_le (inrush : ∀ j, (t.slot j).ctx.inrushCommitted ≤ (s.slot j).ctx.inrushCommitted)
    (steady : ∀ j, (t.slot j).ctx.steadyCommitted ≤ (s.slot j).ctx.steadyCommitted)
    (params : t.params = s.params) (effective : t.rail.effective = s.rail.effective) (h : AccountsBounded s) :
    AccountsBounded t := by
  obtain ⟨hi, hs, he⟩ := h
  refine ⟨le_trans (State.total_le inrush) ?_, le_trans (State.total_le steady) ?_, ?_⟩
  · rw [params]; exact hi
  · rw [params]; exact hs
  · rw [params, effective]; exact he

theorem State.rampingCount_le (ramping : ∀ j, (t.slot j).ctx.state = .ramping → (s.slot j).ctx.state = .ramping) :
    t.rampingCount ≤ s.rampingCount := by
  rw [State.rampingCount_eq_total, State.rampingCount_eq_total]
  refine State.total_le fun j => ?_
  by_cases h : (t.slot j).ctx.state = .ramping
  · simp [h, ramping j h]
  · simp [h]

theorem rampsBounded_of_imp (ramping : ∀ j, (t.slot j).ctx.state = .ramping → (s.slot j).ctx.state = .ramping)
    (params : t.params = s.params) (h : RampsBounded s) : RampsBounded t :=
  le_trans (State.rampingCount_le ramping) (by rw [params]; exact h)

theorem loadBounded_of_le (cost : ∀ j, (t.slot j).scan.cost.getD 0 ≤ (s.slot j).scan.cost.getD 0)
    (params : t.params = s.params) (h : LoadBounded s) : LoadBounded t :=
  le_trans (State.total_le cost) (by rw [State.budget, params]; exact h)

theorem usersCounted_of_matched (matched : ∀ j, (t.slot j).ctx.matched = (s.slot j).ctx.matched)
    (entry : ∀ k, (t.entry k).users = (s.entry k).users
      ∧ (((s.entry k).body = none → (s.entry k).users = 0) → (t.entry k).body = none → (t.entry k).users = 0))
    (h : UsersCounted s) : UsersCounted t := by
  intro k
  obtain ⟨hu, hf⟩ := h k
  obtain ⟨eu, ef⟩ := entry k
  refine ⟨?_, ef hf⟩
  rw [eu, hu, State.length_slotsWith, State.length_slotsWith]
  exact (State.total_congr fun j => by rw [matched j]).symm

theorem State.entry_of_entries (h : t.directory.entries = s.directory.entries) (k : EntryIndex) :
    t.entry k = s.entry k := by rw [State.entry, h]; rfl

theorem usersCounted_of_eq (matched : ∀ j, (t.slot j).ctx.matched = (s.slot j).ctx.matched)
    (entries : t.directory.entries = s.directory.entries) : UsersCounted s → UsersCounted t :=
  usersCounted_of_matched matched fun k => by rw [State.entry_of_entries entries k]; exact ⟨rfl, id⟩

variable {g : ImageId}

theorem segmentsSound_of_eq (window : ∀ j, (t.ctx j).window g = (s.ctx j).window g)
    (free : (t.image g).free = (s.image g).free) (h : SegmentsSound s g) : SegmentsSound t g := by
  obtain ⟨hf, hw, ha⟩ := h
  refine ⟨by rw [free]; exact hf, fun i w => ?_, fun i j w v ne => ?_⟩
  · rw [window, free]; exact hw i w
  · rw [window, window]; exact ha i j w v ne

theorem segmentsCounted_of_eq (window : ∀ j, (t.ctx j).window g = (s.ctx j).window g)
    (free : (t.image g).free = (s.image g).free) (h : SegmentsCounted s g) : SegmentsCounted t g := by
  have sum : t.total (fun r => windowCount (r.ctx.window g)) = s.total fun r => windowCount (r.ctx.window g) :=
    State.total_congr fun j => congrArg windowCount (window j)
  have total : (t.image g).freeTotal = (s.image g).freeTotal := by rw [Image.freeTotal, free]; rfl
  rw [SegmentsCounted, sum, total]
  exact h

end

/-! ## Keeping them all -/

/-- `t` meets every invariant that `s` meets. -/
structure State.KeepsInvariants (s t : State) : Prop where
  accounts : AccountsBounded s → AccountsBounded t
  ramps : RampsBounded s → RampsBounded t
  load : LoadBounded s → LoadBounded t
  notices : NoticesBounded s → NoticesBounded t
  users : UsersCounted s → UsersCounted t
  shown : SlotsShown s → SlotsShown t
  lane : LaneSound s → LaneSound t
  segments : ∀ g, SegmentsSound s g → SegmentsSound t g
  counted : ∀ g, SegmentsCounted s g → SegmentsCounted t g
  canonical : ImagesCanonical s → ImagesCanonical t

/-- `t` meets every invariant that `s` meets, with the same commands waiting, the same link and the same SAFE_OFF flag. -/
structure State.Keeps (s t : State) : Prop extends State.KeepsInvariants s t where
  pending : t.pending = s.pending
  link : t.link = s.link
  safeOff : t.safeOff = s.safeOff

theorem State.KeepsInvariants.trans {s t u : State} (h : KeepsInvariants s t) (g : KeepsInvariants t u) :
    KeepsInvariants s u where
  accounts := g.accounts ∘ h.accounts
  ramps := g.ramps ∘ h.ramps
  load := g.load ∘ h.load
  notices := g.notices ∘ h.notices
  users := g.users ∘ h.users
  shown := g.shown ∘ h.shown
  lane := g.lane ∘ h.lane
  segments x := g.segments x ∘ h.segments x
  counted x := g.counted x ∘ h.counted x
  canonical := g.canonical ∘ h.canonical

theorem State.Keeps.trans {s t u : State} (h : Keeps s t) (g : Keeps t u) : Keeps s u where
  toKeepsInvariants := h.toKeepsInvariants.trans g.toKeepsInvariants
  pending := g.pending.trans h.pending
  link := g.link.trans h.link
  safeOff := g.safeOff.trans h.safeOff

/-- The fields of a context that an invariant reads. -/
def Context.terms (c : Context) :
    SlotState × ContactState × Option EntryIndex × Nat × Nat × Option Window × Option Window :=
  (c.state, c.contact, c.matched, c.inrushCommitted, c.steadyCommitted, c.inWindow, c.outWindow)

/-- What a change of one slot's record may do without a look at the rest of the part: it commits no more, begins no ramp,
takes no scan time, and leaves the match, the windows, and the agreement of contacts and LED. -/
structure SlotRecord.Keeps (r q : SlotRecord) : Prop where
  inrush : q.ctx.inrushCommitted ≤ r.ctx.inrushCommitted
  steady : q.ctx.steadyCommitted ≤ r.ctx.steadyCommitted
  cost : q.scan.cost.getD 0 ≤ r.scan.cost.getD 0
  ramping : q.ctx.state = .ramping → r.ctx.state = .ramping
  matched : q.ctx.matched = r.ctx.matched
  window : ∀ g, q.ctx.window g = r.ctx.window g
  shown : r.Shown → q.Shown

theorem SlotRecord.Keeps.refl (r : SlotRecord) : Keeps r r :=
  ⟨le_rfl, le_rfl, le_rfl, id, rfl, fun _ => rfl, id⟩

theorem SlotRecord.Keeps.trans {a b c : SlotRecord} (h : Keeps a b) (g : Keeps b c) : Keeps a c where
  inrush := g.inrush.trans h.inrush
  steady := g.steady.trans h.steady
  cost := g.cost.trans h.cost
  ramping := h.ramping ∘ g.ramping
  matched := g.matched.trans h.matched
  window x := (g.window x).trans (h.window x)
  shown := g.shown ∘ h.shown

/-- A change outside the context and the scan cost that leaves the contact and the pattern. -/
theorem SlotRecord.Keeps.of_ctx {r q : SlotRecord} (ctx : q.ctx = r.ctx)
    (cost : q.scan.cost.getD 0 ≤ r.scan.cost.getD 0)
    (contact : q.monitor.contact = r.monitor.contact) (pattern : q.monitor.pattern = r.monitor.pattern) : Keeps r q where
  inrush := by rw [ctx]
  steady := by rw [ctx]
  cost := cost
  ramping := by rw [ctx]; exact id
  matched := by rw [ctx]
  window _ := by rw [ctx]
  shown := by unfold Shown; rw [ctx, contact, pattern]; exact id

/-- A change of the whole part that keeps each slot's record: the lane, the notices and the bytes of the images each keep
their own invariant, and no other field that an invariant reads changes. -/
theorem State.Keeps.of_slots {s t : State} (slots : ∀ j, SlotRecord.Keeps (s.slot j) (t.slot j))
    (params : t.params = s.params := by rfl) (effective : t.rail.effective = s.rail.effective := by rfl)
    (lane : s.lane.Sound → t.lane.Sound := by exact id)
    (entries : t.directory.entries = s.directory.entries := by rfl)
    (free : ∀ g, (t.image g).free = (s.image g).free := by intro; rfl)
    (canonical : ImagesCanonical s → ImagesCanonical t := by exact id)
    (notices : NoticesBounded s → NoticesBounded t := by exact id)
    (pending : t.pending = s.pending := by rfl) (link : t.link = s.link := by rfl)
    (safeOff : t.safeOff = s.safeOff := by rfl) : Keeps s t where
  accounts := accountsBounded_of_le (fun j => (slots j).inrush) (fun j => (slots j).steady) params effective
  ramps := rampsBounded_of_imp (fun j => (slots j).ramping) params
  load := loadBounded_of_le (fun j => (slots j).cost) params
  notices := notices
  users := usersCounted_of_eq (fun j => (slots j).matched) entries
  shown h j := (slots j).shown (h j)
  lane := lane
  segments g := segmentsSound_of_eq (fun j => (slots j).window g) (free g)
  counted g := segmentsCounted_of_eq (fun j => (slots j).window g) (free g)
  canonical := canonical
  pending := pending
  link := link
  safeOff := safeOff

theorem State.Keeps.refl (s : State) : Keeps s s := .of_slots fun _ => .refl _

section
variable (s : State) (i : Slot)

theorem State.keeps_modSlot {f : SlotRecord → SlotRecord} (h : SlotRecord.Keeps (s.slot i) (f (s.slot i))) :
    Keeps s (s.modSlot i f) := by
  refine .of_slots (fun j => ?_) (free := fun g => by rw [State.image_modSlot])
  rw [State.slot_modSlot]
  split
  · rename_i e; rw [e]; exact h
  · exact .refl _

/-- A change of a slot's context that leaves the fields that the invariants read. -/
theorem SlotRecord.Keeps.of_terms {r : SlotRecord} {c : Context} (h : c.terms = r.ctx.terms) :
    Keeps r { r with ctx := c } := by
  simp only [Context.terms, Prod.mk.injEq] at h
  obtain ⟨state, contact, matched, inrush, steady, win, wout⟩ := h
  exact
    { inrush := le_of_eq inrush
      steady := le_of_eq steady
      cost := le_rfl
      ramping := fun x => state.symm.trans x
      matched := matched
      window := fun g => by cases g; exacts [win, wout]
      shown := fun ⟨hc, hp⟩ => ⟨contact.trans hc, hp.trans (congrArg SlotState.pattern state).symm⟩ }

theorem State.keeps_modCtx {f : Context → Context} (h : ∀ c, (f c).terms = c.terms := by intro; rfl) :
    Keeps s (s.modCtx i f) :=
  s.keeps_modSlot i (.of_terms (h _))

/-- A change of a slot's monitor that leaves the contact state and the pattern. -/
theorem State.keeps_modMon {f : Monitor → Monitor} (contact : ∀ m, (f m).contact = m.contact := by intro; rfl)
    (pattern : ∀ m, (f m).pattern = m.pattern := by intro; rfl) : Keeps s (s.modMon i f) :=
  s.keeps_modSlot i (.of_ctx rfl le_rfl (contact _) (pattern _))

theorem State.keeps_modRail (f : RailSlot → RailSlot) : Keeps s (s.modRail i f) :=
  s.keeps_modSlot i (.of_ctx rfl le_rfl rfl rfl)

theorem State.keeps_modDet (f : Detector → Detector) : Keeps s (s.modDet i f) :=
  s.keeps_modSlot i (.of_ctx rfl le_rfl rfl rfl)

/-- A change of a slot's scan record that takes no more scan time. -/
theorem State.keeps_modScan {f : ScanSlot → ScanSlot} (h : ∀ c, (f c).cost.getD 0 ≤ c.cost.getD 0) :
    Keeps s (s.modScan i f) :=
  s.keeps_modSlot i (.of_ctx rfl (h _) rfl rfl)

/-- A slot enters a state other than RAMPING, which only a grant gives. -/
theorem SlotRecord.keeps_enter {st : SlotState} (h : st ≠ .ramping) (r : SlotRecord) : Keeps r (r.enter st) where
  inrush := by simp
  steady := by simp
  cost := by simp
  ramping := by simp [h]
  matched := by simp
  window g := by cases g <;> simp [Context.window]
  shown := fun ⟨hc, _⟩ => ⟨by simpa using hc, by simp⟩

theorem State.keeps_setState {st : SlotState} (h : st ≠ .ramping) : Keeps s (s.setState i st) :=
  s.keeps_modSlot i (SlotRecord.keeps_enter h _)

theorem State.keeps_post (n : Notice) : Keeps s (s.post n) :=
  .of_slots (fun _ => .refl _) (free := fun g => by rw [State.image_post]) (notices := fun h => Notices.length_offer h n)

theorem State.keeps_modLane {f : Lane → Lane} (h : s.lane.Sound → (f s.lane).Sound) : Keeps s (s.modLane f) :=
  .of_slots (fun _ => .refl _) (lane := h) (free := fun g => by cases g <;> rfl)

theorem State.keeps_modScanRack (f : Scan → Scan) : Keeps s (s.modScanRack f) :=
  .of_slots (fun _ => .refl _) (free := fun g => by cases g <;> rfl)

theorem State.keeps_mapSlots {f : SlotRecord → SlotRecord} (h : ∀ r, SlotRecord.Keeps r (f r)) :
    Keeps s (s.mapSlots f) :=
  .of_slots (fun j => by rw [State.slot_mapSlots]; exact h _) (free := fun g => by cases g <;> rfl)

end

end Sys2Proof.Machine

namespace Sys2Proof.Machine

open Sys2Proof Sys2Proof.Safety

set_option Elab.async false

section
variable (s : State) (i : Slot)

/-! ## The accounts: a grant and what follows it (R58, R63, R65) -/

/-- A sum over the slots after a grant: the slot's term is replaced. -/
theorem State.total_grant (f : SlotRecord → Nat) :
    (s.grant i).total f + f (s.slot i)
      = s.total f + f ((SlotRecord.grant (s.classRow i) s.rampUs (s.slot i)).enter .ramping) := by
  have h := State.total_change (s := s) (t := s.grant i) (f := f) (i := i)
    fun j hj => congrArg f (State.slot_grant_ne s hj)
  rwa [State.slot_grant_self] at h

theorem State.grantFits_iff : s.grantFits i = true ↔
    s.ci + (s.classRow i).inrush ≤ s.params.inrushBudget
      ∧ s.cs + (s.classRow i).provisional ≤ s.rail.effective
      ∧ s.rampingCount < s.params.rampLimit ∧ s.rail.brownout = false ∧ s.clock.frozen = false := by
  simp [State.grantFits, and_assoc]

/-- A grant that fits keeps every invariant: this is what the conditions of R63 are for. -/
theorem State.keeps_grant (fits : s.grantFits i = true) : Keeps s (s.grant i) := by
  obtain ⟨inrush, steady, ramps, -, -⟩ := (s.grantFits_iff i).mp fits
  have others : ∀ {α : Type} (f : SlotRecord → α) (_ : f ((SlotRecord.grant (s.classRow i) s.rampUs (s.slot i)).enter .ramping)
      = f (s.slot i)) (j : Slot), f ((s.grant i).slot j) = f (s.slot j) := by
    intro α f own j
    by_cases e : j = i
    · subst e; rw [State.slot_grant_self]; exact own
    · rw [State.slot_grant_ne s e]
  have matched := others (fun r => r.ctx.matched) (by simp [SlotRecord.grant])
  have window := fun g => others (fun r => r.ctx.window g) (by cases g <;> simp [Context.window, SlotRecord.grant])
  have cost := others (fun r => r.scan.cost.getD 0) (by simp [SlotRecord.grant])
  have ci := s.total_grant i fun r => r.ctx.inrushCommitted
  have cs := s.total_grant i fun r => r.ctx.steadyCommitted
  have count := s.total_grant i fun r => if r.ctx.state = .ramping then 1 else 0
  simp only [SlotRecord.enter_ctx_inrushCommitted, SlotRecord.enter_ctx_steadyCommitted, SlotRecord.enter_state,
    if_true] at ci cs count
  rw [← State.rampingCount_eq_total, ← State.rampingCount_eq_total] at count
  exact
    { accounts := fun ⟨_, _, he⟩ => by
        refine ⟨?_, ?_, he⟩
        · exact le_trans (le_trans (Nat.le_add_right _ _) (le_of_eq ci)) inrush
        · exact le_trans (le_trans (le_trans (Nat.le_add_right _ _) (le_of_eq cs)) steady) he
      ramps := fun _ => by
        show (s.grant i).rampingCount ≤ s.params.rampLimit
        omega
      load := loadBounded_of_le (fun j => le_of_eq (cost j)) rfl
      notices := id
      users := usersCounted_of_eq matched rfl
      shown := fun h j => by
        by_cases e : j = i
        · subst e
          rw [State.ctx_eq, State.mon_eq, State.slot_grant_self]
          exact ⟨by simpa [SlotRecord.grant] using (h j).1, by simp⟩
        · rw [State.ctx_eq, State.mon_eq, State.slot_grant_ne s e]
          exact h j
      lane := id
      segments := fun g => segmentsSound_of_eq (fun j => window g j) (by cases g <;> rfl)
      counted := fun g => segmentsCounted_of_eq (fun j => window g j) (by cases g <;> rfl)
      canonical := id
      pending := rfl
      link := rfl
      safeOff := rfl }

theorem State.keeps_arbitrate : Keeps s s.arbitrate :=
  State.arbitrate_induct (P := Keeps s) s (.refl s) fun t i h _ fits => h.trans (t.keeps_grant i fits)

/-! ## Switches and the ramp queue (R59, R60, R69, R71) -/

theorem State.keeps_openSwitch : Keeps s (s.openSwitch i) :=
  s.keeps_modSlot i
    { inrush := Nat.zero_le _, steady := Nat.zero_le _, cost := le_rfl, ramping := id, matched := rfl
      window := fun g => by cases g <;> rfl
      shown := id }

theorem State.keeps_powerStep : Keeps s (s.powerStep i) := by
  unfold State.powerStep
  split
  · exact (s.keeps_openSwitch i).trans (State.keeps_arbitrate _)
  · exact .refl s

theorem State.keeps_joinRampQueue : Keeps s (s.joinRampQueue i) :=
  ((s.keeps_modRail i _).trans (State.keeps_setState _ i (by decide))).trans (State.keeps_arbitrate _)

theorem State.keeps_leaveRampQueue : Keeps s (s.leaveRampQueue i) := by
  unfold State.leaveRampQueue
  split
  · exact (s.keeps_modRail i _).trans (State.keeps_arbitrate _)
  · exact .refl s

end

/-! ## Match references (R113) -/

section
variable {s t : State}

/-- A change that an account of users sees: everything else is as it was, and slot by slot only the match may differ. -/
theorem State.Keeps.of_users (users : UsersCounted s → UsersCounted t)
    (slots : ∀ j, t.slot j = { s.slot j with ctx := { (s.slot j).ctx with matched := (t.slot j).ctx.matched } })
    (rest : { t with slots := s.slots, directory := s.directory } = s) : Keeps s t := by
  have field : ∀ {α : Type} (f : State → α), f { t with slots := s.slots, directory := s.directory } = f s :=
    fun f => congrArg f rest
  have ctx : ∀ j, (t.slot j).ctx = { (s.slot j).ctx with matched := (t.slot j).ctx.matched } := fun j =>
    congrArg SlotRecord.ctx (slots j)
  have image : ∀ g, t.image g = s.image g := fun g => by
    cases g
    · exact field State.imageIn
    · exact field State.imageOut
  have window : ∀ g j, (t.ctx j).window g = (s.ctx j).window g := fun g j => by
    rw [State.ctx_eq, State.ctx_eq, ctx]; cases g <;> rfl
  have params := field State.params
  have rail := field State.rail
  exact
    { accounts := accountsBounded_of_le (fun j => by rw [ctx]) (fun j => by rw [ctx]) params
        (congrArg Rail.effective rail)
      ramps := rampsBounded_of_imp (fun j => by rw [ctx]; exact id) params
      load := loadBounded_of_le (fun j => by rw [slots]) params
      notices := by unfold NoticesBounded; rw [show t.notices = s.notices from field State.notices]; exact id
      users := users
      shown := fun h j => by
        obtain ⟨contact, pattern⟩ := h j
        have e := slots j
        rw [State.ctx_eq, State.mon_eq, e]
        exact ⟨contact, pattern⟩
      lane := by unfold LaneSound; rw [show t.lane = s.lane from field State.lane]; exact id
      segments := fun g => segmentsSound_of_eq (window g) (by rw [image])
      counted := fun g => segmentsCounted_of_eq (window g) (by rw [image])
      canonical := by
        unfold ImagesCanonical
        rw [show t.imageIn = s.imageIn from image .input, show t.imageOut = s.imageOut from image .output]
        exact id
      pending := field State.pending
      link := field State.link
      safeOff := field State.safeOff }

/-- The slots whose match names an entry, after slot `i`'s match has gone from `a` to `b`. -/
theorem State.matches_change {i : Slot} {a b : Option EntryIndex} (own : (s.slot i).ctx.matched = a)
    (now : (t.slot i).ctx.matched = b) (others : ∀ j, j ≠ i → t.slot j = s.slot j) (k : EntryIndex) :
    (t.slotsWith fun r => r.ctx.matched == some k).length + (if a = some k then 1 else 0)
      = (s.slotsWith fun r => r.ctx.matched == some k).length + (if b = some k then 1 else 0) := by
  rw [State.length_slotsWith, State.length_slotsWith]
  have h := State.total_change (s := s) (t := t) (i := i)
    (f := fun r => if (r.ctx.matched == some k) = true then 1 else 0) fun j hj => by rw [others j hj]
  simpa only [own, now, beq_iff_eq] using h

end

section
variable (s : State) (i : Slot)

theorem State.usersCounted_dropMatch (h : UsersCounted s) : UsersCounted (s.dropMatch i) := by
  obtain ⟨⟨gone, entry⟩, -, -⟩ := s.dropMatch_spec i
  intro k
  obtain ⟨users, free⟩ := h k
  have count := State.matches_change (s := s) (t := s.dropMatch i) rfl gone
    (fun j hj => by rw [State.slot_dropMatch, if_neg hj]) k
  rw [entry k]
  by_cases e : (s.slot i).ctx.matched = some k
  · rw [if_pos (by simpa using e)]
    rw [if_pos e] at count
    refine ⟨?_, fun hb => by have := free hb; simp [this]⟩
    show (s.entry k).users - 1 = _
    simp only [reduceCtorEq, if_false] at count
    omega
  · rw [if_neg (by simpa using e)]
    rw [if_neg e] at count
    simp only [reduceCtorEq, if_false] at count
    exact ⟨by omega, free⟩

theorem State.keeps_dropMatch : Keeps s (s.dropMatch i) := by
  obtain ⟨-, -, rest⟩ := s.dropMatch_spec i
  refine .of_users (s.usersCounted_dropMatch i) (fun j => ?_) rest
  rw [State.slot_dropMatch]
  split
  · rename_i e; rw [e]
  · rfl

/-- A match is stored for an entry that is not FREE (R113, R127). -/
theorem State.keeps_storeMatch {k : EntryIndex} (used : (s.entry k).body ≠ none) : Keeps s (s.storeMatch i k) := by
  refine (s.keeps_dropMatch i).trans ?_
  obtain ⟨⟨gone, entry⟩, -, -⟩ := s.dropMatch_spec i
  have used : ((s.dropMatch i).entry k).body ≠ none := by
    rw [entry k]; split <;> exact used
  unfold State.storeMatch
  generalize s.dropMatch i = u at gone used
  refine .of_users (fun h => ?_) (fun j => ?_) rfl
  · intro m
    obtain ⟨users, free⟩ := h m
    have count := State.matches_change (s := u)
      (t := (u.modEntry k fun e => { e with users := e.users + 1 }).modCtx i fun c => { c with matched := some k })
      gone (b := some k) (by simp) (fun j hj => by simp [State.slot_modSlot_ne _ _ hj]) m
    simp only [State.modCtx_eq, State.entry_modSlot, reduceCtorEq, if_false, Option.some.injEq] at count ⊢
    by_cases e : k = m
    · subst e
      rw [if_pos rfl] at count
      rw [State.entry_modEntry_self]
      exact ⟨by show (u.entry k).users + 1 = _; omega, fun hb => absurd hb used⟩
    · rw [if_neg e] at count
      rw [State.entry_modEntry_ne _ _ (fun c => e c.symm)]
      exact ⟨by omega, free⟩
  · simp only [State.modCtx_eq, State.slot_modSlot, State.slot_modEntry]
    split
    · rename_i e; rw [e]
    · rfl

/-- A change of one entry that leaves its users count and frees it only where it has no users. -/
theorem State.keeps_modEntry {k : EntryIndex} {f : Entry → Entry} (users : (f (s.entry k)).users = (s.entry k).users)
    (free : ((s.entry k).body = none → (s.entry k).users = 0) → (f (s.entry k)).body = none → (f (s.entry k)).users = 0) :
    Keeps s (s.modEntry k f) := by
  refine .of_users (usersCounted_of_matched (fun _ => rfl) fun m => ?_) (fun _ => rfl) rfl
  by_cases e : m = k
  · subst e
    rw [State.entry_modEntry_self]
    exact ⟨users, free⟩
  · rw [State.entry_modEntry_ne _ _ e]
    exact ⟨rfl, id⟩

/-- A FREE entry takes a body; it had no users (R113). -/
theorem State.keeps_fillEntry {k : EntryIndex} (free : (s.entry k).body = none) (b : EntryBody) :
    Keeps s (s.modEntry k fun _ => ⟨some b, 0⟩) := by
  refine .of_users (fun h => ?_) (fun _ => rfl) rfl
  refine usersCounted_of_matched (s := s) (fun _ => rfl) (fun m => ?_) h
  by_cases e : m = k
  · subst e
    rw [State.entry_modEntry_self]
    exact ⟨((h m).2 free).symm, fun _ _ => rfl⟩
  · rw [State.entry_modEntry_ne _ _ e]
    exact ⟨rfl, id⟩

end

end Sys2Proof.Machine

namespace Sys2Proof.Machine

open Sys2Proof Sys2Proof.Safety

set_option Elab.async false

/-! ## Free lists: an extent that returns and one that is carved (R136, R140) -/

/-- A run of segments that shares none with any extent of a list. -/
def ApartFromList (a n : Nat) (l : List Extent) : Prop := ∀ e ∈ l, Apart a n e.start e.length

theorem apartFromList_cons {a n : Nat} {x : Extent} {l : List Extent} :
    ApartFromList a n (x :: l) ↔ Apart a n x.start x.length ∧ ApartFromList a n l := by
  simp [ApartFromList]

theorem freeListSound_cons {x : Extent} {l : List Extent} : FreeListSound (x :: l) ↔
    (∀ y ∈ l, x.start + x.length < y.start) ∧ 0 < x.length ∧ x.start + x.length ≤ 128 ∧ FreeListSound l := by
  simp only [FreeListSound, List.pairwise_cons, List.mem_cons, forall_eq_or_imp]
  tauto

/-- An extent's return leaves a lower bound on the starts of the list. -/
theorem lt_start_insertExtent {b : Nat} {e : Extent} {l : List Extent} (he : b < e.start) (hl : ∀ x ∈ l, b < x.start) :
    ∀ y ∈ insertExtent e l, b < y.start := by
  induction l generalizing e with
  | nil => simpa [insertExtent] using he
  | cons x xs ih =>
    obtain ⟨hx, hxs⟩ := List.forall_mem_cons.mp hl
    unfold insertExtent
    split
    · exact List.forall_mem_cons.mpr ⟨he, hl⟩
    · split
      · exact List.forall_mem_cons.mpr ⟨he, hxs⟩
      · split
        · exact ih hx hxs
        · exact List.forall_mem_cons.mpr ⟨hx, ih he hxs⟩

/-- An extent that was in nobody's list returns in its place and merges with its neighbours (R140). -/
theorem freeListSound_insertExtent {e : Extent} {l : List Extent} (hl : FreeListSound l) (pos : 0 < e.length)
    (bound : e.start + e.length ≤ 128) (apart : ApartFromList e.start e.length l) :
    FreeListSound (insertExtent e l) := by
  induction l generalizing e with
  | nil => exact freeListSound_cons.mpr ⟨by simp, pos, bound, hl⟩
  | cons x xs ih =>
    obtain ⟨above, xpos, xbound, hxs⟩ := freeListSound_cons.mp hl
    obtain ⟨hx, hrest⟩ := apartFromList_cons.mp apart
    unfold Apart at hx
    unfold insertExtent
    split
    · rename_i lt
      refine freeListSound_cons.mpr ⟨List.forall_mem_cons.mpr ⟨lt, fun y hy => ?_⟩, pos, bound, hl⟩
      have := above y hy
      omega
    · split
      · rename_i eq
        refine freeListSound_cons.mpr ⟨fun y hy => ?_, Nat.add_pos_left pos _, ?_, hxs⟩
        · have := above y hy
          show e.start + (e.length + x.length) < y.start
          omega
        · show e.start + (e.length + x.length) ≤ 128
          omega
      · split
        · rename_i eq
          refine ih hxs (Nat.add_pos_left xpos _) ?_ fun y hy => ?_
          · show x.start + (x.length + e.length) ≤ 128
            omega
          · have gap := above y hy
            have hy := hrest y hy
            unfold Apart at hy ⊢
            show x.start + (x.length + e.length) ≤ y.start ∨ y.start + y.length ≤ x.start
            omega
        · exact freeListSound_cons.mpr ⟨lt_start_insertExtent (by omega) above, xpos, xbound,
            ih hxs pos bound hrest⟩

/-- What is apart from an extent and from a list is apart from the list with the extent returned. -/
theorem apartFromList_insertExtent {a n : Nat} {e : Extent} {l : List Extent} (pos : 0 < n)
    (he : Apart a n e.start e.length) (hl : ApartFromList a n l) : ApartFromList a n (insertExtent e l) := by
  induction l generalizing e with
  | nil => simpa [insertExtent, ApartFromList] using he
  | cons x xs ih =>
    obtain ⟨hx, hxs⟩ := apartFromList_cons.mp hl
    unfold insertExtent
    split
    · exact apartFromList_cons.mpr ⟨he, hl⟩
    · unfold Apart at he hx
      split
      · refine apartFromList_cons.mpr ⟨?_, hxs⟩
        show a + n ≤ e.start ∨ e.start + (e.length + x.length) ≤ a
        omega
      · split
        · refine ih ?_ hxs
          show a + n ≤ x.start ∨ x.start + (x.length + e.length) ≤ a
          omega
        · exact apartFromList_cons.mpr ⟨hx, ih he hxs⟩

/-- What a carve leaves of a sound list: a sound list, the run it gave apart from it, and every run that was apart from the
list apart from both (R136). -/
theorem freeListSound_carve {need start : Nat} {l r : List Extent} (pos : 0 < need) (hl : FreeListSound l)
    (h : carve need l = some (start, r)) :
    FreeListSound r ∧ ApartFromList start need r ∧ start + need ≤ 128
      ∧ ∀ a n, ApartFromList a n l → ApartFromList a n r ∧ Apart a n start need := by
  obtain ⟨below, x, above, rfl, rfl, le, -, rfl⟩ := carve_spec h
  clear h
  have cut : ∀ {P : Extent → Prop}, (∀ y ∈ below, P y) → (x.length ≠ need → P ⟨x.start + need, x.length - need⟩) →
      (∀ z ∈ above, P z) →
      ∀ e ∈ below ++ (if x.length = need then above else ⟨x.start + need, x.length - need⟩ :: above), P e := by
    intro P hb hx ha e he
    rcases List.mem_append.mp he with he | he
    · exact hb e he
    · split at he
      · exact ha e he
      · rename_i ne
        rcases List.mem_cons.mp he with rfl | he
        · exact hx ne
        · exact ha e he
  obtain ⟨pair, each⟩ := hl
  obtain ⟨pairBelow, pairAbove, cross⟩ := List.pairwise_append.mp pair
  obtain ⟨xAbove, pairAbove⟩ := List.pairwise_cons.mp pairAbove
  have xIn := each x (by simp)
  have belowX := fun y hy => cross y hy x (by simp)
  have belowAbove := fun y hy z hz => cross y hy z (List.mem_cons_of_mem _ hz)
  refine ⟨⟨?_, ?_⟩, ?_, by omega, fun a n apart => ⟨?_, ?_⟩⟩
  · refine List.pairwise_append.mpr ⟨pairBelow, ?_, fun y hy e he => ?_⟩
    · split
      · exact pairAbove
      · refine List.pairwise_cons.mpr ⟨fun z hz => ?_, pairAbove⟩
        have := xAbove z hz
        show x.start + need + (x.length - need) < z.start
        omega
    · have hx := belowX y hy
      split at he
      · exact belowAbove y hy e he
      · rcases List.mem_cons.mp he with rfl | he
        · show y.start + y.length < x.start + need
          omega
        · exact belowAbove y hy e he
  · refine cut (fun y hy => each y (by simp [hy])) (fun ne => ?_) fun z hz => each z (by simp [hz])
    show 0 < x.length - need ∧ x.start + need + (x.length - need) ≤ 128
    omega
  · refine cut (P := fun e => Apart x.start need e.start e.length) (fun y hy => ?_) (fun _ => .inl le_rfl) fun z hz => ?_
    · have := belowX y hy
      exact .inr (by omega)
    · have := xAbove z hz
      exact .inl (by omega)
  · have hx := apart x (by simp)
    unfold Apart at hx
    refine cut (P := fun e => Apart a n e.start e.length) (fun y hy => apart y (by simp [hy])) (fun _ => ?_)
      fun z hz => apart z (by simp [hz])
    show a + n ≤ x.start + need ∨ x.start + need + (x.length - need) ≤ a
    omega
  · have hx := apart x (by simp)
    unfold Apart at hx ⊢
    omega

/-! ## Windows (R134, R136, R140) -/

/-- Changes that the share-out of segments sees: slot by slot only the windows may differ, and of the images only the free
lists and the bytes. -/
theorem State.Keeps.of_windows {s t : State} (segments : ∀ g, SegmentsSound s g → SegmentsSound t g)
    (counted : ∀ g, SegmentsCounted s g → SegmentsCounted t g) (canonical : ImagesCanonical s → ImagesCanonical t)
    (slots : ∀ j, t.slot j = { s.slot j with ctx := { (s.slot j).ctx with
      inWindow := (t.slot j).ctx.inWindow, outWindow := (t.slot j).ctx.outWindow } })
    (rest : { t with slots := s.slots, imageIn := s.imageIn, imageOut := s.imageOut } = s) : Keeps s t := by
  have field : ∀ {α : Type} (f : State → α),
      f { t with slots := s.slots, imageIn := s.imageIn, imageOut := s.imageOut } = f s := fun f => congrArg f rest
  have ctx := fun j => congrArg SlotRecord.ctx (slots j)
  have params := field State.params
  exact
    { accounts := accountsBounded_of_le (fun j => by rw [ctx]) (fun j => by rw [ctx]) params
        (congrArg Rail.effective (field State.rail))
      ramps := rampsBounded_of_imp (fun j => by rw [ctx]; exact id) params
      load := loadBounded_of_le (fun j => by rw [slots]) params
      notices := by unfold NoticesBounded; rw [show t.notices = s.notices from field State.notices]; exact id
      users := usersCounted_of_eq (fun j => by rw [ctx])
        (congrArg Directory.entries (field State.directory))
      shown := fun h j => by
        obtain ⟨contact, pattern⟩ := h j
        rw [State.ctx_eq, State.mon_eq, slots j]
        exact ⟨contact, pattern⟩
      lane := by unfold LaneSound; rw [show t.lane = s.lane from field State.lane]; exact id
      segments := segments
      counted := counted
      canonical := canonical
      pending := field State.pending
      link := field State.link
      safeOff := field State.safeOff }

@[simp] theorem Context.window_setWindow_self (c : Context) (g : ImageId) (w : Option Window) :
    (c.setWindow g w).window g = w := by cases g <;> rfl

theorem Context.window_setWindow_ne (c : Context) {g h : ImageId} (w : Option Window) (ne : h ≠ g) :
    (c.setWindow g w).window h = c.window h := by
  cases g <;> cases h <;> first | rfl | exact absurd rfl ne

section
variable {s : State} {i : Slot} {g : ImageId} {w : Window}

/-- The windows of an image after slot `i`'s window in it has been set. -/
theorem State.window_setWindow (s : State) (i : Slot) (g : ImageId) (w : Option Window) (j : Slot) :
    ((s.modCtx i fun c => c.setWindow g w).ctx j).window g = if j = i then w else (s.ctx j).window g := by
  rw [State.ctx_eq, State.modCtx_eq, State.slot_modSlot]
  split
  · exact Context.window_setWindow_self _ _ _
  · rfl

theorem State.window_setWindow_ne (s : State) (i : Slot) {g h : ImageId} (w : Option Window) (ne : h ≠ g) (j : Slot) :
    ((s.modCtx i fun c => c.setWindow g w).ctx j).window h = (s.ctx j).window h := by
  rw [State.ctx_eq, State.modCtx_eq, State.slot_modSlot]
  split
  · rename_i e
    rw [e]
    exact Context.window_setWindow_ne _ _ ne
  · rfl

/-- The run is apart from every extent and every window of the image. -/
def ApartFromImage (s : State) (g : ImageId) (a n : Nat) : Prop :=
  ApartFromList a n (s.image g).free ∧ ∀ j v, (s.ctx j).window g = some v → Apart a n v.start v.count

/-- A slot takes a run that is apart from everything as its window. -/
theorem segmentsSound_setWindow {a n : Nat} (h : SegmentsSound s g) (pos : 0 < n) (bound : a + n ≤ 128)
    (apart : ApartFromImage s g a n) : SegmentsSound (s.modCtx i fun c => c.setWindow g (some ⟨a, n⟩)) g := by
  obtain ⟨free, own, cross⟩ := h
  have image : (s.modCtx i fun c => c.setWindow g (some ⟨a, n⟩)).image g = s.image g := State.image_modSlot ..
  refine ⟨by rw [image]; exact free, fun j v hv => ?_, fun j k v u ne hv hu => ?_⟩
  · rw [State.window_setWindow] at hv
    rw [image]
    split at hv
    · obtain rfl := Option.some.inj hv
      exact ⟨pos, bound, apart.1⟩
    · exact own j v hv
  · rw [State.window_setWindow] at hv hu
    split at hv <;> split at hu
    · rename_i ej ek
      exact absurd (ej.trans ek.symm) ne
    · obtain rfl := Option.some.inj hv
      exact apart.2 k u hu
    · obtain rfl := Option.some.inj hu
      exact (apart.2 j v hv).symm
    · exact cross j k v u ne hv hu

/-- A release takes the window's segments back into the free list (R140). -/
theorem State.releaseWindow_of_some (h : (s.ctx i).window g = some w) :
    s.releaseWindow i g = (s.setImage g { s.image g with free := insertExtent ⟨w.start, w.count⟩ (s.image g).free }).modCtx i
      fun c => c.setWindow g none := by
  unfold State.releaseWindow
  rw [h]

theorem State.releaseWindow_of_none (h : (s.ctx i).window g = none) : s.releaseWindow i g = s := by
  unfold State.releaseWindow
  rw [h]

theorem State.window_releaseWindow (s : State) (i : Slot) (g : ImageId) (j : Slot) :
    ((s.releaseWindow i g).ctx j).window g = if j = i then none else (s.ctx j).window g := by
  rcases h : (s.ctx i).window g with _ | w
  · rw [State.releaseWindow_of_none h]
    split
    · rename_i e; rw [e, h]
    · rfl
  · rw [State.releaseWindow_of_some h, State.window_setWindow]
    simp

theorem State.window_releaseWindow_ne (s : State) (i : Slot) {g h : ImageId} (ne : h ≠ g) (j : Slot) :
    ((s.releaseWindow i g).ctx j).window h = (s.ctx j).window h := by
  rcases e : (s.ctx i).window g with _ | w
  · rw [State.releaseWindow_of_none e]
  · rw [State.releaseWindow_of_some e, State.window_setWindow_ne _ _ _ ne]
    simp

theorem State.image_releaseWindow_of_some (h : (s.ctx i).window g = some w) :
    (s.releaseWindow i g).image g = { s.image g with free := insertExtent ⟨w.start, w.count⟩ (s.image g).free } := by
  rw [State.releaseWindow_of_some h, State.modCtx_eq, State.image_modSlot, State.image_setImage_self]

theorem State.image_releaseWindow_ne (s : State) (i : Slot) {g h : ImageId} (ne : h ≠ g) :
    (s.releaseWindow i g).image h = s.image h := by
  rcases e : (s.ctx i).window g with _ | w
  · rw [State.releaseWindow_of_none e]
  · rw [State.releaseWindow_of_some e, State.modCtx_eq, State.image_modSlot, State.image_setImage_ne _ _ ne]

theorem segmentsSound_releaseWindow (i : Slot) (h : SegmentsSound s g) : SegmentsSound (s.releaseWindow i g) g := by
  rcases e : (s.ctx i).window g with _ | w
  · rw [State.releaseWindow_of_none e]; exact h
  · obtain ⟨free, own, cross⟩ := h
    obtain ⟨pos, bound, apart⟩ := own i w e
    refine ⟨?_, fun j v hv => ?_, fun j k v u ne hv hu => ?_⟩
    · rw [State.image_releaseWindow_of_some e]
      exact freeListSound_insertExtent free pos bound apart
    · rw [State.window_releaseWindow] at hv
      split at hv
      · exact absurd hv (by simp)
      · rename_i ne
        obtain ⟨vpos, vbound, vapart⟩ := own j v hv
        rw [State.image_releaseWindow_of_some e]
        exact ⟨vpos, vbound, apartFromList_insertExtent vpos (cross j i v w ne hv e) vapart⟩
    · rw [State.window_releaseWindow] at hv hu
      split at hv
      · exact absurd hv (by simp)
      · split at hu
        · exact absurd hu (by simp)
        · exact cross j k v u ne hv hu

/-- A run that nobody holds is apart from everything after a release, too. -/
theorem apartFromImage_releaseWindow {a n : Nat} (i : Slot) (pos : 0 < n) (h : ApartFromImage s g a n) :
    ApartFromImage (s.releaseWindow i g) g a n := by
  obtain ⟨free, windows⟩ := h
  refine ⟨?_, fun j v hv => ?_⟩
  · rcases e : (s.ctx i).window g with _ | w
    · rw [State.releaseWindow_of_none e]; exact free
    · rw [State.image_releaseWindow_of_some e]
      exact apartFromList_insertExtent pos (windows i w e) free
  · rw [State.window_releaseWindow] at hv
    split at hv
    · exact absurd hv (by simp)
    · exact windows j v hv

/-- The segments that the windows of an image count, after slot `i`'s window in it has changed. -/
theorem State.windowTotal_change {t : State} (w : Option Window)
    (h : ∀ j, (t.ctx j).window g = if j = i then w else (s.ctx j).window g) :
    t.total (fun r => windowCount (r.ctx.window g)) + windowCount ((s.ctx i).window g)
      = s.total (fun r => windowCount (r.ctx.window g)) + windowCount w := by
  have e := State.total_change (s := s) (t := t) (i := i) (f := fun r => windowCount (r.ctx.window g)) fun j hj => by
    have := h j
    rw [if_neg hj] at this
    exact congrArg windowCount this
  have own := h i
  rw [if_pos rfl] at own
  exact e.trans (congrArg (_ + windowCount ·) own)

/-- A release leaves the number of segments of the image (R134, R140). -/
theorem segments_releaseWindow (s : State) (i : Slot) (g : ImageId) :
    ((s.releaseWindow i g).image g).freeTotal + (s.releaseWindow i g).total (fun r => windowCount (r.ctx.window g))
      = (s.image g).freeTotal + s.total fun r => windowCount (r.ctx.window g) := by
  rcases e : (s.ctx i).window g with _ | w
  · rw [State.releaseWindow_of_none e]
  · have windows := State.windowTotal_change none (s.window_releaseWindow i g)
    rw [e, show windowCount (some w) = w.count from rfl, show windowCount none = 0 from rfl] at windows
    have free : ((s.releaseWindow i g).image g).freeTotal = w.count + (s.image g).freeTotal := by
      rw [State.image_releaseWindow_of_some e]
      exact insertExtent_total _ _
    omega

variable (s i g)

/-- Slot by slot a release changes the windows alone. -/
theorem State.slot_releaseWindow (j : Slot) :
    (s.releaseWindow i g).slot j = { s.slot j with ctx := { (s.slot j).ctx with
      inWindow := ((s.releaseWindow i g).slot j).ctx.inWindow
      outWindow := ((s.releaseWindow i g).slot j).ctx.outWindow } } := by
  rcases e : (s.ctx i).window g with _ | w
  · rw [State.releaseWindow_of_none e]
  · rw [State.releaseWindow_of_some e, State.modCtx_eq, State.slot_modSlot]
    split
    · rename_i h
      rw [State.slot_setImage, h]
      cases g <;> rfl
    · rw [State.slot_setImage]

theorem State.keeps_releaseWindow : Keeps s (s.releaseWindow i g) := by
  have ne : ∀ {h}, ¬ h = g → h ≠ g := id
  refine .of_windows (fun h => ?_) (fun h => ?_) (fun h => State.imagesCanonical_releaseWindow h i g)
    (s.slot_releaseWindow i g) (s.releaseWindow_spec i g).2.2
  · by_cases e : h = g
    · subst e; exact segmentsSound_releaseWindow i
    · exact segmentsSound_of_eq (s.window_releaseWindow_ne i e) (by rw [s.image_releaseWindow_ne i e])
  · by_cases e : h = g
    · subst e
      intro counted
      exact (segments_releaseWindow s i h).trans counted
    · exact segmentsCounted_of_eq (s.window_releaseWindow_ne i e) (by rw [s.image_releaseWindow_ne i e])

theorem State.keeps_releaseWindows : Keeps s (s.releaseWindows i) :=
  ((s.keeps_releaseWindow i .input).trans (State.keeps_releaseWindow _ i .output)).trans (State.keeps_modCtx _ i)

theorem State.keeps_writeWindow (offset : Nat) (bytes : List Byte) : Keeps s (s.writeWindow i g offset bytes) := by
  have canonical := fun h => State.imagesCanonical_writeWindow (s := s) h i g offset bytes
  unfold State.writeWindow at canonical ⊢
  revert canonical
  split
  · exact fun _ => .refl s
  · intro canonical
    cases g <;> exact .of_slots (fun _ => .refl _) (free := fun h => by cases h <;> rfl) (canonical := canonical)

theorem State.keeps_zeroWindow : Keeps s (s.zeroWindow i g) := by
  have canonical := fun h => State.imagesCanonical_zeroWindow (s := s) h i g
  unfold State.zeroWindow at canonical ⊢
  revert canonical
  split
  · exact fun _ => .refl s
  · intro canonical
    cases g <;> exact .of_slots (fun _ => .refl _) (free := fun h => by cases h <;> rfl) (canonical := canonical)

/-- The state in which a carved window has been handed to its slot, before its bytes are set to 0. -/
def State.handWindow (start need : Nat) (rest : List Extent) : State :=
  ((s.setImage g { s.image g with free := rest }).releaseWindow i g).modCtx i
    fun c => c.setWindow g (some ⟨start, need⟩)

theorem State.keeps_handWindow {start need : Nat} {rest : List Extent} (pos : 0 < need)
    (h : carve need (s.image g).free = some (start, rest)) : Keeps s (s.handWindow i g start need rest) := by
  unfold State.handWindow
  let u := s.setImage g { s.image g with free := rest }
  have uSlot : ∀ j, u.slot j = s.slot j := s.slot_setImage g _
  have uImage : u.image g = { s.image g with free := rest } := s.image_setImage_self g _
  change Keeps s ((u.releaseWindow i g).modCtx i _)
  have otherWindow : ∀ {x}, x ≠ g → ∀ j,
      (((u.releaseWindow i g).modCtx i fun c => c.setWindow g (some ⟨start, need⟩)).ctx j).window x
        = (s.ctx j).window x := fun ne j => by
    rw [State.window_setWindow_ne _ _ _ ne, State.window_releaseWindow_ne _ _ ne, State.ctx_eq, uSlot]; rfl
  have otherImage : ∀ {x}, x ≠ g →
      ((u.releaseWindow i g).modCtx i fun c => c.setWindow g (some ⟨start, need⟩)).image x = s.image x := fun ne => by
    rw [State.modCtx_eq, State.image_modSlot, State.image_releaseWindow_ne _ _ ne]
    exact s.image_setImage_ne _ ne
  refine .of_windows (fun x => ?_) (fun x => ?_) (fun hc => ?_) (fun j => ?_) ?_
  · by_cases e : x = g
    · subst e
      intro sound
      obtain ⟨free, own, cross⟩ := sound
      obtain ⟨restSound, runApart, bound, kept⟩ := freeListSound_carve pos free h
      have uSound : SegmentsSound u x := by
        refine ⟨by rw [uImage]; exact restSound, fun j w hw => ?_, fun j k w v ne hw hv => ?_⟩
        · rw [State.ctx_eq, uSlot] at hw
          obtain ⟨wpos, wbound, wapart⟩ := own j w hw
          rw [uImage]
          exact ⟨wpos, wbound, (kept _ _ wapart).1⟩
        · rw [State.ctx_eq, uSlot] at hw hv
          exact cross j k w v ne hw hv
      have uApart : ApartFromImage u x start need := by
        refine ⟨by rw [uImage]; exact runApart, fun j v hv => ?_⟩
        rw [State.ctx_eq, uSlot] at hv
        exact ((kept _ _ (own j v hv).2.2).2).symm
      exact segmentsSound_setWindow (segmentsSound_releaseWindow i uSound) pos bound
        (apartFromImage_releaseWindow i pos uApart)
    · exact segmentsSound_of_eq (otherWindow e) (by rw [otherImage e])
  · by_cases e : x = g
    · subst e
      intro counted
      have total := carve_total h
      have released := segments_releaseWindow u i x
      have windows := State.windowTotal_change (some ⟨start, need⟩)
        ((u.releaseWindow i x).window_setWindow i x (some ⟨start, need⟩))
      rw [State.window_releaseWindow, if_pos rfl, show windowCount none = 0 from rfl,
        show windowCount (some (⟨start, need⟩ : Window)) = need from rfl] at windows
      have uTotal : (u.image x).freeTotal + need = (s.image x).freeTotal := by rw [uImage]; exact total
      have same : u.total (fun r => windowCount (r.ctx.window x)) = s.total fun r => windowCount (r.ctx.window x) :=
        State.total_congr fun j => by rw [uSlot]
      have image : ((u.releaseWindow i x).modCtx i fun c => c.setWindow x (some ⟨start, need⟩)).image x
          = (u.releaseWindow i x).image x := State.image_modSlot ..
      unfold SegmentsCounted at counted ⊢
      rw [image]
      omega
    · exact segmentsCounted_of_eq (otherWindow e) (by rw [otherImage e])
  · have uc : ImagesCanonical u := by cases g <;> exact hc
    exact (State.keeps_releaseWindow u i g).canonical uc
  · rw [State.modCtx_eq, State.slot_modSlot]
    split
    · rename_i e
      subst e
      rw [State.slot_releaseWindow, uSlot]
      cases g <;> rfl
    · rw [State.slot_releaseWindow, uSlot]
  · have e := (u.releaseWindow_spec i g).2.2
    have r : u = { s with imageIn := u.imageIn, imageOut := u.imageOut } := by cases g <;> rfl
    have slots : u.slots = s.slots := s.setImage_slots g _
    calc _ = { { u.releaseWindow i g with slots := u.slots, imageIn := u.imageIn, imageOut := u.imageOut } with
                imageIn := s.imageIn, imageOut := s.imageOut } := by rw [slots]; rfl
      _ = { u with imageIn := s.imageIn, imageOut := s.imageOut } := by rw [e]
      _ = s := by cases g <;> rfl

theorem State.keeps_placeWindow (need : Nat) : Keeps s (s.placeWindow i g need) := by
  unfold State.placeWindow
  split
  · exact .refl s
  · rename_i pos
    split
    · exact .refl s
    · rename_i start rest h
      have h : carve need (s.image g).free = some (start, rest) := by
        unfold State.placeIn at h
        split at h
        · exact h
        · exact absurd h (by simp)
      exact (s.keeps_handWindow i g (Nat.pos_of_ne_zero pos) h).trans (State.keeps_zeroWindow _ i g)

theorem State.keeps_placeWindows (nIn nOut : Nat) : Keeps s (s.placeWindows i nIn nOut) :=
  ((s.keeps_placeWindow i .output nOut).trans (State.keeps_placeWindow _ i .input nIn)).trans (State.keeps_modCtx _ i)

end

end Sys2Proof.Machine

namespace Sys2Proof.Machine

open Sys2Proof Sys2Proof.Safety

set_option Elab.async false

/-! ## The lane (R78 to R92) -/

section
variable {l : Lane}

theorem Lane.sound_openFor (h : l.Sound) (idle : l.state = .idle) (i : Slot) : (l.openFor i).Sound := by
  obtain ⟨-, message, recovery⟩ := h
  rw [idle] at message recovery
  have fields : (l.openFor i).state = .partBusy ∧ (l.openFor i).transaction = some ⟨i, .start, false⟩
      ∧ (l.openFor i).message = l.message ∧ (l.openFor i).recoveryTimer = l.recoveryTimer := by
    unfold Lane.openFor; split <;> exact ⟨rfl, rfl, rfl, rfl⟩
  obtain ⟨es, et, em, er⟩ := fields
  unfold Lane.Sound
  rw [es, et, em, er]
  simpa using ⟨by simpa using message, by simpa using recovery⟩

theorem Lane.sound_tryOpen (h : l.Sound) : l.tryOpen.Sound := by
  rcases l.tryOpen_cases with ⟨i, _, -, idle, -, e⟩ | ⟨-, e⟩ <;> rw [e]
  · exact Lane.sound_openFor h idle i
  · exact h

/-- A transaction that was on the lane ends: in PART_BUSY the lane holds no message and no recovery, and goes to IDLE. -/
theorem Lane.sound_endTransaction_idle (h : l.Sound) (busy : l.state = .partBusy) : (l.endTransaction .idle).Sound := by
  obtain ⟨-, message, recovery⟩ := h
  rw [busy] at message recovery
  exact ⟨by simp [Lane.endTransaction], by simpa [Lane.endTransaction] using message,
    by simpa [Lane.endTransaction] using recovery⟩

theorem Lane.sound_recover (h : l.Sound) (free : l.state ≠ .cardBusy) : l.recover.Sound := by
  obtain ⟨-, message, -⟩ := h
  have none : ¬ l.message.isSome = true := fun hm => free (message.mp hm)
  exact ⟨by simp [Lane.recover, Lane.endTransaction], by simpa [Lane.recover, Lane.endTransaction] using none,
    by simp [Lane.recover, Lane.endTransaction]⟩

theorem Lane.sound_beginMessage (h : l.Sound) (free : l.state ≠ .recovering) : l.beginMessage.Sound := by
  obtain ⟨-, -, recovery⟩ := h
  have none : ¬ l.recoveryTimer.isSome = true := fun hr => free (recovery.mp hr)
  exact ⟨by simp [Lane.beginMessage, Lane.endTransaction], by simp [Lane.beginMessage, Lane.endTransaction],
    by simpa [Lane.beginMessage, Lane.endTransaction] using none⟩

/-- The fields of the lane that its invariant reads. -/
def Lane.terms (l : Lane) : LaneState × Bool × Bool × Bool :=
  (l.state, l.transaction.isSome, l.message.isSome, l.recoveryTimer.isSome)

theorem Lane.sound_of_terms {k : Lane} (e : k.terms = l.terms) (h : l.Sound) : k.Sound := by
  simp only [Lane.terms, Prod.mk.injEq] at e
  obtain ⟨es, et, em, er⟩ := e
  unfold Lane.Sound at h ⊢
  rw [es, et, em, er]
  exact h

/-- A slot that leaves the identify queue takes no transaction off the lane: its own is orphaned (R88). -/
theorem Lane.terms_remove (l : Lane) (i : Slot) : (l.remove i).terms = l.terms := by
  unfold Lane.remove
  split
  · rfl
  · split
    · rfl
    · split
      · rename_i t ht
        split
        · rfl
        · simp [Lane.terms, ht]
      · rfl

theorem Lane.partBusy_of_transaction (h : l.Sound) {t : Transaction} (ht : l.transaction = some t) :
    l.state = .partBusy := h.1.mp (by simp [ht])

end

section
variable (s : State) (i : Slot)

theorem State.keeps_tryOpen : Keeps s s.tryOpen := s.keeps_modLane Lane.sound_tryOpen

/-- A change of the lane that leaves its state, and whether there is a transaction, a message and a recovery. -/
theorem State.keeps_modLane_of_terms {f : Lane → Lane} (h : (f s.lane).terms = s.lane.terms) :
    Keeps s (s.modLane f) := s.keeps_modLane (Lane.sound_of_terms h)

theorem State.keeps_identify : Keeps s (s.identify i) :=
  ((s.keeps_setState i (by decide)).trans (State.keeps_modLane_of_terms _ rfl)).trans (State.keeps_tryOpen _)

theorem State.keeps_leaveLane : Keeps s (s.leaveLane i) :=
  (s.keeps_modLane_of_terms (Lane.terms_remove _ i)).trans (State.keeps_tryOpen _)

/-! ## Entering a state (R22 to R24) -/

theorem State.keeps_enterEmpty {st : SlotState} (h : st ≠ .ramping) : Keeps s (s.enterEmpty i st) :=
  ((s.keeps_dropMatch i).trans (State.keeps_setState _ i h)).trans (State.keeps_modCtx _ i)

theorem State.keeps_enterSettling (us : Nat) : Keeps s (s.enterSettling i us) :=
  ((s.keeps_dropMatch i).trans (State.keeps_setState _ i (by decide))).trans (State.keeps_modSlot _ i (.of_terms rfl))

theorem State.keeps_enterHeld {st : SlotState} (h : st ≠ .ramping) : Keeps s (s.enterHeld i st) :=
  (s.keeps_dropMatch i).trans (State.keeps_setState _ i h)

theorem State.keeps_setVerdict (v : Verdict) : Keeps s (s.setVerdict i v) := s.keeps_modCtx i

/-! ## Withdrawals (Sections 2.8, 2.9 and 9) -/

theorem Context.endState_ne_ramping (c : Context) : c.endState ≠ .ramping := by
  unfold Context.endState
  split
  · simp
  · split
    · simp
    · cases c.destination.getD .settling <;> simp [Destination.slotState]

theorem State.keeps_enterEnd {st : SlotState} (h : st ≠ .ramping) : Keeps s (s.enterEnd i st) := by
  unfold State.enterEnd
  split
  · exact s.keeps_enterEmpty i h
  · exact s.keeps_enterEmpty i h
  · exact s.keeps_enterSettling i _
  · exact s.keeps_enterHeld i h

theorem State.keeps_endWithdrawal : Keeps s (s.endWithdrawal i) :=
  ((s.keeps_modCtx i).trans (State.keeps_enterEnd _ i (Context.endState_ne_ramping _))).trans (State.keeps_post _ _)

theorem State.keeps_endIfDone : Keeps s (s.endIfDone i) := by
  unfold State.endIfDone
  split
  · exact s.keeps_endWithdrawal i
  · exact .refl s

theorem State.keeps_depart : Keeps s (s.depart i) :=
  (((s.keeps_modScan i fun _ => Nat.zero_le _).trans (State.keeps_releaseWindows _ i)).trans
    (State.keeps_powerStep _ i)).trans (State.keeps_endIfDone _ i)

/-- A change of a slot's scan record and of context fields that no invariant reads. -/
theorem SlotRecord.Keeps.of_terms_scan {r q : SlotRecord} (terms : q.ctx.terms = r.ctx.terms)
    (cost : q.scan.cost.getD 0 ≤ r.scan.cost.getD 0) (monitor : q.monitor = r.monitor) : Keeps r q :=
  (Keeps.of_terms (r := r) terms).trans (.of_ctx rfl cost (by rw [monitor]) (by rw [monitor]))

theorem State.keeps_queueLeave : Keeps s (s.queueLeave i) :=
  s.keeps_modSlot i (.of_terms_scan rfl le_rfl rfl)

theorem State.keeps_requestDeparture : Keeps s (s.requestDeparture i) := by
  unfold State.requestDeparture
  split
  · split
    · exact s.keeps_modCtx i
    · exact s.keeps_queueLeave i
  · exact s.keeps_queueLeave i
  · exact (s.keeps_queueLeave i).trans (State.keeps_depart _ i)

theorem State.keeps_cancelJoin : Keeps s (s.cancelJoin i) :=
  (s.keeps_modScan i fun _ => Nat.zero_le _).trans (State.keeps_releaseWindows _ i)

theorem State.keeps_stopDetector : Keeps s (s.stopDetector i) := s.keeps_modDet i _

theorem State.keeps_abortWork (old : SlotState) : Keeps s (s.abortWork i old) := by
  unfold State.abortWork
  split
  · exact s.keeps_modCtx i
  · exact s.keeps_leaveRampQueue i
  · exact s.keeps_leaveLane i
  · exact s.keeps_stopDetector i
  · exact s.keeps_cancelJoin i
  · exact s.keeps_stopDetector i
  · exact .refl s

theorem State.keeps_markWithdrawing (reason : Reason) (dest : Destination) :
    Keeps s (s.markWithdrawing i reason dest) :=
  (s.keeps_setState i (by decide)).trans (State.keeps_modCtx _ i)

theorem State.keeps_postRefusal (reason : Reason) (data : List Byte) : Keeps s (s.postRefusal i reason data) := by
  unfold State.postRefusal
  split
  · exact s.keeps_post _
  · exact .refl s

theorem State.keeps_beginWithdrawal (reason : Reason) (dest : Destination) (early : Bool) (data : List Byte) :
    Keeps s (s.beginWithdrawal i reason dest early data) := by
  have start : Keeps s (((s.markWithdrawing i reason dest).postRefusal i reason data).abortWork i (s.ctx i).state) :=
    ((s.keeps_markWithdrawing i reason dest).trans (State.keeps_postRefusal _ i reason data)).trans
      (State.keeps_abortWork _ i _)
  have finish : ∀ u : State, Keeps u (if u.inRoster i then u.requestDeparture i else (u.powerStep i).endIfDone i) := by
    intro u
    split
    · exact u.keeps_requestDeparture i
    · exact (u.keeps_powerStep i).trans (State.keeps_endIfDone _ i)
  cases early
  · exact start.trans (finish _)
  · exact (start.trans (State.keeps_powerStep _ i)).trans (finish _)

theorem State.keeps_refuseWith (v : Verdict) (data : List Byte) : Keeps s (s.refuseWith i v data) :=
  (s.keeps_setVerdict i v).trans (State.keeps_beginWithdrawal ..)

theorem State.keeps_reportFault (c : Cause) : Keeps s (s.reportFault i c) := by
  have recorded : Keeps s (s.recordFault i c) := (s.keeps_modCtx i).trans (State.keeps_post _ _)
  refine recorded.trans ?_
  show Keeps (s.recordFault i c) (if ((s.recordFault i c).ctx i).state.active then _ else _)
  generalize s.recordFault i c = u
  split
  · split
    · exact u.keeps_beginWithdrawal ..
    · exact (u.keeps_modCtx i).trans (State.keeps_beginWithdrawal ..)
  · split
    · exact u.keeps_modCtx i
    · exact .refl u

theorem State.keeps_setSkip : Keeps s (s.setSkip i) := s.keeps_modScan i fun _ => le_rfl

theorem State.keeps_removeCard (contact : ContactState) : Keeps s (s.removeCard i contact) := by
  unfold State.removeCard
  split
  · exact .refl s
  · exact .refl s
  iterate 3 exact (s.keeps_enterEmpty i (by decide)).trans (State.keeps_post _ _)
  · exact ((s.keeps_post _).trans (State.keeps_powerStep _ i)).trans (State.keeps_setSkip _ i)
  · exact ((s.keeps_post _).trans (State.keeps_setSkip _ i)).trans (State.keeps_beginWithdrawal ..)

theorem State.keeps_seatCard (cls : InrushClass) : Keeps s (s.seatCard i cls) := by
  unfold State.seatCard
  split
  · split
    · exact .refl s
    · exact (s.keeps_enterSettling i _).trans (State.keeps_post _ _)
  · exact (s.keeps_modCtx i).trans (State.keeps_post _ _)
  · exact .refl s

/-! ## The scan (Section 8) -/

/-- A fold of an operation that keeps the invariants keeps them. -/
theorem State.keeps_foldl {α : Type} {f : State → α → State} (h : ∀ s a, Keeps s (f s a)) :
    ∀ (l : List α) (s : State), Keeps s (l.foldl f s)
  | [], s => .refl s
  | a :: l, s => (h s a).trans (keeps_foldl h l (f s a))

theorem State.keeps_startDetector (duty : Duty) : Keeps s (s.startDetector i duty) := s.keeps_modDet i _

theorem State.keeps_applyJoin : Keeps s (s.applyJoin i) := by
  have spliced := s.keeps_modScan i (f := fun c => { c with splice := none, skip := some false }) fun _ => le_rfl
  have online := spliced.trans (State.keeps_setState _ i (st := .online) (by decide))
  have counted := online.trans
    (State.keeps_modCtx _ i (f := fun c => { c with attempts := 0, missCount := some 0 }) fun _ => rfl)
  exact (counted.trans (State.keeps_post _ _)).trans (State.keeps_startDetector _ i .watch)

theorem State.keeps_applyLeaves : Keeps s s.applyLeaves := State.keeps_foldl State.keeps_depart _ s

theorem State.keeps_applyJoins : Keeps s s.applyJoins := by
  unfold State.applyJoins
  split
  · exact .refl s
  · exact State.keeps_foldl State.keeps_applyJoin _ s

theorem State.keeps_applySplices : Keeps s s.applySplices := s.keeps_applyLeaves.trans (State.keeps_applyJoins _)

theorem State.keeps_takeJoin : Keeps s (s.takeJoin i) := by
  have queued := s.keeps_modScan i (f := fun c => { c with splice := some .join }) fun _ => le_rfl
  unfold State.takeJoin
  dsimp only
  split
  · exact queued.trans (State.keeps_applyJoin _ i)
  · exact queued

theorem State.keeps_endMarker : Keeps s (s.endMarker i) := by
  unfold State.endMarker
  split
  · exact s.keeps_queueLeave i
  · exact .refl s

theorem State.keeps_runExchanges : ∀ (l : List Slot) (s : State), Keeps s (State.runExchanges l s)
  | [], s => s.keeps_modScanRack _
  | i :: l, s => by
    unfold State.runExchanges
    split
    · exact (s.keeps_endMarker i).trans (keeps_runExchanges l _)
    · exact s.keeps_modScanRack _

theorem State.keeps_snapSlot : Keeps s (s.snapSlot i) := by
  unfold State.snapSlot
  exact s.keeps_modScan i fun _ => le_rfl

/-- The slots' snapshots and markers, and the start of the period timer and of the exchanges (R150 steps 3 to 5). -/
theorem State.keeps_beginCycle :
    Keeps s (
      let u := (s.roster.foldl State.snapSlot s).modScanRack fun c => c.startPeriod
        (s.roster.foldl State.snapSlot s).params.cyclePeriod
      if u.scan.exchange.isSome then u.modScanRack fun c => { c with remaining := u.roster }
      else State.runExchanges u.roster u) := by
  have start := (State.keeps_foldl State.keeps_snapSlot s.roster s).trans
    (State.keeps_modScanRack _ fun c => c.startPeriod (s.roster.foldl State.snapSlot s).params.cyclePeriod)
  dsimp only
  split
  · exact start.trans (State.keeps_modScanRack _ _)
  · exact start.trans (State.keeps_runExchanges _ _)

theorem State.keeps_boundary : Keeps s s.boundary :=
  (s.keeps_applySplices.trans (State.keeps_modScanRack _ fun c => { c with cycle := c.cycle + 1 })).trans
    (State.keeps_beginCycle _)

theorem State.keeps_dropRelease : Keeps s (s.dropRelease i) := by
  unfold State.dropRelease
  split
  · exact s.keeps_queueLeave i
  · exact .refl s

theorem State.keeps_becomeStopped : Keeps s s.becomeStopped :=
  ((s.keeps_modScanRack _).trans (State.keeps_foldl State.keeps_dropRelease _ _)).trans (State.keeps_applySplices _)

theorem State.keeps_settleCycle : Keeps s s.settleCycle := by
  unfold State.settleCycle
  split
  · split
    · exact s.keeps_becomeStopped
    · split
      · exact (s.keeps_post _).trans (State.keeps_boundary _)
      · exact .refl s
    · exact .refl s
  · exact .refl s

theorem State.keeps_endExchange : Keeps s (s.endExchange i) :=
  (((s.keeps_endMarker i).trans (State.keeps_modScanRack _ _)).trans (State.keeps_runExchanges _ _)).trans
    (State.keeps_settleCycle _)

theorem State.keeps_endDiscarded : Keeps s s.endDiscarded :=
  ((s.keeps_modScanRack _).trans (State.keeps_runExchanges _ _)).trans (State.keeps_settleCycle _)

theorem State.keeps_exchangeOk (inputs : List Byte) : Keeps s (s.exchangeOk i inputs) :=
  (s.keeps_writeWindow i .input 0 inputs).trans (State.keeps_modCtx _ i)

theorem State.keeps_applyInputPolicy : Keeps s (s.applyInputPolicy i) := by
  unfold State.applyInputPolicy
  split
  · exact s.keeps_modCtx i
  · exact (s.keeps_zeroWindow i .input).trans (State.keeps_modCtx _ i)

theorem State.keeps_countMiss : Keeps s (s.countMiss i) := by
  unfold State.countMiss
  split
  · dsimp only
    split
    · exact (s.keeps_modCtx i).trans (State.keeps_reportFault _ i _)
    · exact s.keeps_modCtx i
  · exact .refl s

theorem State.keeps_exchangeFailed : Keeps s (s.exchangeFailed i) := by
  unfold State.exchangeFailed
  split
  · exact .refl s
  · exact (s.keeps_applyInputPolicy i).trans (State.keeps_countMiss _ i)

/-! ## Admission (R34, R37, R70 and Section 6) -/

/-- A slot's steady commitment replaced. -/
theorem State.cs_commitSteady (units : Nat) :
    (s.modCtx i fun c => { c with steadyCommitted := units }).cs + (s.ctx i).steadyCommitted = s.cs + units := by
  have e := State.total_change (s := s) (t := s.modCtx i fun c => { c with steadyCommitted := units }) (i := i)
    (f := fun r => r.ctx.steadyCommitted) fun j hj => by rw [State.modCtx_eq, State.slot_modSlot_ne _ _ hj]
  rw [State.modCtx_eq, State.slot_modSlot_self] at e
  exact e

/-- A slot's commitment is replaced within E: the steady check of R70. -/
theorem State.keeps_commitSteady {units : Nat} (fits : s.cs - (s.ctx i).steadyCommitted + units ≤ s.rail.effective) :
    Keeps s (s.modCtx i fun c => { c with steadyCommitted := units }) := by
  have field : ∀ {α : Type} (f : SlotRecord → α)
      (_ : f { s.slot i with ctx := { (s.slot i).ctx with steadyCommitted := units } } = f (s.slot i)) (j : Slot),
      f ((s.modCtx i fun c => { c with steadyCommitted := units }).slot j) = f (s.slot j) := by
    intro α f own j
    rw [State.modCtx_eq, State.slot_modSlot]
    split
    · rename_i e; rw [e]; exact own
    · rfl
  have window := fun g => field (fun r => r.ctx.window g) (by cases g <;> rfl)
  exact
    { accounts := fun ⟨hi, _, he⟩ => by
        refine ⟨?_, ?_, he⟩
        · exact le_trans (State.total_le fun j => le_of_eq (field (fun r => r.ctx.inrushCommitted) rfl j)) hi
        · refine le_trans ?_ (le_trans fits he)
          have own : (s.ctx i).steadyCommitted ≤ s.cs := State.le_total s (fun r => r.ctx.steadyCommitted) i
          have now := s.cs_commitSteady i units
          omega
      ramps := rampsBounded_of_imp (fun j => by rw [field (fun r => r.ctx.state) rfl j]; exact id) rfl
      load := loadBounded_of_le (fun j => le_of_eq (field (fun r => r.scan.cost.getD 0) rfl j)) rfl
      notices := id
      users := usersCounted_of_eq (field (fun r => r.ctx.matched) rfl) rfl
      shown := fun h j => by
        have e := field (fun r => (r.ctx.contact, r.ctx.state, r.monitor)) rfl j
        simp only [Prod.mk.injEq] at e
        obtain ⟨contact, state, monitor⟩ := e
        rw [State.ctx_eq, State.mon_eq, contact, state, monitor]
        exact h j
      lane := id
      segments := fun g => segmentsSound_of_eq (window g) (by cases g <;> rfl)
      counted := fun g => segmentsCounted_of_eq (window g) (by cases g <;> rfl)
      canonical := id
      pending := rfl
      link := rfl
      safeOff := rfl }

/-- A card's scan cost is taken within the budget (R37, R161). -/
theorem State.keeps_takeCost {cost : Nat} (fits : s.load + cost ≤ s.budget) :
    Keeps s (s.modScan i fun c => { c with cost := some cost }) := by
  have slots : ∀ j, ∃ scan, (s.modScan i fun c => { c with cost := some cost }).slot j = { s.slot j with scan := scan } := by
    intro j
    rw [State.modScan_eq, State.slot_modSlot]
    split
    · rename_i e; rw [e]; exact ⟨_, rfl⟩
    · exact ⟨_, rfl⟩
  have field : ∀ {α : Type} (f : SlotRecord → α) (_ : ∀ r x, f { r with scan := x } = f r) (j : Slot),
      f ((s.modScan i fun c => { c with cost := some cost }).slot j) = f (s.slot j) := by
    intro α f h j
    obtain ⟨x, e⟩ := slots j
    rw [e, h]
  have load := State.total_change (s := s) (t := s.modScan i fun c => { c with cost := some cost }) (i := i)
    (f := fun r => r.scan.cost.getD 0) fun j hj => by rw [State.modScan_eq, State.slot_modSlot_ne _ _ hj]
  have ctx := field SlotRecord.ctx fun _ _ => rfl
  have window : ∀ g j, _ := fun g j => congrArg (Context.window · g) (ctx j)
  exact
    { accounts := accountsBounded_of_le (fun j => by rw [ctx]) (fun j => by rw [ctx]) rfl rfl
      ramps := rampsBounded_of_imp (fun j => by rw [ctx]; exact id) rfl
      load := fun _ => by
        rw [State.modScan_eq, State.slot_modSlot_self] at load
        exact le_trans (le_trans (Nat.le_add_right _ _) (le_of_eq load)) fits
      notices := id
      users := usersCounted_of_eq (fun j => by rw [ctx]) rfl
      shown := fun h j => by
        rw [State.ctx_eq, State.mon_eq, ctx, field SlotRecord.monitor fun _ _ => rfl]
        exact h j
      lane := id
      segments := fun g => segmentsSound_of_eq (window g) (by cases g <;> rfl)
      counted := fun g => segmentsCounted_of_eq (window g) (by cases g <;> rfl)
      canonical := id
      pending := rfl
      link := rfl
      safeOff := rfl }

theorem State.keeps_steadyCheck (units : Nat) : Keeps s (s.steadyCheck i units) := by
  unfold State.steadyCheck
  dsimp only
  split
  · rename_i fits
    split
    · exact (s.keeps_commitSteady i fits).trans (State.keeps_arbitrate _)
    · exact s.keeps_commitSteady i fits
  · exact (s.keeps_setVerdict i _).trans (State.keeps_dropMatch _ i)

theorem State.keeps_followVerdict (v : Verdict) (data : List Byte) : Keeps s (s.followVerdict i v data) := by
  unfold State.followVerdict
  split
  · exact (s.keeps_setState i (by decide)).trans (State.keeps_startDetector _ i _)
  · split
    · exact (s.keeps_setState i (by decide)).trans (State.keeps_post _ _)
    · exact s.keeps_beginWithdrawal ..

theorem State.findEntry_spec {p : Entry → Bool} {k : EntryIndex} (h : s.findEntry p = some k) : p (s.entry k) = true :=
  List.find?_some (p := fun k => p (s.entry k)) h

theorem State.findFree_spec {k : EntryIndex} (h : s.findFree = some k) : (s.entry k).body = none := by
  simpa using s.findEntry_spec h

/-- What the directory's judgement can do: it keeps the invariants, and the match that it hands on names an entry that is
not FREE (R124 to R127). -/
def State.Judged (s : State) (p : State × LookupResult) : Prop :=
  Keeps s p.1 ∧ ∀ k, p.2.matched = some k → (p.1.entry k).body ≠ none

theorem State.judged_learn (d : Identity) : s.Judged (s.learn i d) := by
  unfold State.learn
  split
  · rename_i k free
    refine ⟨(s.keeps_fillEntry (s.findFree_spec free) _).trans (State.keeps_post _ _), fun m hm => ?_⟩
    obtain rfl : k = m := Option.some.inj hm
    show ((s.modEntry k fun _ => ⟨some (learnedBody d), 0⟩).entry k).body ≠ none
    rw [State.entry_modEntry_self]
    simp
  · exact ⟨s.keeps_post _, fun m hm => absurd hm (by simp)⟩

theorem State.judged_judgeNoMatch (d : Identity) : s.Judged (s.judgeNoMatch i d) := by
  have plain : ∀ v, s.Judged (s, ⟨v, none, 0, []⟩) := fun v => ⟨.refl s, fun m hm => absurd hm (by simp)⟩
  unfold State.judgeNoMatch
  split
  · exact plain _
  · split
    · exact s.judged_learn i d
    · exact plain _
  · exact plain _

theorem State.judged_judgeMatch (k : EntryIndex) (b : EntryBody) : s.Judged (s.judgeMatch i k b) := by
  refine ⟨s.keeps_modEntry (k := k) (f := fun e => { e with body := some b.see }) rfl fun _ h => absurd h (by simp),
    fun m hm => ?_⟩
  have e : k = m := by
    simp only [State.judgeMatch] at hm
    split at hm
    · exact Option.some.inj hm
    · exact absurd hm (by simp)
  subst e
  show ((s.modEntry k fun e => { e with body := some b.see }).entry k).body ≠ none
  rw [State.entry_modEntry_self]
  simp

theorem State.judged_consultDirectory (d : Identity) : s.Judged (s.consultDirectory i d) := by
  unfold State.consultDirectory
  split
  · exact s.judged_judgeNoMatch i d
  · split
    · exact s.judged_judgeNoMatch i d
    · exact s.judged_judgeMatch i _ _

theorem State.keeps_decideVerdict (d : Identity) : Keeps s (s.decideVerdict i d) := by
  obtain ⟨consulted, used⟩ := s.judged_consultDirectory i d
  unfold State.decideVerdict
  generalize s.consultDirectory i d = p at consulted used
  dsimp only
  have judged := consulted.trans (State.keeps_setVerdict p.1 i p.2.verdict)
  have stored : Keeps s (match p.2.matched with
      | none => p.1.setVerdict i p.2.verdict
      | some k => (p.1.setVerdict i p.2.verdict).storeMatch i k) := by
    split
    · exact judged
    · rename_i k hk
      exact judged.trans (State.keeps_storeMatch _ i (used k hk))
  have checked : ∀ u : State, Keeps u (if p.2.verdict.takesCard && (u.ctx i).inrushClass.getD 0 != 0 then
      u.steadyCheck i (steadyUnits d.steadyCurrent.toNat p.2.reserve) else u) := by
    intro u
    split
    · exact u.keeps_steadyCheck i _
    · exact .refl u
  exact (stored.trans (checked _)).trans (State.keeps_followVerdict _ i _ _)

theorem State.keeps_identityRead (d : Identity) : Keeps s (s.identityRead i d) := by
  unfold State.identityRead
  dsimp only
  split
  · exact (s.keeps_modCtx i).trans (State.keeps_decideVerdict _ i d)
  · exact (s.keeps_modCtx i).trans (State.keeps_refuseWith _ i _ _)

theorem State.keeps_qualificationPass : Keeps s (s.qualificationPass i) := by
  have stopped := s.keeps_stopDetector i
  unfold State.qualificationPass
  dsimp only
  split
  · exact stopped
  · rename_i d _
    refine stopped.trans ?_
    split
    · rename_i fits
      split
      · exact State.keeps_refuseWith ..
      · split
        · exact State.keeps_refuseWith ..
        · exact (((State.keeps_takeCost _ i fits).trans (State.keeps_placeWindows _ i _ _)).trans
            (State.keeps_setState _ i (by decide))).trans (State.keeps_takeJoin _ i)
    · exact State.keeps_refuseWith ..

end

end Sys2Proof.Machine

namespace Sys2Proof.Machine

open Sys2Proof Sys2Proof.Safety

set_option Elab.async false

section
variable (s : State) (i : Slot)

/-! ## The events of the lane (Section 4) -/

theorem State.keeps_failRead (c : Cause) : Keeps s (s.failRead i c) :=
  ((s.keeps_modLane_of_terms rfl).trans (State.keeps_reportFault _ i c)).trans (State.keeps_tryOpen _)

section
variable {s} {t : Transaction} (ht : s.lane.transaction = some t)
include ht

/-- A transaction on the lane ends and leaves the lane in IDLE, whatever becomes of its counters. -/
theorem State.keeps_endTransaction {f : Lane → Lane} (h : (f s.lane).terms = (s.lane.endTransaction .idle).terms) :
    Keeps s (s.modLane f) :=
  s.keeps_modLane fun sound => Lane.sound_of_terms h
    (Lane.sound_endTransaction_idle sound (Lane.partBusy_of_transaction sound ht))

theorem State.keeps_closeTransaction : Keeps s (s.closeTransaction .idle) :=
  (State.keeps_endTransaction ht rfl).trans (State.keeps_tryOpen _)

theorem State.keeps_noAnswer : Keeps s (s.noAnswer t) := by
  have ended := State.keeps_endTransaction ht (f := fun l => { l.endTransaction .idle with tries := l.tries + 1 }) rfl
  unfold State.noAnswer
  dsimp only
  split
  · exact State.keeps_closeTransaction ht
  · split
    · exact ended.trans (State.keeps_modLane_of_terms _ rfl)
    · exact ended.trans (State.keeps_failRead _ _ _)

theorem State.keeps_transactionTimeout : Keeps s (s.transactionTimeout t) := by
  have busy := fun sound : s.lane.Sound => Lane.partBusy_of_transaction sound ht
  have recovers : ∀ {f : Lane → Lane}, (f s.lane).terms = s.lane.recover.terms → Keeps s (s.modLane f) := fun h =>
    s.keeps_modLane fun sound => Lane.sound_of_terms h (Lane.sound_recover sound (by rw [busy sound]; decide))
  unfold State.transactionTimeout
  dsimp only
  split
  · exact recovers rfl
  · split
    · exact recovers rfl
    · exact (recovers (f := fun l => { l.recover with tries := l.tries + 1 }) rfl).trans (State.keeps_failRead _ _ _)

theorem State.keeps_transactionLost : Keeps s (s.transactionLost t) := by
  have busy := fun sound : s.lane.Sound => Lane.partBusy_of_transaction sound ht
  have begins : ∀ {f : Lane → Lane}, (f s.lane).terms = s.lane.beginMessage.terms → Keeps s (s.modLane f) := fun h =>
    s.keeps_modLane fun sound => Lane.sound_of_terms h (Lane.sound_beginMessage sound (by rw [busy sound]; decide))
  unfold State.transactionLost
  dsimp only
  split
  · exact begins rfl
  · split
    · exact begins rfl
    · exact (begins (f := fun l => { l.beginMessage with lost := l.lost + 1 }) rfl).trans (State.keeps_failRead _ _ _)

theorem State.keeps_transferComplete (record : Vector Byte 32) : Keeps s (s.transferComplete t record) := by
  unfold State.transferComplete
  split
  · exact State.keeps_closeTransaction ht
  · split
    · exact ((State.keeps_endTransaction ht (f := fun l => (l.endTransaction .idle).dropHead) rfl).trans
        (State.keeps_identityRead _ _ _)).trans (State.keeps_tryOpen _)
    · split
      · exact (State.keeps_endTransaction ht rfl).trans (State.keeps_failRead _ _ _)
      · exact (s.keeps_modLane_of_terms rfl).trans
          (State.keeps_closeTransaction (s := s.modLane fun l => { l with checkUsed := true }) ht)

end

theorem State.keeps_judgeMessage (sender length : Byte) (data : List Byte) (check : HWord) :
    Keeps s (s.judgeMessage sender length data check) := by
  unfold State.judgeMessage
  split
  · exact .refl s
  · exact s.keeps_post _

/-- The lane goes from CARD_BUSY to IDLE, or into a recovery, without its message. -/
theorem Lane.sound_endMessage {l : Lane} (h : l.Sound) (busy : l.state = .cardBusy) : l.endMessage.Sound := by
  obtain ⟨transaction, -, recovery⟩ := h
  rw [busy] at transaction recovery
  exact ⟨by simpa [Lane.endMessage] using transaction, by simp [Lane.endMessage],
    by simpa [Lane.endMessage] using recovery⟩

theorem Lane.sound_endRecovery {l : Lane} (h : l.Sound) (recovering : l.state = .recovering) : l.endRecovery.Sound := by
  obtain ⟨transaction, message, -⟩ := h
  rw [recovering] at transaction message
  exact ⟨by simpa [Lane.endRecovery] using transaction, by simpa [Lane.endRecovery] using message,
    by simp [Lane.endRecovery]⟩

/-! ## The events of the clock qualifier (Section 5) -/

theorem State.keeps_checkpoint16 (n : Nat) : Keeps s (s.checkpoint16 i n) := by
  have judged := s.keeps_modDet i Detector.judged
  unfold State.checkpoint16
  dsimp only
  split
  · split
    · exact judged.trans (State.keeps_reportFault _ i _)
    · exact judged.trans (State.keeps_reportFault _ i _)
    · exact judged
  · exact judged

theorem State.keeps_checkpoint32 (n : Nat) : Keeps s (s.checkpoint32 i n) := by
  unfold State.checkpoint32
  dsimp only
  split
  · exact (s.keeps_modDet i _).trans (State.keeps_reportFault _ i _)
  · exact s.keeps_modDet i _

theorem State.keeps_checkpoint64 (n : Nat) : Keeps s (s.checkpoint64 i n) := by
  unfold State.checkpoint64
  dsimp only
  split
  · split
    · exact (s.keeps_modDet i _).trans (State.keeps_qualificationPass _ i)
    · exact s.keeps_modDet i _
  · split
    · exact (s.keeps_modDet i _).trans (State.keeps_post _ _)
    · exact s.keeps_modDet i _
  · exact s.keeps_modDet i _

theorem State.keeps_refEdge : Keeps s s.refEdge :=
  (s.keeps_mapSlots (f := fun r => { r with detector := r.detector.refEdge })
    fun _ => .of_ctx rfl le_rfl rfl rfl).trans (.of_slots (fun _ => .refl _) (free := fun g => by cases g <;> rfl))

theorem State.keeps_loseReference : Keeps s s.loseReference := by
  have lost : Keeps s { s with clock := { s.clock with refLost := true, frozen := true } } :=
    .of_slots (fun _ => .refl _) (free := fun g => by cases g <;> rfl)
  have held := (lost.trans (State.keeps_post _ ⟨.refLost, none, 0, []⟩)).trans
    (State.keeps_mapSlots _ (f := fun r => { r with detector := r.detector.loseReference })
      fun _ => .of_ctx rfl le_rfl rfl rfl)
  exact held.trans (.of_slots (fun _ => .refl _) (free := fun g => by cases g <;> rfl))

theorem State.keeps_regainReference : Keeps s s.regainReference := by
  have back : Keeps s { s with clock := { s.clock with refLost := false, returnTimer := none } } :=
    .of_slots (fun _ => .refl _) (free := fun g => by cases g <;> rfl)
  exact (back.trans (State.keeps_post _ ⟨.refBack, none, 0, []⟩)).trans
    (State.keeps_mapSlots _ fun _ => .of_ctx rfl le_rfl rfl rfl)

/-! ## The rail (Section 3) -/

theorem effectiveSteady_le (budget value full floor : Nat) : effectiveSteady budget value full floor ≤ budget := by
  unfold effectiveSteady
  split
  · exact le_rfl
  · split
    · exact Nat.zero_le _
    · refine Nat.div_le_of_le_mul ?_
      rw [Nat.mul_comm (full - floor)]
      exact Nat.mul_le_mul_left _ (by omega)

/-- New parameters and a new E that leave every figure within its bound. -/
theorem State.keeps_setParams (p : Params) (x : Rail) (directory : Directory)
    (entries : directory.entries = s.directory.entries)
    (accounts : AccountsBounded s → s.ci ≤ p.inrushBudget ∧ s.cs ≤ p.steadyBudget ∧ x.effective ≤ p.steadyBudget)
    (ramps : RampsBounded s → s.rampingCount ≤ p.rampLimit)
    (load : LoadBounded s → s.load ≤ p.cyclePeriod * 10 * p.fillPercent) :
    Keeps s { s with params := p, rail := x, directory := directory } where
  accounts := accounts
  ramps := ramps
  load := load
  notices := id
  users := usersCounted_of_eq (fun _ => rfl) entries
  shown := id
  lane := id
  segments g := segmentsSound_of_eq (fun _ => rfl) (by cases g <;> rfl)
  counted g := segmentsCounted_of_eq (fun _ => rfl) (by cases g <;> rfl)
  canonical := id
  pending := rfl
  link := rfl
  safeOff := rfl

theorem State.keeps_recomputeE : Keeps s s.recomputeE :=
  s.keeps_setParams s.params s.recomputeE.rail s.directory rfl
    (fun ⟨hi, hs, _⟩ => ⟨hi, hs, effectiveSteady_le ..⟩) id id

/-- A change of the rail's record that leaves E. -/
theorem State.keeps_setRail {x : Rail} (h : x.effective = s.rail.effective) : Keeps s { s with rail := x } :=
  s.keeps_setParams s.params x s.directory rfl (fun ⟨hi, hs, he⟩ => ⟨hi, hs, by rw [h]; exact he⟩) id id

theorem State.keeps_updateSag : Keeps s s.updateSag := by
  unfold State.updateSag
  split
  · exact (s.keeps_setRail (x := { s.rail with sag := true }) rfl).trans (State.keeps_post _ _)
  · split
    · exact (s.keeps_setRail (x := { s.rail with sag := false }) rfl).trans (State.keeps_post _ _)
    · exact .refl s

theorem State.keeps_updateBrownout : Keeps s s.updateBrownout :=
  .of_slots (fun _ => .refl _) (free := fun g => by cases g <;> rfl)

theorem State.keeps_sampleRail (reading : Nat) : Keeps s (s.sampleRail reading) :=
  (((s.keeps_setRail (x := { s.rail with value := min reading Config.railMaxMv }) rfl).trans
    (State.keeps_recomputeE _)).trans (State.keeps_updateSag _)).trans (State.keeps_updateBrownout _)

theorem State.keeps_powerGood : Keeps s (s.powerGood i) := by
  have released := s.keeps_modSlot i (f := fun r => { r with
      ctx := { r.ctx with inrushCommitted := 0 }
      rail := { r.rail with rampTimer := none, powerSeen := true } })
    { inrush := Nat.zero_le _, steady := le_rfl, cost := le_rfl, ramping := id, matched := rfl
      window := fun g => by cases g <;> rfl, shown := id }
  exact (released.trans (State.keeps_identify _ i)).trans (State.keeps_arbitrate _)

/-! ## The slot monitor (Section 1) -/

theorem State.keeps_setSticky : Keeps s (s.setSticky i) := by
  have set := s.keeps_modMon i (f := fun m => { m with sticky := true, darkPulse := some Config.darkPulseUs })
  unfold State.setSticky
  dsimp only
  split
  · exact set.trans (State.keeps_post _ _)
  · exact set

theorem State.keeps_sampleAlert (alert : Level) : Keeps s (s.sampleAlert i alert) := by
  unfold State.sampleAlert
  dsimp only
  split
  · exact (s.keeps_setSticky i).trans (State.keeps_modMon _ i)
  · exact s.keeps_modMon i

theorem Monitor.readKey_pattern (m : Monitor) (key : BitVec 3) : (m.readKey key).pattern = m.pattern := by
  rw [Monitor.readKey_eq]

theorem Monitor.settle_pattern (m : Monitor) (makeFilter : Nat) : (m.settle makeFilter).pattern = m.pattern := by
  unfold Monitor.settle
  split
  · rfl
  · split <;> rfl

theorem Monitor.debounce_pattern (m : Monitor) (makeFilter : Nat) (raw : ContactState) (key : BitVec 3) :
    (m.debounce makeFilter raw key).pattern = m.pattern := by
  have track : (m.track raw).pattern = m.pattern := by
    unfold Monitor.track
    split
    · rfl
    · split <;> rfl
  unfold Monitor.debounce
  dsimp only
  split
  · rw [Monitor.settle_pattern, track]
  · rw [Monitor.readKey_pattern, Monitor.settle_pattern, track]

/-- The debounce step and the copy that the sequencer makes of its outcome, taken together (R3, R6). -/
theorem State.keeps_debounce (m : Monitor) (pattern : m.pattern = (s.mon i).pattern) :
    Keeps s ((s.modMon i fun _ => m).modCtx i fun c => { c with contact := m.contact }) := by
  rw [State.modCtx_eq, State.modMon_eq, State.modSlot_modSlot]
  exact s.keeps_modSlot i
    { inrush := le_rfl, steady := le_rfl, cost := le_rfl, ramping := id, matched := rfl
      window := fun g => by cases g <;> rfl
      shown := fun ⟨_, hp⟩ => ⟨rfl, pattern.trans hp⟩ }

theorem State.keeps_reportContact (old new : ContactState) (key : BitVec 3) :
    Keeps (s.modCtx i fun c => { c with contact := new }) (s.contactChange i old new key) := by
  unfold State.contactChange
  dsimp only
  split
  · exact State.keeps_seatCard _ i _
  · split
    · exact State.keeps_removeCard _ i _
    · exact .refl _
  · split
    · exact State.keeps_removeCard _ i _
    · exact .refl _

theorem State.keeps_sampleContacts (raw : ContactState) (key : BitVec 3) : Keeps s (s.sampleContacts i raw key) := by
  have pattern := Monitor.debounce_pattern (s.mon i) s.params.makeFilter raw key
  unfold State.sampleContacts
  dsimp only
  have now : ((s.modMon i fun m => m.debounce s.params.makeFilter raw key).mon i)
      = (s.mon i).debounce s.params.makeFilter raw key := by
    simp only [State.mon_eq, State.modMon_eq, State.slot_modSlot_self]
  rw [now]
  split
  · rename_i same
    exact s.keeps_modSlot i (.of_ctx rfl le_rfl same pattern)
  · refine Keeps.trans ?_ (State.keeps_reportContact _ i _ _ key)
    have e : (s.modMon i fun m => m.debounce s.params.makeFilter raw key)
        = s.modMon i fun _ => (s.mon i).debounce s.params.makeFilter raw key := rfl
    rw [e]
    exact s.keeps_debounce i _ pattern

theorem State.keeps_settleExpired : Keeps s (s.settleExpired i) := by
  have stopped := s.keeps_modCtx i (f := fun c => { c with settleTimer := none })
  unfold State.settleExpired
  dsimp only
  split
  · exact stopped.trans (State.keeps_identify _ i)
  · split
    · exact stopped.trans (State.keeps_refuseWith _ i _ _)
    · exact stopped.trans (State.keeps_joinRampQueue _ i)

/-! ## The scan's events (Section 8) -/

theorem State.keeps_judgeReply (e : Exchange) (reply : List Byte) : Keeps s (s.judgeReply e reply) := by
  unfold State.judgeReply
  split
  · exact .refl s
  · split
    · exact s.keeps_endDiscarded
    · split
      · exact (s.keeps_exchangeOk _ _).trans (State.keeps_endExchange _ _)
      · exact (s.keeps_exchangeFailed _).trans (State.keeps_endExchange _ _)

theorem State.keeps_failExchange (e : Exchange) : Keeps s (s.failExchange e) := by
  unfold State.failExchange
  split
  · exact s.keeps_endDiscarded
  · exact (s.keeps_exchangeFailed _).trans (State.keeps_endExchange _ _)

/-! ## The directory's sweeps (R130) -/

theorem State.keeps_ageEntry (k : EntryIndex) : Keeps s (s.ageEntry k) := by
  have aged : Keeps s (s.modEntry k Entry.age) := by
    refine s.keeps_modEntry ?_ ?_ <;> generalize s.entry k = e <;> unfold Entry.age
    · split
      · rfl
      · split
        · rfl
        · split
          · rfl
          · rename_i unused
            split
            · rfl
            · exact (Nat.eq_zero_of_not_pos unused).symm
    · split
      · exact fun h _ => h ‹_›
      · split
        · exact fun h => h
        · split
          · exact fun _ h => absurd h (by simp)
          · split
            · exact fun _ h => absurd h (by simp)
            · exact fun _ _ => rfl
  unfold State.ageEntry
  dsimp only
  split
  · exact aged.trans (State.keeps_post _ _)
  · exact aged

theorem State.keeps_sweep : Keeps s s.sweep := State.keeps_foldl State.keeps_ageEntry _ s

end

end Sys2Proof.Machine

namespace Sys2Proof.Machine

open Sys2Proof Sys2Proof.Safety

set_option Elab.async false

section
variable (s : State) (i : Slot) (c tag : Byte)

/-! ## What a request does (R183) -/

/-- A step from `s` to `t` with no word about the queue: every invariant of `s` holds in `t`, and where SAFE_OFF was not in
force the rack is quiet if it is now. -/
structure State.StepKeeps (s t : State) : Prop extends State.KeepsInvariants s t where
  pending : t.pending = s.pending
  awake : s.safeOff = false → QuietInSafeOff t

theorem State.Keeps.step {s t : State} (h : Keeps s t) : StepKeeps s t where
  toKeepsInvariants := h.toKeepsInvariants
  pending := h.pending
  awake off on := by rw [h.safeOff, off] at on; cases on

/-- A step after a change that keeps everything. -/
theorem State.StepKeeps.after {s t u : State} (h : Keeps s t) (g : StepKeeps t u) : StepKeeps s u where
  toKeepsInvariants := h.toKeepsInvariants.trans g.toKeepsInvariants
  pending := g.pending.trans h.pending
  awake off := g.awake (h.safeOff.trans off)

/-- The link is no field that an invariant reads. -/
theorem State.StepKeeps.setLink {s t : State} (h : StepKeeps s t) (l : Link) : StepKeeps s { t with link := l } where
  toKeepsInvariants := h.toKeepsInvariants.trans
    { accounts := id, ramps := id, load := id, notices := id, users := id, shown := id, lane := id, canonical := id
      segments := fun g => segmentsSound_of_eq (fun _ => rfl) (by cases g <;> rfl)
      counted := fun g => segmentsCounted_of_eq (fun _ => rfl) (by cases g <;> rfl) }
  pending := h.pending
  awake := h.awake

/-- The body of an answer is empty where its status is a refusal, but for the statuses and the request whose rules give it
data. -/
def Answer.Plain (a : Answer) : Prop :=
  a.body = [] ∨ a.status = .duplicate ∨ a.status = .inUse ∨ a.status = .tooShort ∨ a.status = .notAllowed
    ∨ a.code = 0x40

/-- `t` is `s` after a request with a code and a tag: a step that leaves the link, and then takes the request's answer; a
refusal changes nothing else. -/
def State.Serves (s : State) (code tag : Byte) (t : State) : Prop :=
  ∃ u a, StepKeeps s u ∧ u.link = s.link ∧ t = { u with link := u.link.take a } ∧ a.code = code ∧ a.tag = tag
    ∧ (0x10 ≤ a.status.code.toNat → u = s ∧ a.Plain)

theorem State.Serves.stepKeeps {s t : State} (h : Serves s c tag t) : StepKeeps s t := by
  obtain ⟨u, a, keeps, -, e, -⟩ := h
  rw [e]
  exact keeps.setLink _

/-- A request that is taken, with the status OK, OK_CLAMPED or ALREADY. -/
theorem State.StepKeeps.serves {s u : State} (h : StepKeeps s u) (link : u.link = s.link) (c tag : Byte) (st : Status)
    (b : List Byte) (o : Option Bool) (taken : st.code.toNat < 0x10 := by decide) :
    Serves s c tag (u.answerWith c tag st b o) :=
  ⟨u, ⟨c, tag, st, b, o⟩, h, link, rfl, rfl, rfl, fun refused => absurd taken (Nat.not_lt.mpr refused)⟩

theorem State.Keeps.serves {s u : State} (h : Keeps s u) (c tag : Byte) (st : Status) (b : List Byte)
    (taken : st.code.toNat < 0x10 := by decide) : Serves s c tag (u.reply c tag st b) :=
  h.step.serves h.link c tag st b none taken

/-- A request that is answered and changes nothing. -/
theorem State.serves_reply (st : Status) (b : List Byte)
    (plain : 0x10 ≤ st.code.toNat → Answer.Plain ⟨c, tag, st, b, none⟩ := by simp [Status.code, Answer.Plain]) :
    Serves s c tag (s.reply c tag st b) :=
  ⟨s, ⟨c, tag, st, b, none⟩, (Keeps.refl s).step, rfl, rfl, rfl, rfl, fun refused => ⟨rfl, plain refused⟩⟩

/-! ## SET PARAMETER (R184) -/

theorem State.Keeps.paramTaken {s u : State} (h : Keeps s u) (tag id : Byte) (requested used : List Nat) :
    Serves s 0x04 tag (u.paramTaken tag id requested used) :=
  h.serves 0x04 tag _ _ (by split <;> decide)

theorem State.keeps_recheckSlot : Keeps s (s.recheckSlot i) := by
  unfold State.recheckSlot
  split
  · exact (s.keeps_modRail i _).trans (State.keeps_refuseWith _ i _ _)
  · exact .refl s

theorem State.keeps_recheckQueue : Keeps s s.recheckQueue :=
  (State.keeps_foldl State.keeps_recheckSlot allSlots s).trans (State.keeps_arbitrate _)

/-- New parameters under which the budgets, RAMP_LIMIT and the cycle budget still cover what is in use. -/
theorem State.keeps_params (p : Params)
    (inrush : s.ci ≤ s.params.inrushBudget → s.ci ≤ p.inrushBudget) (steady : p.steadyBudget = s.params.steadyBudget)
    (ramps : s.rampingCount ≤ s.params.rampLimit → s.rampingCount ≤ p.rampLimit)
    (load : s.load ≤ s.budget → s.load ≤ p.cyclePeriod * 10 * p.fillPercent) : Keeps s { s with params := p } :=
  s.keeps_setParams p s.rail s.directory rfl
    (fun ⟨hi, hs, he⟩ => ⟨inrush hi, by rw [steady]; exact hs, by rw [steady]; exact he⟩) ramps load

/-- A parameter that no figure in use is bounded by. -/
theorem State.serves_setClamped {id : Byte} {lo hi v : Nat} {store : Nat → Params → Params}
    (h : ∀ x q, ((store x q).inrushBudget, (store x q).steadyBudget, (store x q).rampLimit, (store x q).cyclePeriod,
        (store x q).fillPercent)
      = (q.inrushBudget, q.steadyBudget, q.rampLimit, q.cyclePeriod, q.fillPercent) := by intro _ _; rfl) :
    Serves s 0x04 tag (s.setClamped tag id lo hi v store) := by
  have e := h (clampTo lo hi v) s.params
  simp only [Prod.mk.injEq] at e
  obtain ⟨inrush, steady, ramps, period, fill⟩ := e
  exact (s.keeps_params _ (by rw [inrush]; exact fun x => x) steady (by rw [ramps]; exact fun x => x)
    (by rw [period, fill]; exact fun x => x)).paramTaken ..

theorem State.serves_setInrushBudget (id : Byte) (v : Nat) : Serves s 0x04 tag (s.setInrushBudget tag id v) := by
  unfold State.setInrushBudget
  dsimp only
  split
  · exact s.serves_reply ..
  · rename_i covered
    exact ((s.keeps_params { s.params with inrushBudget := min v 1023 } (fun _ => Nat.le_of_not_lt covered) rfl
      (fun h => h) fun h => h).trans (State.keeps_recheckQueue _)).paramTaken ..

theorem State.serves_setSteadyBudget (id : Byte) (v : Nat) : Serves s 0x04 tag (s.setSteadyBudget tag id v) := by
  unfold State.setSteadyBudget
  dsimp only
  split
  · exact s.serves_reply ..
  · rename_i covered
    have stored : Keeps s ({ s with params := { s.params with steadyBudget := min v 1023 } }).recomputeE :=
      s.keeps_setParams _ _ s.directory rfl
        (fun ⟨hi, _, _⟩ => ⟨hi, Nat.le_of_not_lt covered, effectiveSteady_le ..⟩) (fun h => h) fun h => h
    exact (stored.trans (State.keeps_recheckQueue _)).paramTaken ..

theorem State.serves_setRampLimit (id : Byte) (v : Nat) : Serves s 0x04 tag (s.setRampLimit tag id v) := by
  unfold State.setRampLimit
  dsimp only
  split
  · exact s.serves_reply ..
  · rename_i covered
    exact ((s.keeps_params { s.params with rampLimit := clampTo 1 4 v } (fun h => h) rfl
      (fun _ => Nat.le_of_not_lt covered) fun h => h).trans (State.keeps_arbitrate _)).paramTaken ..

theorem State.serves_setArbiterMode (id : Byte) (v : Nat) : Serves s 0x04 tag (s.setArbiterMode tag id v) := by
  have stored : ∀ m, Keeps s { s with params := { s.params with arbiterMode := m } } := fun m =>
    s.keeps_params _ (fun h => h) rfl (fun h => h) fun h => h
  unfold State.setArbiterMode
  split
  · exact ((stored _).trans (State.keeps_arbitrate _)).paramTaken ..
  · split
    · exact ((stored _).trans (State.keeps_arbitrate _)).paramTaken ..
    · exact s.serves_reply ..

theorem State.serves_setRailFull (id : Byte) (v : Nat) : Serves s 0x04 tag (s.setRailFull tag id v) := by
  unfold State.setRailFull
  dsimp only
  split
  · exact s.serves_reply ..
  · exact (((s.keeps_params { s.params with railFullMv := clampTo 10000 30000 v } (fun h => h) rfl (fun h => h)
      fun h => h).trans (State.keeps_recomputeE _)).trans (State.keeps_arbitrate _)).paramTaken ..

theorem State.serves_setRailFloor (id : Byte) (v : Nat) : Serves s 0x04 tag (s.setRailFloor tag id v) := by
  unfold State.setRailFloor
  dsimp only
  split
  · exact s.serves_reply ..
  · exact (((s.keeps_params { s.params with railFloorMv := clampTo 10000 30000 v } (fun h => h) rfl (fun h => h)
      fun h => h).trans (State.keeps_recomputeE _)).trans (State.keeps_arbitrate _)).paramTaken ..

theorem State.serves_setClassRow (id : Byte) (cls : InrushClass) (v w : Nat) :
    Serves s 0x04 tag (s.setClassRow tag id cls v w) := by
  have stored : ∀ t, Keeps s { s with params := { s.params with classTable := t } } := fun t =>
    s.keeps_params _ (fun h => h) rfl (fun h => h) fun h => h
  unfold State.setClassRow
  dsimp only
  exact ((stored _).trans (State.keeps_recheckQueue _)).paramTaken ..

theorem State.serves_setAgeInterval (id : Byte) (v : Nat) : Serves s 0x04 tag (s.setAgeInterval tag id v) := by
  unfold State.setAgeInterval
  exact (s.keeps_setParams { s.params with ageInterval := min v 255 } s.rail
    { s.directory with ageTimer := if min v 255 = 0 then none else some (min v 255 * Config.usPerMinute) } rfl
    (fun h => h) (fun h => h) fun h => h).paramTaken ..

theorem State.serves_setCyclePeriod (id : Byte) (v : Nat) : Serves s 0x04 tag (s.setCyclePeriod tag id v) := by
  unfold State.setCyclePeriod
  dsimp only
  split
  · exact s.serves_reply ..
  · rename_i covered
    exact (s.keeps_params { s.params with cyclePeriod := clampTo 250 20000 v / 50 * 50 } (fun h => h) rfl (fun h => h)
      fun _ => Nat.le_of_not_lt covered).paramTaken ..

theorem State.serves_setFillPercent (id : Byte) (v : Nat) : Serves s 0x04 tag (s.setFillPercent tag id v) := by
  unfold State.setFillPercent
  dsimp only
  split
  · exact s.serves_reply ..
  · rename_i covered
    exact (s.keeps_params { s.params with fillPercent := clampTo 50 95 v } (fun h => h) rfl (fun h => h)
      fun _ => Nat.le_of_not_lt covered).paramTaken ..

theorem State.serves_setParam (id : Byte) (p : ParamId) (v w : Nat) : Serves s 0x04 tag (s.setParam tag id p v w) := by
  cases p <;> dsimp only [State.setParam]
  case inrushBudget => exact s.serves_setInrushBudget ..
  case steadyBudget => exact s.serves_setSteadyBudget ..
  case rampLimit => exact s.serves_setRampLimit ..
  case arbiterMode => exact s.serves_setArbiterMode ..
  case railFullMv => exact s.serves_setRailFull ..
  case railFloorMv => exact s.serves_setRailFloor ..
  case ageInterval => exact s.serves_setAgeInterval ..
  case cyclePeriod => exact s.serves_setCyclePeriod ..
  case fillPercent => exact s.serves_setFillPercent ..
  case classRow cls => exact s.serves_setClassRow ..
  all_goals exact s.serves_setClamped tag

theorem serves_requestSetParameter (id : Byte) (value : HWord) (second : Option HWord) :
    State.Serves s 0x04 tag (requestSetParameter tag id value second s) := by
  unfold requestSetParameter
  split
  · exact s.serves_reply ..
  · split
    · exact s.serves_reply ..
    · split
      · exact s.serves_reply ..
      · exact s.serves_setParam ..

/-! ## Queries -/

theorem serves_requestSlotInfo (slot : Byte) : State.Serves s 0x02 tag (requestSlotInfo tag slot s) := by
  unfold requestSlotInfo
  split <;> exact s.serves_reply ..

theorem serves_requestGetParameter (id : Byte) : State.Serves s 0x05 tag (requestGetParameter tag id s) := by
  unfold requestGetParameter
  split <;> exact s.serves_reply ..

theorem serves_requestFetchNotices (maximum : Byte) : State.Serves s 0x03 tag (requestFetchNotices tag maximum s) := by
  unfold requestFetchNotices
  dsimp only
  split
  · exact s.serves_reply ..
  · have taken : State.Keeps s { s with notices := ⟨s.notices.queue.drop maximum.toNat, false⟩ } :=
      .of_slots (fun _ => .refl _) (free := fun g => by cases g <;> rfl) (notices := fun h =>
        le_trans (by rw [List.length_drop]; exact Nat.sub_le _ _) h)
    exact taken.step.serves taken.link ..

/-! ## Requests on one slot -/

theorem State.keeps_writePolicy (f : PolicyFields) : Keeps s (s.writePolicy i f) :=
  s.keeps_modSlot i ⟨le_rfl, le_rfl, le_rfl, fun h => h, rfl, fun g => by cases g <;> rfl, fun h => h⟩

theorem State.keeps_policyOff : Keeps s (s.policyOff i) := by
  unfold State.policyOff
  split
  · exact .refl s
  · exact .refl s
  iterate 4 exact s.keeps_enterEmpty i (by decide)
  · exact s.keeps_beginWithdrawal ..

theorem State.keeps_policyOn : Keeps s (s.policyOn i) := by
  unfold State.policyOn
  split
  · split
    · exact (s.keeps_enterSettling i _).trans (State.keeps_post _ _)
    · exact s.keeps_enterEmpty i (by decide)
  · exact .refl s

theorem State.keeps_takePolicy (f : PolicyFields) : Keeps s (s.takePolicy i f) := by
  have written := s.keeps_writePolicy i f
  have applied : Keeps s (if f.policy = .off then (s.writePolicy i f).policyOff i else (s.writePolicy i f).policyOn i) := by
    split
    · exact written.trans (State.keeps_policyOff _ i)
    · exact written.trans (State.keeps_policyOn _ i)
  unfold State.takePolicy
  dsimp only
  split
  · exact applied.trans (State.keeps_arbitrate _)
  · exact applied

theorem serves_requestSetSlotPolicy (slot policy priority inputPolicy triggerMode alertNotices : Byte) :
    State.Serves s 0x10 tag (requestSetSlotPolicy tag slot policy priority inputPolicy triggerMode alertNotices s) := by
  unfold requestSetSlotPolicy
  split
  · exact s.serves_reply ..
  · split
    · exact s.serves_reply ..
    · split
      · exact s.serves_reply ..
      · exact (s.keeps_takePolicy ..).serves ..

theorem serves_requestRelease (slot : Byte) : State.Serves s 0x11 tag (requestRelease tag slot s) := by
  unfold requestRelease
  split
  · exact s.serves_reply ..
  · split
    · exact s.serves_reply ..
    · split
      · exact ((s.keeps_setState _ (by decide)).trans (State.keeps_startDetector _ _ _)).serves ..
      · exact s.serves_reply ..

theorem serves_requestRefuse (slot : Byte) : State.Serves s 0x12 tag (requestRefuse tag slot s) := by
  unfold requestRefuse
  split
  · exact s.serves_reply ..
  · split
    · exact s.serves_reply ..
    · split
      · exact (s.keeps_refuseWith ..).serves ..
      · exact s.serves_reply ..

theorem serves_requestRetry (slot : Byte) : State.Serves s 0x13 tag (requestRetry tag slot s) := by
  unfold requestRetry
  split
  · exact s.serves_reply ..
  · split
    · exact s.serves_reply ..
    · split
      · exact ((s.keeps_enterSettling _ _).trans (State.keeps_modCtx _ _)).serves ..
      · exact s.serves_reply ..

theorem State.keeps_withdrawSlot : Keeps s (s.withdrawSlot i) :=
  (s.keeps_setVerdict i _).trans (State.keeps_beginWithdrawal ..)

theorem serves_requestWithdraw (slot : Byte) : State.Serves s 0x14 tag (requestWithdraw tag slot s) := by
  unfold requestWithdraw
  split
  · exact s.serves_reply ..
  · split
    · exact s.serves_reply ..
    · split
      iterate 5 exact s.serves_reply ..
      · exact (s.keeps_withdrawSlot _).serves ..

theorem State.keeps_startLocate (seconds : Nat) : Keeps s (s.startLocate i seconds) := s.keeps_modMon i

theorem serves_requestLocate (slot seconds : Byte) : State.Serves s 0x15 tag (requestLocate tag slot seconds s) := by
  unfold requestLocate
  split
  · exact s.serves_reply ..
  · split
    · exact s.serves_reply ..
    · split
      · split
        · exact (s.keeps_modMon _).serves ..
        · exact s.serves_reply ..
      · split
        · exact (s.keeps_startLocate ..).serves ..
        · exact (s.keeps_startLocate ..).serves ..

theorem State.keeps_acknowledgeAlert : Keeps s (s.acknowledgeAlert i) := by
  have cleared := s.keeps_modMon i (f := fun m => { m with sticky := false })
  unfold State.acknowledgeAlert
  dsimp only
  split
  · exact cleared.trans (State.keeps_setSticky _ i)
  · exact cleared

theorem serves_requestAckAlert (slot : Byte) : State.Serves s 0x16 tag (requestAckAlert tag slot s) := by
  unfold requestAckAlert
  split
  · exact s.serves_reply ..
  · split
    · exact s.serves_reply ..
    · split
      · exact (s.keeps_acknowledgeAlert _).serves ..
      · exact s.serves_reply ..

theorem State.serves_clearRackMarks : Serves s 0x17 tag (s.clearRackMarks tag) := by
  have cleared : Keeps s { s with marks := s.marksAfterClear } :=
    .of_slots (fun _ => .refl _) (free := fun g => by cases g <;> rfl)
  exact cleared.serves _ _ _ _ (by split <;> decide)

theorem State.serves_clearSlotFault : Serves s 0x17 tag (s.clearSlotFault tag i) := by
  unfold State.clearSlotFault
  split
  · exact (s.keeps_modCtx i).serves ..
  · exact s.serves_reply ..

theorem serves_requestClearFault (slot : Byte) : State.Serves s 0x17 tag (requestClearFault tag slot s) := by
  unfold requestClearFault
  split
  · split
    · exact s.serves_reply ..
    · exact s.serves_clearRackMarks tag
  · split
    · exact s.serves_reply ..
    · split
      · exact s.serves_reply ..
      · exact s.serves_clearSlotFault _ tag

/-! ## Directory requests (Section 6) -/

theorem State.serves_addEntry (b : EntryBody) : Serves s 0x20 tag (s.addEntry tag b) := by
  unfold State.addEntry
  split
  · exact s.serves_reply ..
  · split
    · exact s.serves_reply ..
    · split
      · exact s.serves_reply ..
      · rename_i free
        exact (s.keeps_fillEntry (s.findFree_spec free) b).serves ..

theorem serves_requestDirectoryAdd (body : EntryBytes) : State.Serves s 0x20 tag (requestDirectoryAdd tag body s) := by
  unfold requestDirectoryAdd
  split
  · exact s.serves_reply ..
  · split
    · exact s.serves_reply ..
    · exact s.serves_addEntry ..

theorem State.serves_deleteEntry (k : EntryIndex) : Serves s 0x21 tag (s.deleteEntry tag k) := by
  unfold State.deleteEntry
  split
  · exact s.serves_reply ..
  · split
    · exact s.serves_reply ..
    · split
      · exact s.serves_reply ..
      · rename_i unused
        exact (s.keeps_modEntry (f := fun _ => Entry.free) (Nat.eq_zero_of_not_pos unused).symm fun _ _ => rfl).serves ..

theorem serves_requestDirectoryDelete (index : Byte) : State.Serves s 0x21 tag (requestDirectoryDelete tag index s) := by
  unfold requestDirectoryDelete
  split
  · exact s.serves_reply ..
  · split
    · exact s.serves_reply ..
    · exact s.serves_deleteEntry ..

theorem serves_requestDirectoryRead (index : Byte) : State.Serves s 0x22 tag (requestDirectoryRead tag index s) := by
  unfold requestDirectoryRead
  split
  · exact s.serves_reply ..
  · split <;> exact s.serves_reply ..

theorem serves_requestDirectoryFind (body : EntryBytes) : State.Serves s 0x23 tag (requestDirectoryFind tag body s) := by
  unfold requestDirectoryFind
  split
  · exact s.serves_reply ..
  · split
    · exact s.serves_reply ..
    · split <;> exact s.serves_reply ..

theorem State.serves_keepEntry (k : EntryIndex) : Serves s 0x24 tag (s.keepEntry tag k) := by
  unfold State.keepEntry
  split
  · exact s.serves_reply ..
  · split
    · exact s.serves_reply ..
    · rename_i b _
      split
      · exact s.serves_reply ..
      · exact (s.keeps_modEntry (f := fun e => { e with body := some { b with origin := .static } }) rfl
          fun _ h => absurd h (by simp)).serves ..

theorem serves_requestDirectoryKeep (index : Byte) : State.Serves s 0x24 tag (requestDirectoryKeep tag index s) := by
  unfold requestDirectoryKeep
  split
  · exact s.serves_reply ..
  · split
    · exact s.serves_reply ..
    · exact s.serves_keepEntry ..

theorem serves_requestAgeSweep : State.Serves s 0x25 tag (requestAgeSweep tag s) := by
  unfold requestAgeSweep
  split
  · exact s.serves_reply ..
  · exact s.keeps_sweep.serves ..

/-! ## Scan and image requests (Sections 7 and 8) -/

theorem serves_requestScanStart : State.Serves s 0x30 tag (requestScanStart tag s) := by
  unfold requestScanStart
  split
  · exact s.serves_reply ..
  · split
    · exact ((s.keeps_modScanRack _).trans (State.keeps_boundary _)).serves ..
    · exact s.serves_reply ..
    · exact s.serves_reply ..

theorem State.keeps_stopScan : Keeps s s.stopScan := (s.keeps_modScanRack _).trans (State.keeps_settleCycle _)

theorem serves_requestScanStop : State.Serves s 0x31 tag (requestScanStop tag s) := by
  unfold requestScanStop
  split
  · exact s.serves_reply ..
  · split
    · exact s.keeps_stopScan.serves ..
    · exact s.serves_reply ..

theorem serves_requestImageRead (slot image : Byte) (offset : HWord) (length : Byte) :
    State.Serves s 0x32 tag (requestImageRead tag slot image offset length s) := by
  unfold requestImageRead
  split
  · exact s.serves_reply ..
  · split
    · exact s.serves_reply ..
    · dsimp only
      split
      · exact s.serves_reply ..
      · split
        · exact s.serves_reply ..
        · split
          · exact s.serves_reply ..
          · split <;> exact s.serves_reply ..

theorem serves_requestImageWrite (slot : Byte) (offset : HWord) (data : List Byte) :
    State.Serves s 0x33 tag (requestImageWrite tag slot offset data s) := by
  unfold requestImageWrite
  split
  · exact s.serves_reply ..
  · split
    · exact s.serves_reply ..
    · split
      · exact s.serves_reply ..
      · split
        · exact s.serves_reply ..
        · split
          · exact s.serves_reply ..
          · split
            · exact s.serves_reply ..
            · exact (s.keeps_writeWindow ..).serves ..

/-! ## Requests on the rack -/

theorem State.serves_changeMode (m : RackMode) : Serves s 0x40 tag (s.changeMode tag m) := by
  unfold State.changeMode
  split
  · exact s.serves_reply ..
  · split
    · exact s.serves_reply ..
    · have changed : Keeps s { s with mode := m } :=
        .of_slots (fun _ => .refl _) (free := fun g => by cases g <;> rfl)
      exact changed.serves ..

theorem serves_requestSetMode (mode : Byte) : State.Serves s 0x40 tag (requestSetMode tag mode s) := by
  unfold requestSetMode
  split
  · exact s.serves_reply ..
  · split
    · exact s.serves_reply ..
    · exact s.serves_changeMode ..

theorem State.keeps_setFrozen (b : Bool) : Keeps s (s.setFrozen b) :=
  .of_slots (fun _ => .refl _) (free := fun g => by cases g <;> rfl)

theorem serves_requestFreeze : State.Serves s 0x41 tag (requestFreeze tag s) := by
  unfold requestFreeze
  split
  · exact s.serves_reply ..
  · split
    · exact s.serves_reply ..
    · exact (s.keeps_setFrozen _).serves ..

theorem State.keeps_thaw : Keeps s s.thaw := by
  have thawed := (s.keeps_setFrozen false).trans (State.keeps_arbitrate _)
  unfold State.thaw
  dsimp only
  split
  · exact thawed.trans (State.keeps_applyJoins _)
  · exact thawed

theorem serves_requestThaw : State.Serves s 0x42 tag (requestThaw tag s) := by
  unfold requestThaw
  split
  · exact s.serves_reply ..
  · split
    · exact s.serves_reply ..
    · split
      · exact s.keeps_thaw.serves ..
      · exact s.serves_reply ..

/-- A slot's record with its figures emptied: nothing is committed or costed, and no window is held. -/
structure SlotRecord.Emptied (r q : SlotRecord) : Prop where
  inrush : q.ctx.inrushCommitted = 0
  steady : q.ctx.steadyCommitted = 0
  cost : q.scan.cost = none
  window : ∀ g, q.ctx.window g = none
  ramping : q.ctx.state = .ramping → r.ctx.state = .ramping
  shown : r.Shown → q.Shown

/-- A change of the whole part that empties every slot's figures and makes both free lists whole. -/
theorem State.keeps_of_emptied {t : State}
    (slots : ∀ j, SlotRecord.Emptied (s.slot j) (t.slot j))
    (users : UsersCounted s → UsersCounted t) (lane : s.lane.Sound → t.lane.Sound)
    (params : t.params = s.params) (effective : t.rail.effective = s.rail.effective)
    (imageIn : t.imageIn = s.imageIn.clear) (imageOut : t.imageOut = s.imageOut.clear)
    (notices : NoticesBounded s → NoticesBounded t) (pending : t.pending = s.pending) (link : t.link = s.link)
    (safeOff : t.safeOff = s.safeOff) : Keeps s t := by
  have free : ∀ g, (t.image g).free = [⟨0, 128⟩] := fun g => by
    cases g
    · show t.imageIn.free = _; rw [imageIn]; rfl
    · show t.imageOut.free = _; rw [imageOut]; rfl
  have window : ∀ g j, (t.ctx j).window g = none := fun g j => (slots j).window g
  exact
    { accounts := accountsBounded_of_le (fun j => by rw [(slots j).inrush]; exact Nat.zero_le _)
        (fun j => by rw [(slots j).steady]; exact Nat.zero_le _) params effective
      ramps := rampsBounded_of_imp (fun j => (slots j).ramping) params
      load := loadBounded_of_le (fun j => by rw [(slots j).cost]; exact Nat.zero_le _) params
      notices := notices
      users := users
      shown := fun h j => (slots j).shown (h j)
      lane := lane
      segments := fun g _ => by
        have absent : ∀ {j w}, (t.ctx j).window g ≠ some w := fun {j _} => by rw [window g j]; simp
        exact ⟨by rw [free]; exact ⟨by simp, by simp⟩, fun j w hw => absurd hw absent,
          fun j k w v _ hw _ => absurd hw absent⟩
      counted := fun g _ => by
        have none : t.total (fun r => windowCount (r.ctx.window g)) = 0 := by
          rw [State.total_eq_sum]
          exact Finset.sum_eq_zero fun j _ => congrArg windowCount (window g j)
        rw [SegmentsCounted, none, Image.freeTotal, free]
        rfl
      canonical := fun ⟨hi, ho⟩ => ⟨by rw [imageIn]; exact hi, by rw [imageOut]; exact ho⟩
      pending := pending
      link := link
      safeOff := safeOff }

theorem Lane.sound_clear {l : Lane} (h : l.Sound) : l.clear.Sound :=
  Lane.sound_of_terms (by simp [Lane.terms, Lane.clear]) h

theorem Context.restartState_ne_ramping (x : Context) : x.restartState ≠ .ramping := by
  unfold Context.restartState
  split
  · simp
  · split <;> simp

theorem Monitor.restart_contact (m : Monitor) (p : LedPattern) : (m.restart p).contact = m.contact :=
  Monitor.showPattern_contact _ _

theorem State.keeps_restartAll : Keeps s s.restartAll := by
  have slot : ∀ j, s.restartAll.slot j = (s.slot j).restart s.longSettleUs := fun j => State.slot_mapSlots s _ j
  refine s.keeps_of_emptied (fun j => ?_) (fun _ k => ?_) Lane.sound_clear rfl rfl rfl rfl (fun _ => ?_) rfl rfl rfl
  · rw [slot]
    generalize s.slot j = r
    exact ⟨rfl, rfl, rfl, fun g => by cases g <;> rfl, fun h => absurd h (Context.restartState_ne_ramping _),
      fun ⟨contact, _⟩ => ⟨contact.trans (Monitor.restart_contact _ _).symm, Monitor.showPattern_pattern _ _⟩⟩
  · have entry : (s.restartAll.entry k).users = 0 := by
      simp [State.restartAll, State.entry, Directory.restart]
    refine ⟨?_, fun _ => entry⟩
    rw [entry, State.length_slotsWith, State.total_eq_sum]
    exact (Finset.sum_eq_zero fun j _ => by rw [slot]; rfl).symm
  · show (1 : Nat) ≤ 24
    decide

theorem serves_requestRestart : State.Serves s 0x06 tag (requestRestart tag s) := by
  unfold requestRestart
  split
  · exact s.serves_reply ..
  · exact s.keeps_restartAll.step.serves s.keeps_restartAll.link ..

/-- Steps 1 to 3 of SAFE OFF (R177). -/
def State.shutDown (s : State) : State :=
  let s := s.mapSlots SlotRecord.safeOff
  { s with
    scan := s.scan.clear, lane := s.lane.clear, imageIn := s.imageIn.clear, imageOut := s.imageOut.clear }

/-- Steps 1 to 4 of SAFE OFF: every slot is withdrawn too (R177). -/
def State.withdrawAll (s : State) : State := allSlots.foldl State.safeOffSlot s.shutDown

theorem State.enterSafeOff_eq : s.enterSafeOff =
    { s.withdrawAll with safeOff := true, marks := { s.withdrawAll.marks with safeOff := true } } := by
  unfold State.enterSafeOff State.withdrawAll State.shutDown
  dsimp only

theorem State.slot_shutDown (j : Slot) : s.shutDown.slot j = (s.slot j).safeOff := State.slot_mapSlots s _ j

theorem State.keeps_shutDown : Keeps s s.shutDown := by
  refine s.keeps_of_emptied (fun j => ?_) (usersCounted_of_eq (fun j => by rw [State.slot_shutDown]; rfl) rfl)
    Lane.sound_clear rfl rfl rfl rfl (fun h => h) rfl rfl rfl
  rw [State.slot_shutDown]
  exact ⟨rfl, rfl, rfl, fun g => by cases g <;> rfl, fun h => h, fun h => h⟩

theorem State.keeps_safeOffSlot : Keeps s (s.safeOffSlot i) := by
  unfold State.safeOffSlot
  split
  · exact .refl s
  · exact .refl s
  · exact (s.keeps_markWithdrawing i _ _).trans (State.keeps_endWithdrawal _ i)

theorem State.keeps_withdrawAll : Keeps s s.withdrawAll :=
  s.keeps_shutDown.trans (State.keeps_foldl State.keeps_safeOffSlot allSlots s.shutDown)

/-- The SAFE_OFF flag and its mark are no field that an invariant reads. -/
theorem State.keepsInvariants_setSafeOff (b : Bool) (m : RackMarks) :
    KeepsInvariants s { s with safeOff := b, marks := m } where
  accounts := accountsBounded_of_le (fun _ => le_rfl) (fun _ => le_rfl) rfl rfl
  ramps := rampsBounded_of_imp (fun _ h => h) rfl
  load := loadBounded_of_le (fun _ => le_rfl) rfl
  notices h := h
  users := usersCounted_of_eq (fun _ => rfl) rfl
  shown h := h
  lane h := h
  segments g := segmentsSound_of_eq (fun _ => rfl) (by cases g <;> rfl)
  counted g := segmentsCounted_of_eq (fun _ => rfl) (by cases g <;> rfl)
  canonical h := h

theorem State.keepsInvariants_enterSafeOff : KeepsInvariants s s.enterSafeOff := by
  rw [State.enterSafeOff_eq]
  exact s.keeps_withdrawAll.toKeepsInvariants.trans (State.keepsInvariants_setSafeOff _ _ _)

theorem State.enterSafeOff_pending : s.enterSafeOff.pending = s.pending := by
  have kept := s.keeps_withdrawAll.pending
  rw [State.enterSafeOff_eq]
  generalize s.withdrawAll = t at kept
  exact kept

end

end Sys2Proof.Machine

/-! What the end of a withdrawal makes of a slot (2.9): one change of its record after its match is dropped, and the WITHDRAWN
notice. What SAFE OFF leaves of every slot follows. -/

namespace Sys2Proof.Machine

open Sys2Proof Sys2Proof.Safety

set_option Elab.async false

/-! ## A dropped match beside a change of the record -/

/-- The record without its match. -/
def SlotRecord.unmatched (r : SlotRecord) : SlotRecord := { r with ctx := { r.ctx with matched := none } }

theorem State.slot_dropMatch_eq (s : State) (i j : Slot) :
    (s.dropMatch i).slot j = if j = i then (s.slot i).unmatched else s.slot j := s.slot_dropMatch i j

/-- A change of the slot's record that neither reads nor writes the match may be made before the match is dropped. -/
theorem State.dropMatch_modSlot (s : State) (i : Slot) {f : SlotRecord → SlotRecord}
    (matched : ∀ r, (f r).ctx.matched = r.ctx.matched) (commutes : ∀ r, f r.unmatched = (f r).unmatched) :
    (s.modSlot i f).dropMatch i = (s.dropMatch i).modSlot i f := by
  unfold State.dropMatch
  have e : ((s.modSlot i f).ctx i).matched = (s.ctx i).matched := by
    rw [State.ctx_eq, State.slot_modSlot_self, matched]
    rfl
  rw [e]
  split
  · rfl
  · rename_i k _
    have swap : ((s.modSlot i f).modEntry k fun e => { e with users := e.users - 1 })
        = (s.modEntry k fun e => { e with users := e.users - 1 }).modSlot i f := rfl
    rw [State.modCtx_eq, State.modCtx_eq, swap, State.modSlot_modSlot, State.modSlot_modSlot]
    congr 1
    funext r
    exact (commutes r).symm

theorem SlotRecord.enter_unmatched (st : SlotState) (r : SlotRecord) : r.unmatched.enter st = (r.enter st).unmatched := by
  unfold SlotRecord.enter SlotRecord.unmatched
  dsimp only
  split <;> rfl

/-! ## A slot's record as it enters a state at the end of its withdrawal (R22 to R24, R50) -/

/-- The record as the slot enters the state in which its withdrawal ends, its match aside. -/
def SlotRecord.enterAt (us : Nat) (st : SlotState) (r : SlotRecord) : SlotRecord :=
  match st with
  | .disabled | .vacant => { r.enter st with ctx := (r.enter st).ctx.cleared }
  | .settling => r.settleFor us
  | st => r.enter st

theorem State.enterEmpty_eq (s : State) (i : Slot) (st : SlotState) :
    s.enterEmpty i st = (s.dropMatch i).modSlot i fun r => { r.enter st with ctx := (r.enter st).ctx.cleared } := by
  unfold State.enterEmpty
  rw [State.setState_eq, State.modCtx_eq, State.modSlot_modSlot]

theorem State.enterEnd_eq (s : State) (i : Slot) (st : SlotState) :
    s.enterEnd i st = (s.dropMatch i).modSlot i (SlotRecord.enterAt s.longSettleUs st) := by
  unfold State.enterEnd
  split
  · exact s.enterEmpty_eq i _
  · exact s.enterEmpty_eq i _
  · exact s.enterSettling_eq i _
  · rename_i h₁ h₂ h₃
    have e : SlotRecord.enterAt s.longSettleUs st = SlotRecord.enter st := by
      funext r
      unfold SlotRecord.enterAt
      split
      · exact absurd rfl h₁
      · exact absurd rfl h₂
      · exact absurd rfl h₃
      · rfl
    rw [e]
    rfl

/-- The record without the fields of a withdrawal. -/
def SlotRecord.unleaving (r : SlotRecord) : SlotRecord :=
  { r with ctx := { r.ctx with destination := none, reason := none, leaving := none } }

/-- The record as its withdrawal ends: the withdrawal's fields go, and the slot enters the state that R49 gives. -/
def SlotRecord.withdrawn (us : Nat) (r : SlotRecord) : SlotRecord :=
  r.unleaving.enterAt us r.ctx.endState

/-- The notice that ends a withdrawal (R50). -/
def Context.withdrawnNotice (c : Context) (i : Slot) : Notice :=
  ⟨.withdrawn, some i, optionCode (c.reason.map Reason.code), [c.endState.code]⟩

theorem State.endWithdrawal_eq (s : State) (i : Slot) :
    s.endWithdrawal i = ((s.dropMatch i).modSlot i (SlotRecord.withdrawn s.longSettleUs)).post
      ((s.ctx i).withdrawnNotice i) := by
  unfold State.endWithdrawal
  dsimp only
  have e : ((s.dropMatch i).ctx i).endState = (s.ctx i).endState := by
    rw [State.ctx_eq, State.slot_dropMatch_eq, if_pos rfl]; rfl
  have strip : (s.modCtx i fun c => { c with destination := none, reason := none, leaving := none })
      = s.modSlot i SlotRecord.unleaving := rfl
  rw [State.enterEnd_eq, strip, State.dropMatch_modSlot s i (f := SlotRecord.unleaving) (fun _ => rfl) (fun _ => rfl),
    State.modSlot_modSlot, State.postSlot_eq]
  congr 1
  have own : ∀ {f g : SlotRecord → SlotRecord} {u : State}, f (u.slot i) = g (u.slot i) → u.modSlot i f = u.modSlot i g :=
    fun h => by unfold State.modSlot; rw [h]
  refine own ?_
  unfold SlotRecord.withdrawn
  rw [← State.ctx_eq, e]
  rfl

section
variable {r : SlotRecord} {us : Nat} {st : SlotState}

/-- Every clause about the record that `enterAt` makes holds of the three ways of entering a state. -/
theorem SlotRecord.enterAt_induct {P : SlotRecord → Prop} (empty : st = .disabled ∨ st = .vacant →
      P { r.enter st with ctx := (r.enter st).ctx.cleared })
    (settle : st = .settling → P (r.settleFor us)) (held : P (r.enter st)) : P (r.enterAt us st) := by
  unfold SlotRecord.enterAt
  split
  · exact empty (.inl rfl)
  · exact empty (.inr rfl)
  · exact settle rfl
  · exact held

@[simp] theorem SlotRecord.enterAt_rail : (r.enterAt us st).rail = r.rail :=
  enterAt_induct (P := fun q => q.rail = r.rail) (fun _ => r.enter_rail st) (fun _ => r.settleFor_rail us) (r.enter_rail st)

@[simp] theorem SlotRecord.enterAt_detector : (r.enterAt us st).detector = r.detector :=
  enterAt_induct (P := fun q => q.detector = r.detector) (fun _ => r.enter_detector st)
    (fun _ => r.settleFor_detector us) (r.enter_detector st)

@[simp] theorem SlotRecord.enterAt_scan : (r.enterAt us st).scan = r.scan :=
  enterAt_induct (P := fun q => q.scan = r.scan) (fun _ => r.enter_scan st) (fun _ => r.settleFor_scan us)
    (r.enter_scan st)

@[simp] theorem SlotRecord.enterAt_state : (r.enterAt us st).ctx.state = st :=
  enterAt_induct (P := fun q => q.ctx.state = st) (fun _ => r.enter_state st)
    (fun h => by rw [SlotRecord.settleFor_ctx, h]) (r.enter_state st)

/-- What entering a state at the end of a withdrawal leaves of the context. -/
theorem SlotRecord.enterAt_ctx : (r.enterAt us st).ctx = { r.ctx with
    state := st, missCount := (r.enterAt us st).ctx.missCount, identity := (r.enterAt us st).ctx.identity
    verdict := (r.enterAt us st).ctx.verdict, inrushClass := (r.enterAt us st).ctx.inrushClass
    attempts := (r.enterAt us st).ctx.attempts, settleTimer := (r.enterAt us st).ctx.settleTimer } := by
  refine enterAt_induct (P := fun q => q.ctx = { r.ctx with
    state := st, missCount := q.ctx.missCount, identity := q.ctx.identity, verdict := q.ctx.verdict
    inrushClass := q.ctx.inrushClass, attempts := q.ctx.attempts, settleTimer := q.ctx.settleTimer }) ?_ ?_ ?_
  · intro _
    show (r.enter st).ctx.cleared = _
    rw [SlotRecord.enter_ctx]
    rfl
  · intro h
    rw [SlotRecord.settleFor_ctx, h]
  · rw [SlotRecord.enter_ctx]

/-- A slot that settles has its timer, and one that enters any other state has the timer it had, or none. -/
theorem SlotRecord.enterAt_settleTimer (h : r.ctx.settleTimer = none) (ne : st ≠ .settling) :
    (r.enterAt us st).ctx.settleTimer = none :=
  enterAt_induct (P := fun q => q.ctx.settleTimer = none) (fun _ => rfl) (fun e => absurd e ne)
    (by rw [SlotRecord.enter_ctx_settleTimer]; exact h)

end

/-! ## What SAFE OFF leaves of every slot (R177) -/

/-- What steps 1 to 3 of SAFE OFF leave in one slot, whatever its state. -/
def SlotShut (r : SlotRecord) : Prop :=
  r.ctx.inrushCommitted = 0 ∧ r.ctx.steadyCommitted = 0 ∧ r.ctx.settleTimer = none
    ∧ r.rail.closed = false ∧ r.rail.queued = false ∧ r.rail.rampTimer = none ∧ r.rail.dischargeTimer = none
    ∧ r.detector.run = .stopped ∧ r.detector.duty = none ∧ r.detector.qualTimer = .idle ∧ r.detector.graceTimer = none
    ∧ r.scan = ScanSlot.reset

theorem slotQuiet_iff (r : SlotRecord) : SlotQuiet r ↔
    (r.ctx.state = .disabled ∨ r.ctx.state = .vacant ∨ r.ctx.state = .quarantined) ∧ SlotShut r := Iff.rfl

theorem slotShut_safeOff (r : SlotRecord) : SlotShut r.safeOff := by
  simp [SlotShut, SlotRecord.safeOff, Detector.stop, Context.dropWindows]

/-- A change of the record that leaves commitments, timers, switch, detector and scan leaves a slot shut. -/
theorem SlotShut.of_eq {r q : SlotRecord} (h : SlotShut r) (inrush : q.ctx.inrushCommitted = r.ctx.inrushCommitted)
    (steady : q.ctx.steadyCommitted = r.ctx.steadyCommitted) (settle : q.ctx.settleTimer = none)
    (rail : q.rail = r.rail) (detector : q.detector = r.detector) (scan : q.scan = r.scan) : SlotShut q := by
  obtain ⟨hi, hs, _, rest⟩ := h
  unfold SlotShut
  rw [inrush, steady, settle, rail, detector, scan]
  exact ⟨hi, hs, rfl, rest⟩

/-- The record as it enters a state other than SETTLING at the end of a withdrawal stays shut. -/
theorem slotShut_enterAt {r : SlotRecord} {us : Nat} {st : SlotState} (h : SlotShut r) (ne : st ≠ .settling) :
    SlotShut (r.enterAt us st) :=
  h.of_eq (by rw [SlotRecord.enterAt_ctx]) (by rw [SlotRecord.enterAt_ctx])
    (SlotRecord.enterAt_settleTimer h.2.2.1 ne) (by simp) (by simp) (by simp)

/-- The record of a slot that SAFE OFF withdraws (R177 step 4). -/
def SlotRecord.quarantine (us : Nat) (r : SlotRecord) : SlotRecord :=
  { r.enter .withdrawing with ctx := { (r.enter .withdrawing).ctx with
      leaving := some .none, destination := some .quarantined, reason := some .safeOff } }.withdrawn us

theorem State.markWithdrawing_eq (s : State) (i : Slot) (reason : Reason) (dest : Destination) :
    s.markWithdrawing i reason dest = s.modSlot i fun r => { r.enter .withdrawing with
      ctx := { (r.enter .withdrawing).ctx with
        leaving := some .none, destination := some dest, reason := some reason } } := by
  unfold State.markWithdrawing
  rw [State.setState_eq, State.modCtx_eq, State.modSlot_modSlot]

/-- The state in which SAFE OFF leaves a slot that it withdraws (R49, R177). -/
def Context.safeOffState (c : Context) : SlotState :=
  if c.policy = .off then .disabled else if c.contact ≠ .seated then .vacant else .quarantined

theorem SlotRecord.quarantine_eq (us : Nat) (r : SlotRecord) : r.quarantine us
    = { r.enter .withdrawing with ctx := { (r.enter .withdrawing).ctx with
        leaving := none, destination := none, reason := none } }.enterAt us r.ctx.safeOffState := by
  unfold SlotRecord.quarantine SlotRecord.withdrawn
  congr 1
  unfold Context.endState Context.safeOffState
  simp [Destination.slotState]

theorem Context.safeOffState_quiet (c : Context) :
    c.safeOffState = .disabled ∨ c.safeOffState = .vacant ∨ c.safeOffState = .quarantined := by
  unfold Context.safeOffState
  split
  · exact .inl rfl
  · split
    · exact .inr (.inl rfl)
    · exact .inr (.inr rfl)

theorem slotQuiet_quarantine {r : SlotRecord} (h : SlotShut r) (us : Nat) : SlotQuiet (r.quarantine us) := by
  rw [SlotRecord.quarantine_eq, slotQuiet_iff, SlotRecord.enterAt_state]
  have quiet := r.ctx.safeOffState_quiet
  refine ⟨quiet, slotShut_enterAt (h.of_eq ?_ ?_ ?_ ?_ ?_ ?_) ?_⟩
  · simp
  · simp
  · simpa using h.2.2.1
  · simp
  · simp
  · simp
  · rintro e
    rw [e] at quiet
    simp at quiet

/-- A slot that is neither DISABLED nor VACANT is withdrawn by SAFE OFF in one change of its record (R177 step 4). -/
theorem State.safeOffSlot_eq (s : State) (i : Slot) (h : (s.ctx i).state ≠ .disabled ∧ (s.ctx i).state ≠ .vacant) :
    s.safeOffSlot i = ((s.dropMatch i).modSlot i (SlotRecord.quarantine s.longSettleUs)).post
      ⟨.withdrawn, some i, Reason.safeOff.code, [(s.ctx i).safeOffState.code]⟩ := by
  unfold State.safeOffSlot
  split
  · exact absurd ‹_› h.1
  · exact absurd ‹_› h.2
  · rw [State.endWithdrawal_eq, State.markWithdrawing_eq, State.dropMatch_modSlot, State.modSlot_modSlot,
      State.ctx_eq, State.slot_modSlot_self]
    · congr 1
      unfold Context.withdrawnNotice Context.endState Context.safeOffState
      rw [SlotRecord.enter_ctx]
      rfl
    · simp
    · intro r
      rw [SlotRecord.enter_unmatched]
      rfl

/-- SAFE OFF's withdrawal of one slot changes that slot's record, the directory and the notice queue alone. -/
theorem State.safeOffSlot_frame (s : State) (i : Slot) :
    (∀ j, j ≠ i → (s.safeOffSlot i).slot j = s.slot j)
      ∧ { s.safeOffSlot i with slots := s.slots, directory := s.directory, notices := s.notices } = s
      ∧ (s.safeOffSlot i).directory.ageTimer = s.directory.ageTimer := by
  by_cases h : (s.ctx i).state ≠ .disabled ∧ (s.ctx i).state ≠ .vacant
  · rw [s.safeOffSlot_eq i h]
    obtain ⟨-, age, rest⟩ := s.dropMatch_spec i
    refine ⟨fun j hj => ?_, ?_, age⟩
    · rw [State.slot_post, State.slot_modSlot_ne _ _ hj, State.slot_dropMatch, if_neg hj]
    · exact congrArg (fun u : State => { u with notices := s.notices }) rest
  · have e : s.safeOffSlot i = s := by
      unfold State.safeOffSlot
      split
      · rfl
      · rfl
      · rename_i h₁ h₂
        exact absurd ⟨h₁, h₂⟩ h
    rw [e]
    exact ⟨fun _ _ => rfl, rfl, rfl⟩

theorem State.slotQuiet_safeOffSlot {s : State} {i : Slot} (h : SlotShut (s.slot i)) :
    SlotQuiet ((s.safeOffSlot i).slot i) := by
  by_cases hs : (s.ctx i).state ≠ .disabled ∧ (s.ctx i).state ≠ .vacant
  · rw [s.safeOffSlot_eq i hs, State.slot_post, State.slot_modSlot_self, State.slot_dropMatch_eq, if_pos rfl]
    exact slotQuiet_quarantine (r := (s.slot i).unmatched) (h.of_eq rfl rfl h.2.2.1 rfl rfl rfl) _
  · have e : s.safeOffSlot i = s := by
      unfold State.safeOffSlot
      split
      · rfl
      · rfl
      · rename_i h₁ h₂
        exact absurd ⟨h₁, h₂⟩ hs
    rw [e, slotQuiet_iff]
    refine ⟨?_, h⟩
    rw [State.ctx_eq] at hs
    tauto

/-- SAFE OFF's withdrawals along a list of distinct slots: each shut slot of the list ends quiet, and the others and the rest
of the part stay as they were. -/
theorem State.foldl_safeOffSlot {l : List Slot} (distinct : l.Nodup) : ∀ (s : State),
    (∀ j, j ∉ l → (l.foldl State.safeOffSlot s).slot j = s.slot j)
      ∧ (∀ j ∈ l, SlotShut (s.slot j) → SlotQuiet ((l.foldl State.safeOffSlot s).slot j))
      ∧ { l.foldl State.safeOffSlot s with slots := s.slots, directory := s.directory, notices := s.notices } = s := by
  induction l with
  | nil => exact fun s => ⟨fun _ _ => rfl, by simp, rfl⟩
  | cons i l ih =>
    intro s
    obtain ⟨new, distinct⟩ := List.nodup_cons.mp distinct
    obtain ⟨others, quiet, rest⟩ := ih distinct (s.safeOffSlot i)
    obtain ⟨others', rest', -⟩ := s.safeOffSlot_frame i
    rw [List.foldl_cons]
    generalize l.foldl State.safeOffSlot (s.safeOffSlot i) = t at others quiet rest
    refine ⟨fun j hj => ?_, fun j hj shut => ?_, ?_⟩
    · rw [List.mem_cons, not_or] at hj
      rw [others j hj.2, others' j hj.1]
    · by_cases e : j = i
      · subst e
        rw [others j new]
        exact State.slotQuiet_safeOffSlot shut
      · exact quiet j (List.mem_of_ne_of_mem e hj) (by rw [others' j e]; exact shut)
    · generalize s.safeOffSlot i = u at rest rest'
      calc _ = { { t with slots := u.slots, directory := u.directory, notices := u.notices } with
                  slots := s.slots, directory := s.directory, notices := s.notices } := rfl
        _ = { u with slots := s.slots, directory := s.directory, notices := s.notices } := by rw [rest]
        _ = s := rest'

theorem nodup_allSlots : allSlots.Nodup := by decide

theorem State.withdrawAll_spec (s : State) :
    (∀ j, SlotQuiet (s.withdrawAll.slot j))
      ∧ { s.withdrawAll with slots := s.shutDown.slots, directory := s.directory, notices := s.notices } = s.shutDown := by
  obtain ⟨-, quiet, rest⟩ := State.foldl_safeOffSlot nodup_allSlots s.shutDown
  refine ⟨fun j => quiet j (mem_allSlots j) ?_, rest⟩
  rw [State.slot_shutDown]
  exact slotShut_safeOff _

/-- An honoured SAFE OFF leaves the rack quiet (R177). -/
theorem State.quiet_enterSafeOff (s : State) : QuietInSafeOff s.enterSafeOff := by
  intro _
  obtain ⟨quiet, rest⟩ := s.withdrawAll_spec
  rw [State.enterSafeOff_eq]
  generalize s.withdrawAll = t at quiet rest
  have scan : t.scan = s.scan.clear := congrArg State.scan rest
  have lane : t.lane = s.lane.clear := congrArg State.lane rest
  refine ⟨quiet, ?_⟩
  show t.scan.state = _ ∧ t.scan.period = _ ∧ t.scan.remaining = _ ∧ t.scan.exchange.all _ = _ ∧ t.lane.queue = _
    ∧ t.lane.transaction.all _ = _
  rw [scan, lane]
  refine ⟨rfl, rfl, rfl, ?_, rfl, ?_⟩
  · show (s.scan.exchange.map _).all _ = true
    cases s.scan.exchange <;> rfl
  · show (s.lane.transaction.map _).all _ = true
    cases s.lane.transaction <;> rfl

end Sys2Proof.Machine

/-! Every command, and the passing of time: each completes, keeps the queue of waiting commands and every invariant, and leaves
the rack quiet where it enters SAFE_OFF. The statements about every step follow. -/

namespace Sys2Proof.Machine

open Sys2Proof Sys2Proof.Safety

set_option Elab.async false

/-! ## What hard reset leaves -/

theorem slot_reset (i : Slot) : State.reset.slot i = SlotRecord.reset := by revert i; decide

theorem entry_reset (k : EntryIndex) : State.reset.entry k = ⟨none, 0⟩ := by revert k; decide

theorem usersCounted_reset : UsersCounted State.reset := by
  intro k
  rw [entry_reset]
  refine ⟨?_, fun _ => rfl⟩
  revert k
  decide

theorem slotsShown_reset : SlotsShown State.reset := by
  rw [slotsShown_iff]
  intro i
  rw [slot_reset]
  exact ⟨rfl, rfl⟩

theorem segmentsSound_reset (g : ImageId) : SegmentsSound State.reset g := by
  have free : (State.reset.image g).free = [⟨0, 128⟩] := by cases g <;> rfl
  have window : ∀ i, (State.reset.ctx i).window g = none := fun i => by
    rw [State.ctx_eq, slot_reset]
    cases g <;> rfl
  refine ⟨?_, fun i w h => ?_, fun i _ w _ _ h => ?_⟩
  · rw [free]
    exact ⟨List.pairwise_singleton .., fun e he => by rw [List.mem_singleton.mp he]; decide⟩
  · rw [window] at h; cases h
  · rw [window] at h; cases h

theorem segmentsCounted_reset (g : ImageId) : SegmentsCounted State.reset g := by
  cases g
  · unfold SegmentsCounted; decide
  · unfold SegmentsCounted; decide

/-- Settles O55: each figure is read off the reset values. -/
theorem resetMeetsTheInvariants : Obligations.ResetMeetsTheInvariants := by
  refine ⟨?_, ?_, ?_, ?_, usersCounted_reset, slotsShown_reset, ⟨?_, ?_⟩, segmentsSound_reset _, segmentsSound_reset _,
    segmentsCounted_reset _, segmentsCounted_reset _, ?_, fun h => absurd h (by decide)⟩
  · unfold NoticesBounded; decide
  · unfold AccountsBounded; decide
  · unfold RampsBounded; decide
  · unfold LoadBounded; decide
  · trivial
  · trivial
  · unfold LaneSound; decide

/-! ## What a step may do -/

/-- Hard reset's state meets the invariants with any window and any queue. -/
theorem State.stepKeeps_reset (s : State) (l : Link) :
    StepKeeps s { State.reset with link := l, pending := s.pending } := by
  obtain ⟨notices, accounts, ramps, load, users, shown, images, segIn, segOut, countIn, countOut, lane, -⟩ :=
    resetMeetsTheInvariants
  exact {
    accounts := fun _ => accounts, ramps := fun _ => ramps, load := fun _ => load, notices := fun _ => notices
    users := fun _ => users, shown := fun _ => shown, lane := fun _ => lane
    segments := fun g _ => by cases g; exacts [segIn, segOut]
    counted := fun g _ => by cases g; exacts [countIn, countOut]
    canonical := fun _ => images, pending := rfl, awake := fun _ h => by cases h }

section
variable (s : State) (tag : Byte)

theorem State.stepKeeps_setLink (l : Link) : StepKeeps s { s with link := l } := (Keeps.refl s).step.setLink l

theorem State.enterSafeOff_link : s.enterSafeOff.link = s.link := by
  have kept := s.keeps_withdrawAll.link
  rw [State.enterSafeOff_eq]
  generalize s.withdrawAll = t at kept
  exact kept

theorem State.stepKeeps_enterSafeOff : StepKeeps s s.enterSafeOff where
  toKeepsInvariants := s.keepsInvariants_enterSafeOff
  pending := s.enterSafeOff_pending
  awake _ := s.quiet_enterSafeOff

theorem serves_requestSafeOff (mask : HWord) : State.Serves s 0x43 tag (requestSafeOff tag mask s) := by
  unfold requestSafeOff
  dsimp only
  split
  · exact s.serves_reply ..
  · split
    · exact s.serves_reply ..
    · split
      · exact s.serves_reply ..
      · exact s.stepKeeps_enterSafeOff.serves s.enterSafeOff_link ..

end

/-! ## The requests and the transfer window -/

/-- A request, which has a frame, is served under the frame's code and tag. -/
theorem serves_serve {i : Instr} {f : Decode.Frame} (h : Decode.encode i = some f) (s : State) :
    State.Serves s f.code f.tag (serve i s) := by
  cases i <;> cases h
  case status t => exact s.serves_reply ..
  case slotInfo t x => exact serves_requestSlotInfo s t x
  case fetchNotices t n => exact serves_requestFetchNotices s t n
  case setParameter t id v w => exact serves_requestSetParameter s t id v w
  case getParameter t id => exact serves_requestGetParameter s t id
  case restart t => exact serves_requestRestart s t
  case setSlotPolicy t x p q ip tm an => exact serves_requestSetSlotPolicy s t x p q ip tm an
  case release t x => exact serves_requestRelease s t x
  case refuse t x => exact serves_requestRefuse s t x
  case retry t x => exact serves_requestRetry s t x
  case withdraw t x => exact serves_requestWithdraw s t x
  case locate t x n => exact serves_requestLocate s t x n
  case ackAlert t x => exact serves_requestAckAlert s t x
  case clearFault t x => exact serves_requestClearFault s t x
  case directoryAdd t b => exact serves_requestDirectoryAdd s t b
  case directoryDelete t k => exact serves_requestDirectoryDelete s t k
  case directoryRead t k => exact serves_requestDirectoryRead s t k
  case directoryFind t b => exact serves_requestDirectoryFind s t b
  case directoryKeep t k => exact serves_requestDirectoryKeep s t k
  case ageSweep t => exact serves_requestAgeSweep s t
  case scanStart t => exact serves_requestScanStart s t
  case scanStop t => exact serves_requestScanStop s t
  case imageRead t x g o n => exact serves_requestImageRead s t x g o n
  case imageWrite t x o d => exact serves_requestImageWrite s t x o d
  case imageMap t => exact s.serves_reply ..
  case setMode t m => exact serves_requestSetMode s t m
  case freeze t => exact serves_requestFreeze s t
  case thaw t => exact serves_requestThaw s t
  case safeOff t m => exact serves_requestSafeOff s t m

/-- A command that is a request is run by serving it. -/
theorem exec_of_encode {i : Instr} {f : Decode.Frame} (h : Decode.encode i = some f) (s : State) :
    exec i s = .next (serve i s) := by
  cases i <;> cases h <;> rfl

/-- A command that is no request is not served. -/
theorem serve_of_encode_eq_none {i : Instr} (h : Decode.encode i = none) (s : State) : serve i s = s := by
  cases i <;> cases h <;> rfl

theorem stepKeeps_serve (i : Instr) (s : State) : State.StepKeeps s (serve i s) := by
  cases h : Decode.encode i with
  | none => rw [serve_of_encode_eq_none h]; exact (State.Keeps.refl s).step
  | some f => exact (serves_serve h s).stepKeeps

theorem State.stepKeeps_takeRequest (s : State) (code tag : Byte) (body : List Byte) :
    StepKeeps s (s.takeRequest code tag body) := by
  unfold State.takeRequest
  split
  · exact stepKeeps_serve _ s
  · exact s.stepKeeps_setLink _
  · exact s.stepKeeps_setLink _

theorem State.stepKeeps_judgeFrame (s : State) (sdi : List Byte) : StepKeeps s (s.judgeFrame sdi) := by
  unfold State.judgeFrame
  split
  · exact (Keeps.refl s).step
  · split
    · exact s.stepKeeps_takeRequest ..
    · exact s.stepKeeps_setLink _

theorem State.stepKeeps_endWindow (s : State) (start : LinkState) (frameSeen : Bool) (sdi : List Byte) :
    StepKeeps s (s.endWindow start frameSeen sdi) := by
  unfold State.endWindow
  dsimp only
  split
  · exact s.stepKeeps_setLink _
  · split
    · exact s.stepKeeps_setLink _
    · have closed := s.stepKeeps_setLink (s.link.closeWindow start sdi.length)
      have judged := State.stepKeeps_judgeFrame { s with link := s.link.closeWindow start sdi.length } sdi
      exact ⟨closed.toKeepsInvariants.trans judged.toKeepsInvariants, judged.pending, judged.awake⟩

/-! ## The passing of time -/

theorem Lane.sound_tick {l : Lane} (h : l.Sound) : l.tick.Sound := by
  obtain ⟨transaction, message, recovery⟩ := h
  exact ⟨transaction, message, (by simp [Lane.tick, tickTimer] : _ ↔ _).trans recovery⟩

theorem State.keeps_tick (s : State) : Keeps s (tick s) := by
  have slots := s.keeps_mapSlots (f := SlotRecord.tick) fun r =>
    { inrush := le_rfl, steady := le_rfl, cost := le_rfl, ramping := id, matched := rfl
      window := fun g => by cases g <;> rfl, shown := id }
  have rest : Keeps (s.mapSlots SlotRecord.tick) (tick s) :=
    .of_slots (fun _ => .refl _) (lane := Lane.sound_tick) (free := fun g => by cases g <;> rfl)
  exact slots.trans rest

/-! ## The events -/

section
variable (s : State) (i : Slot)

/-- An event that is taken under a condition, and otherwise has no effect. -/
theorem State.Keeps.ite {s t : State} {p : Prop} [Decidable p] (h : p → Keeps s t) : Keeps s (if p then t else s) := by
  split
  · exact h ‹p›
  · exact .refl s

theorem State.keeps_slotSample (raw : ContactState) (key : BitVec 3) (alert : Level) :
    Keeps s (((s.modMon i Monitor.countSample).sampleContacts i raw key).sampleAlert i alert) :=
  ((s.keeps_modMon i).trans (State.keeps_sampleContacts _ i raw key)).trans (State.keeps_sampleAlert _ i alert)

/-- A message is cut off: the lane recovers without it (R92). -/
theorem Lane.sound_dropMessage (l : Lane) : Lane.Sound { l.recover with message := none } := by
  simp [Lane.Sound, Lane.recover, Lane.endTransaction]

theorem State.keeps_setAgeTimer (timer : Option Nat) :
    Keeps s { s with directory := { s.directory with ageTimer := timer } } :=
  .of_slots (fun _ => .refl _) (free := fun g => by cases g <;> rfl)

/-- The end of a phase moves the phase and its samples alone. -/
theorem Monitor.endPatternPhase_eq (m : Monitor) : m.endPatternPhase
    = { m with ledPhase := m.endPatternPhase.ledPhase, ledSamples := m.endPatternPhase.ledSamples } := by
  unfold Monitor.endPatternPhase
  split
  · rfl
  · split <;> rfl

theorem State.keeps_endPatternPhase : Keeps s (s.modMon i Monitor.endPatternPhase) :=
  s.keeps_modMon i (fun m => by rw [m.endPatternPhase_eq]) (fun m => by rw [m.endPatternPhase_eq])

theorem State.keeps_setReference (c : Clock) : Keeps s { s with clock := c } :=
  .of_slots (fun _ => .refl _) (free := fun g => by cases g <;> rfl)

/-- A fault that an event of the rail reports after a change of the slot's rail record. -/
theorem State.keeps_railFault (f : RailSlot → RailSlot) (c : Cause) : Keeps s ((s.modRail i f).reportFault i c) :=
  (s.keeps_modRail i f).trans (State.keeps_reportFault _ i c)

/-- A fault that an event of the clock qualifier reports after a change of the slot's detector. -/
theorem State.keeps_lockFault (f : Detector → Detector) (c : Cause) : Keeps s ((s.modDet i f).reportFault i c) :=
  (s.keeps_modDet i f).trans (State.keeps_reportFault _ i c)

end

open State in
/-- Every event completes, and keeps what a step keeps. -/
theorem event_keeps {c : Instr} (h : Decode.encode c = none) (s : State) :
    ∃ t, exec c s = .next t ∧ State.StepKeeps s t := by
  cases c with
  | hardReset => exact ⟨_, rfl, s.stepKeeps_reset _⟩
  | transferWindowStart =>
    refine ⟨_, rfl, ?_⟩
    split
    · exact s.stepKeeps_setLink _
    · exact (Keeps.refl s).step
  | transferWindowEnd sdi =>
    refine ⟨_, rfl, ?_⟩
    split
    · exact (Keeps.refl s).step
    · exact s.stepKeeps_setLink _
    · exact s.stepKeeps_endWindow ..
  | replyBuilt seen =>
    refine ⟨_, rfl, ?_⟩
    split
    · exact s.stepKeeps_setLink _
    · exact (Keeps.refl s).step
  | slotSample i presL presS key alert => exact ⟨_, rfl, (s.keeps_slotSample i _ key alert).step⟩
  | darkPulseExpiry i => exact ⟨_, rfl, (s.keeps_modMon i).step⟩
  | locateExpiry i => exact ⟨_, rfl, (s.keeps_modMon i).step⟩
  | ledPhaseEnd i layer =>
    refine ⟨_, rfl, Keeps.step ?_⟩
    split
    · exact s.keeps_endPatternPhase i
    · exact s.keeps_modMon i
  | settleTimerExpiry i => exact ⟨_, rfl, (Keeps.ite fun _ => s.keeps_settleExpired i).step⟩
  | railSample reading =>
    refine ⟨_, rfl, ((s.keeps_sampleRail reading).trans ?_).step⟩
    split
    · exact keeps_arbitrate _
    · exact .refl _
  | pwrGoodAssert i => exact ⟨_, rfl, (Keeps.ite fun _ => s.keeps_powerGood i).step⟩
  | rampTimerExpiry i => exact ⟨_, rfl, (Keeps.ite fun _ => s.keeps_railFault i _ _).step⟩
  | pwrGoodDeassert i => exact ⟨_, rfl, (Keeps.ite fun _ => s.keeps_railFault i _ _).step⟩
  | pwrTrip i =>
    exact ⟨_, rfl, (Keeps.ite fun _ =>
      ((s.keeps_openSwitch i).trans (keeps_reportFault _ i _)).trans (keeps_arbitrate _)).step⟩
  | dischargeTimerExpiry i =>
    exact ⟨_, rfl, (Keeps.ite fun _ => (s.keeps_modRail i _).trans (keeps_endIfDone _ i)).step⟩
  | cardAcknowledge =>
    refine ⟨_, rfl, Keeps.step ?_⟩
    split
    · rename_i open_
      exact s.keeps_modLane fun ⟨transaction, message, recovery⟩ =>
        ⟨by rw [← transaction, open_]; rfl, message, recovery⟩
    · exact .refl s
  | acknowledgeTimerExpiry =>
    refine ⟨_, rfl, Keeps.step ?_⟩
    split
    · exact keeps_noAnswer ‹_›
    · exact .refl s
  | identityTransferComplete record =>
    refine ⟨_, rfl, Keeps.step ?_⟩
    split
    · exact keeps_transferComplete ‹_› record
    · exact .refl s
  | holdTimerExpiryTransaction =>
    refine ⟨_, rfl, Keeps.step ?_⟩
    split
    · exact keeps_transactionTimeout ‹_›
    · exact .refl s
  | holdTimerExpiryMessage =>
    exact ⟨_, rfl, (Keeps.ite fun _ => s.keeps_modLane fun _ => s.lane.sound_dropMessage).step⟩
  | recoveryTimerExpiry =>
    exact ⟨_, rfl, (Keeps.ite fun recovering =>
      (s.keeps_modLane fun sound => Lane.sound_endRecovery sound recovering).trans (keeps_tryOpen _)).step⟩
  | retryGapExpiry =>
    exact ⟨_, rfl, (Keeps.ite fun _ => (s.keeps_modLane_of_terms rfl).trans (keeps_tryOpen _)).step⟩
  | cardMessageBegin =>
    refine ⟨_, rfl, Keeps.step ?_⟩
    split
    · exact s.keeps_modLane fun sound => Lane.sound_beginMessage sound (by rw [‹s.lane.state = _›]; decide)
    · split
      · exact keeps_transactionLost ‹_›
      · exact .refl s
    · exact .refl s
  | cardMessageEnd sender length data check =>
    exact ⟨_, rfl, (Keeps.ite fun busy =>
      ((s.keeps_modLane fun sound => Lane.sound_endMessage sound busy).trans (keeps_judgeMessage ..)).trans
        (keeps_tryOpen _)).step⟩
  | lockCheckpoint16 i =>
    refine ⟨_, rfl, Keeps.step ?_⟩
    split
    · exact s.keeps_checkpoint16 i _
    · exact .refl s
  | lockCheckpoint32 i =>
    refine ⟨_, rfl, Keeps.step ?_⟩
    split
    · exact s.keeps_checkpoint32 i _
    · exact .refl s
  | lockCheckpoint64 i =>
    refine ⟨_, rfl, Keeps.step ?_⟩
    split
    · exact s.keeps_checkpoint64 i _
    · exact .refl s
  | qualificationTimerExpiry i =>
    refine ⟨_, rfl, Keeps.step ?_⟩
    split
    · exact s.keeps_lockFault i _ _
    · exact .refl s
  | graceTimerExpiry i => exact ⟨_, rfl, (Keeps.ite fun _ => s.keeps_lockFault i _ _).step⟩
  | watchTimerExpiry =>
    refine ⟨_, rfl, (Keeps.ite fun _ => ?_).step⟩
    dsimp only
    split
    · exact s.keeps_setReference _
    · exact (s.keeps_setReference { s.clock with watchTimer := none }).trans (keeps_loseReference _)
  | referenceReturnEdge => exact ⟨_, rfl, s.keeps_refEdge.step⟩
  | returnTimerExpiry => exact ⟨_, rfl, (Keeps.ite fun _ => s.keeps_regainReference).step⟩
  | periodTimerExpiry =>
    refine ⟨_, rfl, Keeps.step ?_⟩
    split
    · dsimp only
      split
      · exact (s.keeps_modScanRack _).trans (keeps_boundary _)
      · exact s.keeps_modScanRack _
    · exact .refl s
  | replyEnd reply =>
    refine ⟨_, rfl, Keeps.step ?_⟩
    split
    · exact s.keeps_judgeReply _ reply
    · exact .refl s
  | responseWindowExpiry =>
    refine ⟨_, rfl, Keeps.step ?_⟩
    split
    · exact s.keeps_failExchange _
    · exact .refl s
  | replySilenceTimeout =>
    refine ⟨_, rfl, Keeps.step ?_⟩
    split
    · exact s.keeps_failExchange _
    · exact .refl s
  | ageIntervalExpiry =>
    refine ⟨_, rfl, Keeps.step ?_⟩
    split
    · exact .refl s
    · exact s.keeps_sweep.trans (keeps_setAgeTimer _ _)
  | referenceEdge => exact ⟨_, rfl, s.keeps_refEdge.step⟩
  | clkRetEdge i => exact ⟨_, rfl, (s.keeps_modDet i _).step⟩
  | exchangeFrameSent => exact ⟨_, rfl, (Keeps.ite fun _ => s.keeps_modScanRack _).step⟩
  | replyBegin => exact ⟨_, rfl, (Keeps.ite fun _ => s.keeps_modScanRack _).step⟩
  | _ => cases h

/-- Every command completes, and keeps what a step keeps. -/
theorem exec_keeps (c : Instr) (s : State) : ∃ t, exec c s = .next t ∧ State.StepKeeps s t := by
  cases h : Decode.encode c with
  | none => exact event_keeps h s
  | some f => exact ⟨_, exec_of_encode h s, stepKeeps_serve c s⟩

/-! ## Every step -/

/-- A step is a command, or the passing of one microsecond, and meets every invariant that its state met. -/
theorem step_keeps {s t : State} (h : step s = .next t) : State.KeepsInvariants s t := by
  unfold step at h
  split at h
  · cases h
    exact s.keeps_tick.toKeepsInvariants
  · rename_i c rest _
    obtain ⟨u, run, keeps⟩ := exec_keeps c { s with pending := rest }
    rw [run] at h
    cases h
    have front : State.KeepsInvariants s { s with pending := rest } :=
      { accounts := id, ramps := id, load := id, notices := id, users := id, shown := id, lane := id, canonical := id
        segments := fun g => segmentsSound_of_eq (fun _ => rfl) (by cases g <;> rfl)
        counted := fun g => segmentsCounted_of_eq (fun _ => rfl) (by cases g <;> rfl) }
    exact front.trans keeps.toKeepsInvariants

/-- Settles O3, command by command. -/
theorem everyCommandCompletesAndKeepsTheQueue : Obligations.EveryCommandCompletesAndKeepsTheQueue := fun c s =>
  let ⟨t, run, keeps⟩ := exec_keeps c s
  ⟨t, run, keeps.pending⟩

/-- Settles O56: every step keeps every invariant of `State.KeepsInvariants`. -/
theorem figuresStayWithinTheirBounds : Obligations.FiguresStayWithinTheirBounds := by
  intro s t accounts ramps load notices h
  have keeps := step_keeps h
  exact ⟨keeps.accounts accounts, keeps.ramps ramps, keeps.load load, keeps.notices notices⟩

/-- Settles O57: every step keeps every invariant of `State.KeepsInvariants`. -/
theorem usersCountsStayTrue : Obligations.UsersCountsStayTrue := fun _ _ users h => (step_keeps h).users users

/-- Settles O58: every step keeps every invariant of `State.KeepsInvariants`. -/
theorem shownAndLaneStatesStayTrue : Obligations.ShownAndLaneStatesStayTrue := fun _ _ shown lane h =>
  ⟨(step_keeps h).shown shown, (step_keeps h).lane lane⟩

/-- Settles O59: every step keeps every invariant of `State.KeepsInvariants`. -/
theorem segmentsStayApart : Obligations.SegmentsStayApart := fun _ _ h =>
  ⟨fun input output images => ⟨(step_keeps h).segments _ input, (step_keeps h).segments _ output,
    (step_keeps h).canonical images⟩, fun g => (step_keeps h).counted g⟩

end Sys2Proof.Machine

/-! Which requests are refused, and with what (R178, R183): outside the queries every request in SAFE_OFF, and in every rack
state one that names no slot or carries a value outside its list. -/

namespace Sys2Proof.Machine

open Sys2Proof Sys2Proof.Safety

set_option Elab.async false

/-! ## Codes that name nothing -/

theorem slotOf_cases (x : Byte) : (11 < x.toNat ∧ slotOf x = none) ∨ (¬ 11 < x.toNat ∧ ∃ i, slotOf x = some i) := by
  by_cases h : 11 < x.toNat
  · exact .inl ⟨h, slotOf_of_gt h⟩
  · exact .inr ⟨h, ⟨x.toNat, by omega⟩, by rw [slotOf, dif_pos (by omega)]⟩

theorem modeOfCode_cases (x : Byte) :
    (1 < x.toNat ∧ modeOfCode x = none) ∨ (¬ 1 < x.toNat ∧ ∃ m, modeOfCode x = some m) := by
  by_cases h : 1 < x.toNat
  · exact .inl ⟨h, modeOfCode_of_one_lt h⟩
  · refine .inr ⟨h, ?_⟩
    have two : x = 0 ∨ x = 1 := by bv_omega
    rcases two with rfl | rfl
    · exact ⟨.commission, rfl⟩
    · exact ⟨.run, rfl⟩

theorem imageOfCode_cases (x : Byte) :
    (1 < x.toNat ∧ imageOfCode x = none) ∨ (¬ 1 < x.toNat ∧ ∃ g, imageOfCode x = some g) := by
  by_cases h : 1 < x.toNat
  · refine .inl ⟨h, ?_⟩
    rw [imageOfCode, if_neg (by rintro rfl; simp at h), if_neg (by rintro rfl; simp at h)]
  · refine .inr ⟨h, ?_⟩
    have two : x = 0 ∨ x = 1 := by bv_omega
    rcases two with rfl | rfl
    · exact ⟨.input, rfl⟩
    · exact ⟨.output, rfl⟩

theorem indexOf_of_gt {x : Byte} (h : 47 < x.toNat) : indexOf x = none := by
  rw [indexOf, dif_neg (by omega)]

/-- The byte that names the rack is no slot number. -/
theorem eq_ff_of_toNat {x : Byte} (h : x.toNat = 255) : x = 0xFF := by bv_omega

/-! ## The refusals that come first -/

section
variable {i : Instr} {f : Decode.Frame} (h : Decode.encode i = some f) (s : State)
include h

/-- A request that is not well formed is of the wrong length. -/
theorem serve_of_not_wellFormed (wf : ¬ i.WellFormed) : serve i s = s.reply f.code f.tag .badLength [] := by
  cases i with
  | setParameter t id v w =>
    cases h
    have wrong : (w.isSome != isClassRowId id) = true := by simpa [Instr.WellFormed, Instr.wellFormed, bne] using wf
    rw [serve, requestSetParameter, if_pos wrong]
  | imageWrite t x o d =>
    cases h
    have wrong : d.length = 0 ∨ 64 < d.length := by
      simp only [Instr.WellFormed, Instr.wellFormed, Bool.and_eq_true, decide_eq_true_eq] at wf
      omega
    rw [serve, requestImageWrite, if_pos wrong]
  | cardMessageEnd => cases h
  | _ => exact absurd rfl wf

/-- A refusal that the request's rule places before the SAFE_OFF refusal is made in every rack state (R178, R183). -/
theorem serve_of_refusedBeforeSafeOff (wf : i.WellFormed) {st : Status} (first : refusedBeforeSafeOff i = some st) :
    serve i s = s.reply f.code f.tag st (if f.code = 0x40 then [s.mode.code] else []) := by
  have slot : ∀ {x : Byte}, (if 11 < x.toNat then some Status.badSlot else none) = some st →
      slotOf x = none ∧ st = .badSlot := fun {x} e => by
    rcases slotOf_cases x with ⟨gt, none⟩ | ⟨le, -⟩
    · rw [if_pos gt] at e; cases e; exact ⟨none, rfl⟩
    · rw [if_neg le] at e; cases e
  cases i with
  | setSlotPolicy t x p q ip tm an => cases h; obtain ⟨none, rfl⟩ := slot first; simp [serve, requestSetSlotPolicy, none]
  | release t x => cases h; obtain ⟨none, rfl⟩ := slot first; simp [serve, requestRelease, none]
  | refuse t x => cases h; obtain ⟨none, rfl⟩ := slot first; simp [serve, requestRefuse, none]
  | retry t x => cases h; obtain ⟨none, rfl⟩ := slot first; simp [serve, requestRetry, none]
  | withdraw t x => cases h; obtain ⟨none, rfl⟩ := slot first; simp [serve, requestWithdraw, none]
  | locate t x n => cases h; obtain ⟨none, rfl⟩ := slot first; simp [serve, requestLocate, none]
  | ackAlert t x => cases h; obtain ⟨none, rfl⟩ := slot first; simp [serve, requestAckAlert, none]
  | clearFault t x =>
    cases h
    simp only [refusedBeforeSafeOff] at first
    split at first
    · rename_i gt
      cases first
      have rack : x ≠ 0xFF := fun e => gt.2 (by rw [e]; rfl)
      simp only [serve, requestClearFault]
      rw [if_neg rack, slotOf_of_gt gt.1]
      rfl
    · cases first
  | imageRead t x g o n =>
    cases h
    simp only [refusedBeforeSafeOff] at first
    rcases slotOf_cases x with ⟨gt, none⟩ | ⟨le, k, some⟩
    · rw [if_pos gt] at first
      cases first
      simp [serve, requestImageRead, none]
    · rw [if_neg le] at first
      split at first
      · rename_i bad
        cases first
        rcases imageOfCode_cases g with ⟨-, none⟩ | ⟨named, m, image⟩
        · simp [serve, requestImageRead, some, none]
        · have bad : 511 < o.toNat ∨ n.toNat = 0 ∨ 64 < n.toNat := bad.resolve_left named
          simp only [serve, requestImageRead, some, image]
          rw [if_pos bad]
          rfl
      · cases first
  | imageWrite t x o d =>
    cases h
    have length : ¬ (d.length = 0 ∨ 64 < d.length) := by
      simp only [Instr.WellFormed, Instr.wellFormed, Bool.and_eq_true, decide_eq_true_eq] at wf
      omega
    simp only [refusedBeforeSafeOff] at first
    simp only [serve, requestImageWrite]
    rw [if_neg length]
    rcases slotOf_cases x with ⟨gt, none⟩ | ⟨le, k, some⟩
    · rw [if_pos gt] at first
      cases first
      simp [none]
    · rw [if_neg le] at first
      split at first
      · rename_i far
        cases first
        simp [some, far]
      · cases first
  | setMode t m =>
    cases h
    simp only [refusedBeforeSafeOff] at first
    split at first
    · rename_i gt
      cases first
      simp [serve, requestSetMode, modeOfCode_of_one_lt gt, State.modeReply]
    · cases first
  | safeOff t m =>
    cases h
    simp only [refusedBeforeSafeOff] at first
    split at first
    · rename_i gt
      cases first
      have wide : 4096 ≤ m.toNat := by omega
      simp [serve, requestSafeOff, wide]
    · cases first
  | _ => cases first

/-- In SAFE_OFF a request that no earlier refusal meets is refused SAFE_OFF, unless it is a query (R178, R183). -/
theorem serve_of_safeOff (wf : i.WellFormed) (first : refusedBeforeSafeOff i = none) (query : isQuery i = false)
    (off : s.safeOff = true) :
    serve i s = s.reply f.code f.tag .safeOff (if f.code = 0x40 then [s.mode.code] else []) := by
  have slot : ∀ {x : Byte}, (if 11 < x.toNat then some Status.badSlot else none) = none → ∃ k, slotOf x = some k :=
    fun {x} e => by
      rcases slotOf_cases x with ⟨gt, -⟩ | ⟨-, named⟩
      · rw [if_pos gt] at e; cases e
      · exact named
  cases i with
  | setParameter t id v w =>
    cases h
    have right : ¬ (w.isSome != isClassRowId id) = true := by
      simpa [Instr.WellFormed, Instr.wellFormed, bne] using wf
    simp only [serve, requestSetParameter]
    rw [if_neg right, if_pos off]
    rfl
  | setSlotPolicy t x p q ip tm an =>
    cases h; obtain ⟨k, some⟩ := slot first; simp [serve, requestSetSlotPolicy, some, off]
  | release t x => cases h; obtain ⟨k, some⟩ := slot first; simp [serve, requestRelease, some, off]
  | refuse t x => cases h; obtain ⟨k, some⟩ := slot first; simp [serve, requestRefuse, some, off]
  | retry t x => cases h; obtain ⟨k, some⟩ := slot first; simp [serve, requestRetry, some, off]
  | withdraw t x => cases h; obtain ⟨k, some⟩ := slot first; simp [serve, requestWithdraw, some, off]
  | locate t x n => cases h; obtain ⟨k, some⟩ := slot first; simp [serve, requestLocate, some, off]
  | ackAlert t x => cases h; obtain ⟨k, some⟩ := slot first; simp [serve, requestAckAlert, some, off]
  | clearFault t x =>
    cases h
    by_cases rack : x = 0xFF
    · simp [serve, requestClearFault, rack, off]
    · rcases slotOf_cases x with ⟨gt, -⟩ | ⟨-, k, some⟩
      · have other : x.toNat ≠ 255 := fun e => rack (eq_ff_of_toNat e)
        rw [refusedBeforeSafeOff, if_pos ⟨gt, other⟩] at first
        cases first
      · simp [serve, requestClearFault, some, off]
  | imageRead t x g o n =>
    cases h
    simp only [refusedBeforeSafeOff] at first
    rcases slotOf_cases x with ⟨gt, -⟩ | ⟨le, k, some⟩
    · rw [if_pos gt] at first
      cases first
    · rw [if_neg le] at first
      split at first
      · cases first
      · rename_i good
        rcases imageOfCode_cases g with ⟨bad, -⟩ | ⟨-, m, image⟩
        · exact absurd (.inl bad) good
        · simp only [serve, requestImageRead, some, image]
          rw [if_neg fun bad => good (.inr bad), if_pos off]
          rfl
  | imageWrite t x o d =>
    cases h
    have length : ¬ (d.length = 0 ∨ 64 < d.length) := by
      simp only [Instr.WellFormed, Instr.wellFormed, Bool.and_eq_true, decide_eq_true_eq] at wf
      omega
    simp only [refusedBeforeSafeOff] at first
    simp only [serve, requestImageWrite]
    rw [if_neg length]
    rcases slotOf_cases x with ⟨gt, -⟩ | ⟨le, k, some⟩
    · rw [if_pos gt] at first
      cases first
    · rw [if_neg le] at first
      split at first
      · cases first
      · rename_i near
        simp [some, near, off]
  | setMode t m =>
    cases h
    rcases modeOfCode_cases m with ⟨gt, -⟩ | ⟨-, k, some⟩
    · rw [refusedBeforeSafeOff, if_pos gt] at first
      cases first
    · simp [serve, requestSetMode, some, off, State.modeReply]
  | safeOff t m =>
    cases h
    have narrow : ¬ 4096 ≤ m.toNat := fun wide => by
      rw [refusedBeforeSafeOff, if_pos (by omega)] at first
      cases first
    simp [serve, requestSafeOff, narrow, off]
  | directoryAdd t b => cases h; simp [serve, requestDirectoryAdd, off]
  | directoryDelete t k => cases h; simp [serve, requestDirectoryDelete, off]
  | directoryRead t k => cases h; simp [serve, requestDirectoryRead, off]
  | directoryFind t b => cases h; simp [serve, requestDirectoryFind, off]
  | directoryKeep t k => cases h; simp [serve, requestDirectoryKeep, off]
  | ageSweep t => cases h; simp [serve, requestAgeSweep, off]
  | scanStart t => cases h; simp [serve, requestScanStart, off]
  | scanStop t => cases h; simp [serve, requestScanStop, off]
  | freeze t => cases h; simp [serve, requestFreeze, off]
  | thaw t => cases h; simp [serve, requestThaw, off]
  | restart t => cases h; simp [serve, requestRestart, off]
  | status | slotInfo | fetchNotices | getParameter | imageMap => cases query
  | _ => cases h

end

/-- What a request that is served in SAFE_OFF can change: the link, and by a FETCH NOTICES the notice queue. -/
theorem serve_in_safeOff (i : Instr) {s : State} (off : s.safeOff = true) :
    ∃ q l, serve i s = { s with notices := q, link := l } := by
  cases h : Decode.encode i with
  | none => exact ⟨_, _, serve_of_encode_eq_none h s⟩
  | some f =>
    by_cases wf : i.WellFormed
    · cases query : isQuery i with
      | false =>
        cases first : refusedBeforeSafeOff i with
        | none => exact ⟨_, _, serve_of_safeOff h s wf first query off⟩
        | some st => exact ⟨_, _, serve_of_refusedBeforeSafeOff h s wf first⟩
      | true =>
        cases i with
        | status t => exact ⟨_, _, rfl⟩
        | imageMap t => exact ⟨_, _, rfl⟩
        | slotInfo t x =>
          simp only [serve, requestSlotInfo]
          split
          · exact ⟨_, _, rfl⟩
          · exact ⟨_, _, rfl⟩
        | getParameter t id =>
          simp only [serve, requestGetParameter]
          split
          · exact ⟨_, _, rfl⟩
          · exact ⟨_, _, rfl⟩
        | fetchNotices t n =>
          simp only [serve, requestFetchNotices]
          split
          · exact ⟨_, _, rfl⟩
          · exact ⟨_, _, rfl⟩
        | _ => cases query
    · exact ⟨_, _, serve_of_not_wellFormed h s wf⟩

end Sys2Proof.Machine

/-! SAFE_OFF (R177, R178): in a rack that lies quiet, every request but a query is refused, and every event finds nothing to
act on, takes down what is left of the lane and the exchange, or leaves a QUARANTINED slot VACANT. -/

namespace Sys2Proof.Machine

open Sys2Proof Sys2Proof.Safety

set_option Elab.async false

/-- Settles O34: the refusals that come before SAFE_OFF, and SAFE_OFF itself. -/
theorem safeOffRefusesEveryOtherRequest : Obligations.SafeOffRefusesEveryOtherRequest := by
  intro i f s wf h query off
  refine ⟨_, exec_of_encode h s, onlyLink_and_answers_of_eq_reply ?_⟩
  cases first : refusedBeforeSafeOff i with
  | none => exact serve_of_safeOff h s wf first query off
  | some st => exact serve_of_refusedBeforeSafeOff h s wf first

/-! ## The rack asleep -/

/-- The scan's part in SAFE_OFF: STOPPED with no cycle, and no exchange but a discarded one (R164, R177). -/
def Scan.Asleep (c : Scan) : Prop :=
  c.state = .stopped ∧ c.period = .idle ∧ c.remaining = [] ∧ c.exchange.all Exchange.discarded = true

/-- The lane's part in SAFE_OFF: no slot waits, and no transaction is open but an orphaned one (R88, R177). -/
def Lane.Asleep (l : Lane) : Prop := l.queue = [] ∧ l.transaction.all Transaction.orphaned = true

/-- A rack in SAFE_OFF that lies quiet. -/
structure State.Asleep (s : State) : Prop where
  safeOff : s.safeOff = true
  slots : ∀ i, SlotQuiet (s.slot i)
  scan : s.scan.Asleep
  lane : s.lane.Asleep

theorem quietInSafeOff_iff (s : State) : QuietInSafeOff s ↔ (s.safeOff = true → s.Asleep) := by
  constructor
  · intro h off
    obtain ⟨slots, state, period, remaining, exchange, queue, transaction⟩ := h off
    exact ⟨off, slots, ⟨state, period, remaining, exchange⟩, queue, transaction⟩
  · intro h off
    obtain ⟨-, slots, ⟨state, period, remaining, exchange⟩, queue, transaction⟩ := h off
    exact ⟨slots, state, period, remaining, exchange, queue, transaction⟩

section
variable {s : State} (h : s.Asleep) (i : Slot)
include h

/-! ## Changes that leave it so -/

/-- A change that leaves the slots' records quiet, and the scan and the lane as they are. -/
theorem State.Asleep.of_slots {t : State} (slots : ∀ j, SlotQuiet (s.slot j) → SlotQuiet (t.slot j))
    (safeOff : t.safeOff = s.safeOff := by rfl) (scan : t.scan = s.scan := by rfl) (lane : t.lane = s.lane := by rfl) :
    t.Asleep :=
  ⟨safeOff.trans h.safeOff, fun j => slots j (h.slots j), by rw [scan]; exact h.scan, by rw [lane]; exact h.lane⟩

/-- A change of the rail, the clock, the directory, the images, the link, the notices or the marks. -/
theorem State.Asleep.frame (x : Rail) (c : Clock) (d : Directory) (l : Link) (n : Notices) (m : RackMarks) :
    State.Asleep { s with rail := x, clock := c, directory := d, link := l, notices := n, marks := m } :=
  h.of_slots fun _ => id

theorem State.Asleep.modSlot {f : SlotRecord → SlotRecord} (quiet : SlotQuiet (s.slot i) → SlotQuiet (f (s.slot i))) :
    (s.modSlot i f).Asleep :=
  h.of_slots fun j => by
    rw [State.slot_modSlot]
    split
    · rename_i e
      rw [e]
      exact quiet
    · exact id

theorem State.Asleep.modMon (f : Monitor → Monitor) : (s.modMon i f).Asleep := h.modSlot i id

theorem State.Asleep.post (n : Notice) : (s.post n).Asleep := h.of_slots fun _ => id

theorem State.Asleep.modLane {f : Lane → Lane} (lane : s.lane.Asleep → (f s.lane).Asleep) : (s.modLane f).Asleep :=
  ⟨h.safeOff, h.slots, h.scan, lane h.lane⟩

theorem State.Asleep.modScanRack {f : Scan → Scan} (scan : s.scan.Asleep → (f s.scan).Asleep) :
    (s.modScanRack f).Asleep :=
  ⟨h.safeOff, h.slots, scan h.scan, h.lane⟩

theorem State.Asleep.mapSlots {f : SlotRecord → SlotRecord} (quiet : ∀ r, SlotQuiet r → SlotQuiet (f r)) :
    (s.mapSlots f).Asleep :=
  h.of_slots fun j => by rw [State.slot_mapSlots]; exact quiet _

theorem State.Asleep.dropMatch : (s.dropMatch i).Asleep := by
  obtain ⟨-, -, frame⟩ := s.dropMatch_spec i
  have safeOff : (s.dropMatch i).safeOff = s.safeOff := (congrArg State.safeOff frame :)
  have scan : (s.dropMatch i).scan = s.scan := (congrArg State.scan frame :)
  have lane : (s.dropMatch i).lane = s.lane := (congrArg State.lane frame :)
  refine h.of_slots (fun j => ?_) safeOff scan lane
  rw [State.slot_dropMatch_eq]
  split
  · rename_i e
    rw [e]
    exact id
  · exact id

/-! ## What its slots are not in -/

theorem State.Asleep.state_cases :
    (s.ctx i).state = .disabled ∨ (s.ctx i).state = .vacant ∨ (s.ctx i).state = .quarantined := (h.slots i).1

theorem State.Asleep.state_ne {st : SlotState} (ne : st ≠ .disabled ∧ st ≠ .vacant ∧ st ≠ .quarantined) :
    (s.ctx i).state ≠ st := by
  rintro e
  rcases h.state_cases i with d | v | q
  · exact ne.1 (e ▸ d)
  · exact ne.2.1 (e ▸ v)
  · exact ne.2.2 (e ▸ q)

theorem State.Asleep.closed : (s.railOf i).closed = false := by
  obtain ⟨-, -, -, -, closed, -⟩ := h.slots i
  exact closed

theorem State.Asleep.dischargeTimer : (s.railOf i).dischargeTimer = none := by
  obtain ⟨-, -, -, -, -, -, -, discharge, -⟩ := h.slots i
  exact discharge

theorem State.Asleep.detector : (s.det i).run = .stopped ∧ (s.det i).qualTimer = .idle ∧ (s.det i).graceTimer = none := by
  obtain ⟨-, -, -, -, -, -, -, -, run, -, qual, grace, -⟩ := h.slots i
  exact ⟨run, qual, grace⟩

theorem State.Asleep.arbitrate : s.arbitrate = s :=
  State.arbitrate_of_empty fun j => by
    obtain ⟨-, -, -, -, -, queued, -⟩ := h.slots j
    exact queued

theorem State.Asleep.dueCount (p : Checkpoint) : (s.det i).dueCount p = none := by
  unfold Detector.dueCount
  rw [(h.detector i).1]

theorem State.Asleep.orphaned {t : Transaction} (ht : s.lane.transaction = some t) : t.orphaned = true := by
  have all := h.lane.2
  rw [ht] at all
  exact all

theorem State.Asleep.discarded {e : Exchange} (he : s.scan.exchange = some e) : e.discarded = true := by
  obtain ⟨-, -, -, all⟩ := h.scan
  rw [he] at all
  exact all

/-! ## The contacts and the alert line -/

theorem State.Asleep.removeCard (contact : ContactState) : (s.removeCard i contact).Asleep := by
  unfold State.removeCard
  split
  · exact h
  · exact h
  iterate 3
    · refine State.Asleep.post ?_ _
      rw [State.enterEmpty_eq]
      refine (h.dropMatch i).modSlot i fun ⟨_, shut⟩ => ?_
      have entered := slotShut_enterAt (us := s.longSettleUs) (st := .vacant) shut (by decide)
      exact ⟨.inr (.inl (SlotRecord.enterAt_state (us := s.longSettleUs) (st := .vacant))), entered⟩
  · rename_i e
    exact absurd e (h.state_ne i (by decide))
  · rename_i d v _ _ q _
    rcases h.state_cases i with e | e | e
    · exact absurd e d
    · exact absurd e v
    · exact absurd e q

theorem State.Asleep.seatCard (cls : InrushClass) : (s.seatCard i cls).Asleep := by
  unfold State.seatCard
  split
  · rw [if_pos h.safeOff]; exact h
  · rename_i e
    exact absurd e (h.state_ne i (by decide))
  · exact h

theorem State.Asleep.contactChange (old new : ContactState) (key : BitVec 3) :
    (s.contactChange i old new key).Asleep := by
  have copied : (s.modCtx i fun c => { c with contact := new }).Asleep := h.modSlot i id
  unfold State.contactChange
  dsimp only
  split
  · exact copied.seatCard i _
  · split
    · exact copied.removeCard i _
    · exact copied
  · split
    · exact copied.removeCard i _
    · exact copied

theorem State.Asleep.sampleContacts (raw : ContactState) (key : BitVec 3) : (s.sampleContacts i raw key).Asleep := by
  unfold State.sampleContacts
  dsimp only
  split
  · exact h.modMon i _
  · exact (h.modMon i _).contactChange i _ _ key

theorem State.Asleep.sampleAlert (alert : Level) : (s.sampleAlert i alert).Asleep := by
  unfold State.sampleAlert
  dsimp only
  rw [if_neg fun online => h.state_ne i (by decide) online.1]
  exact h.modMon i _

/-! ## The lane -/

theorem State.Asleep.tryOpen : s.tryOpen = s := by
  have same : s.lane.tryOpen = s.lane := by
    unfold Lane.tryOpen
    rw [h.lane.1]
  unfold State.tryOpen State.modLane
  rw [same]

/-- The lane ends its orphaned transaction, or the message, whatever state it goes to. -/
theorem State.Asleep.endTransaction {f : Lane → Lane} (queue : (f s.lane).queue = s.lane.queue := by rfl)
    (transaction : (f s.lane).transaction = none := by rfl) : (s.modLane f).Asleep :=
  h.modLane fun ⟨empty, _⟩ => ⟨queue.trans empty, by rw [transaction]; rfl⟩

theorem State.Asleep.closeTransaction : (s.closeTransaction .idle).Asleep := by
  have ended : (s.modLane fun l => l.endTransaction .idle).Asleep := h.endTransaction
  unfold State.closeTransaction
  rw [ended.tryOpen]
  exact ended

/-- A change of the lane that leaves its queue and its transaction. -/
theorem State.Asleep.laneTimers {f : Lane → Lane} (queue : (f s.lane).queue = s.lane.queue := by rfl)
    (transaction : (f s.lane).transaction = s.lane.transaction := by rfl) : (s.modLane f).Asleep :=
  h.modLane fun lane => by unfold Lane.Asleep; rw [queue, transaction]; exact lane

theorem State.Asleep.judgeMessage (sender length : Byte) (data : List Byte) (check : HWord) :
    (s.judgeMessage sender length data check).Asleep := by
  unfold State.judgeMessage
  split
  · exact h
  · exact h.post _

/-! ## The exchange -/

theorem State.Asleep.endDiscarded : s.endDiscarded.Asleep := by
  obtain ⟨state, period, remaining, -⟩ := h.scan
  have ended : (s.modScanRack fun c => { c with exchange := none, remaining := [] }).Asleep :=
    h.modScanRack fun _ => ⟨state, period, rfl, rfl⟩
  have e : s.endDiscarded = s.modScanRack fun c => { c with exchange := none, remaining := [] } := by
    unfold State.endDiscarded
    dsimp only
    have none : (s.modScanRack fun c => { c with exchange := none }).scan.remaining = [] := remaining
    rw [none]
    have stopped : ∀ t : State, t.scan.state = .stopped → t.settleCycle = t := fun t ht => by
      unfold State.settleCycle
      rw [ht]
      exact ite_self _
    exact stopped _ state
  rw [e]
  exact ended

theorem State.Asleep.judgeReply {e : Exchange} (discarded : e.discarded = true) (reply : List Byte) :
    (s.judgeReply e reply).Asleep := by
  unfold State.judgeReply
  split
  · exact h
  · exact h.endDiscarded

theorem State.Asleep.failExchange {e : Exchange} (discarded : e.discarded = true) : (s.failExchange e).Asleep := by
  unfold State.failExchange
  rw [if_pos discarded]
  exact h.endDiscarded

theorem State.Asleep.setPhase (p : ExchangePhase) : (s.setPhase p).Asleep :=
  h.modScanRack fun ⟨state, period, remaining, discarded⟩ => by
    refine ⟨state, period, remaining, ?_⟩
    show (s.scan.exchange.map _).all _ = true
    generalize s.scan.exchange = e at discarded
    cases e with
    | none => rfl
    | some e => exact discarded

theorem State.Asleep.discarded_of_exchangeIn {p : ExchangePhase} {e : Exchange} (he : s.exchangeIn p = some e) :
    e.discarded = true := by
  unfold State.exchangeIn at he
  exact h.discarded (Option.filter_eq_some_iff.mp he).1

/-! ## The clock qualifier, the rail, the directory and the passing of time -/

/-- A change of stopped detectors that leaves them stopped with no duty and no timer. -/
theorem State.Asleep.mapDetectors {f : Detector → Detector}
    (stopped : ∀ d, d.run = .stopped → d.duty = none → d.qualTimer = .idle → d.graceTimer = none →
      (f d).run = .stopped ∧ (f d).duty = none ∧ (f d).qualTimer = .idle ∧ (f d).graceTimer = none) :
    (s.mapSlots fun r => { r with detector := f r.detector }).Asleep :=
  h.mapSlots fun r ⟨state, inrush, steady, settle, closed, queued, ramp, discharge, run, duty, qual, grace, scan⟩ => by
    obtain ⟨run, duty, qual, grace⟩ := stopped r.detector run duty qual grace
    exact ⟨state, inrush, steady, settle, closed, queued, ramp, discharge, run, duty, qual, grace, scan⟩

theorem State.Asleep.refEdge : s.refEdge.Asleep := by
  have edge : (s.mapSlots fun r => { r with detector := r.detector.refEdge }).Asleep :=
    h.mapDetectors fun d run duty qual grace => by
      unfold Detector.refEdge
      rw [if_pos (by rw [run]; decide)]
      exact ⟨run, duty, qual, grace⟩
  exact edge.of_slots fun _ => id

theorem State.Asleep.loseReference : s.loseReference.Asleep := by
  have lost : State.Asleep { s with clock := { s.clock with refLost := true, frozen := true } } := h.of_slots fun _ => id
  have paused := (lost.post ⟨.refLost, none, 0, []⟩).mapDetectors (f := Detector.loseReference)
    fun d run duty qual grace => by
      unfold Detector.loseReference
      simp [run, duty, qual, QualTimer.pause]
  exact paused.of_slots fun _ => id

theorem State.Asleep.regainReference : s.regainReference.Asleep := by
  have back : State.Asleep { s with clock := { s.clock with refLost := false, returnTimer := none } } :=
    h.of_slots fun _ => id
  exact (back.post ⟨.refBack, none, 0, []⟩).mapDetectors fun d run duty qual grace => by
    unfold Detector.regainReference
    simp [run, duty, qual, grace, QualTimer.resume]

theorem State.Asleep.clkEdge : (s.modDet i Detector.clkEdge).Asleep :=
  h.modSlot i fun ⟨state, inrush, steady, settle, closed, queued, ramp, discharge, run, rest⟩ => by
    have same : (s.slot i).detector.clkEdge = (s.slot i).detector := by
      unfold Detector.clkEdge
      rw [if_neg (by rw [run]; rintro ⟨e, -⟩; cases e)]
    rw [same]
    exact ⟨state, inrush, steady, settle, closed, queued, ramp, discharge, run, rest⟩

theorem State.Asleep.sampleRail (reading : Nat) : (s.sampleRail reading).Asleep := by
  have sag : ∀ {t : State}, t.Asleep → t.updateSag.Asleep := fun {t} ht => by
    unfold State.updateSag
    split
    · exact ht.of_slots fun _ => id
    · split
      · exact ht.of_slots fun _ => id
      · exact ht
  have sensed : State.Asleep { s with rail := { s.rail with value := min reading Config.railMaxMv } } :=
    h.of_slots fun _ => id
  have computed : State.Asleep
      { s with rail := { s.rail with value := min reading Config.railMaxMv } }.recomputeE := sensed.of_slots fun _ => id
  have sagged := sag computed
  unfold State.sampleRail
  dsimp only
  generalize ({ s with rail := { s.rail with value := min reading Config.railMaxMv } } : State).recomputeE.updateSag = t
    at sagged
  exact sagged.of_slots fun _ => id

theorem State.Asleep.sweep : s.sweep.Asleep := by
  have rest := s.sweptAlong_sweep.rest
  generalize s.sweep = t at rest
  have slots : t.slots = s.slots := (congrArg State.slots rest :)
  exact h.of_slots (fun j => by unfold State.slot; rw [slots]; exact id) (congrArg State.safeOff rest :)
    (congrArg State.scan rest :) (congrArg State.lane rest :)

theorem State.Asleep.tick : (tick s).Asleep := by
  have slots : (s.mapSlots SlotRecord.tick).Asleep := h.mapSlots fun r
      ⟨state, inrush, steady, settle, closed, queued, ramp, discharge, run, duty, qual, grace, scan⟩ =>
    ⟨state, inrush, steady, by simp [SlotRecord.tick, tickTimer, settle], closed, queued,
      by simp [SlotRecord.tick, RailSlot.tick, tickTimer, ramp],
      by simp [SlotRecord.tick, RailSlot.tick, tickTimer, discharge], run, duty,
      by simp [SlotRecord.tick, Detector.tick, QualTimer.tick, qual],
      by simp [SlotRecord.tick, Detector.tick, tickTimer, grace], scan⟩
  obtain ⟨state, period, remaining, exchange⟩ := h.scan
  exact ⟨h.safeOff, slots.slots, ⟨state, by show s.scan.period.tick = _; rw [period]; rfl, remaining, exchange⟩, h.lane⟩

/-! ## Requests -/

theorem State.Asleep.serve (c : Instr) : (serve c s).Asleep := by
  obtain ⟨q, l, e⟩ := serve_in_safeOff c h.safeOff
  rw [e]
  exact h.of_slots fun _ => id

theorem State.Asleep.judgeFrame (sdi : List Byte) : (s.judgeFrame sdi).Asleep := by
  unfold State.judgeFrame
  split
  · exact h
  · split
    · unfold State.takeRequest
      split
      · exact h.serve _
      · exact h.of_slots fun _ => id
      · exact h.of_slots fun _ => id
    · exact h.of_slots fun _ => id

theorem State.Asleep.endWindow (start : LinkState) (frameSeen : Bool) (sdi : List Byte) :
    (s.endWindow start frameSeen sdi).Asleep := by
  have closed : State.Asleep { s with link := s.link.closeWindow start sdi.length } := h.of_slots fun _ => id
  unfold State.endWindow
  dsimp only
  split
  · exact h.of_slots fun _ => id
  · split
    · exact h.of_slots fun _ => id
    · exact closed.judgeFrame sdi

end

end Sys2Proof.Machine

/-! A quiet rack and the commands: every event in turn, the requests at once. -/

namespace Sys2Proof.Machine

open Sys2Proof Sys2Proof.Safety

set_option Elab.async false

section
variable {s : State} (h : s.Asleep)
include h

/-- An event whose condition no slot of a quiet rack meets. -/
theorem State.Asleep.ite_of_not {p : Prop} [Decidable p] {t : State} (never : ¬ p) : (if p then t else s).Asleep := by
  rw [if_neg never]
  exact h

/-- An event that leaves a quiet rack quiet where it is taken. -/
theorem State.Asleep.ite {p : Prop} [Decidable p] {t : State} (quiet : t.Asleep) : (if p then t else s).Asleep := by
  split
  · exact quiet
  · exact h

/-! ## Every event in a quiet rack -/

/-- An event leaves a quiet rack quiet; hard reset ends SAFE_OFF. -/
theorem State.Asleep.event {c : Instr} (no : Decode.encode c = none) {t : State} (run : exec c s = .next t) :
    QuietInSafeOff t := by
  have goal : ∀ u : State, u.Asleep → exec c s = .next u → QuietInSafeOff t := fun u hu e => by
    rw [run] at e
    cases e
    exact (quietInSafeOff_iff t).mpr fun _ => hu
  cases c with
  | hardReset => cases run; exact fun on => by cases on
  | transferWindowStart =>
    refine goal _ ?_ rfl
    split
    · exact h.of_slots fun _ => id
    · exact h
  | transferWindowEnd sdi =>
    refine goal _ ?_ rfl
    split
    · exact h
    · exact h.of_slots fun _ => id
    · exact h.endWindow ..
  | replyBuilt seen =>
    refine goal _ ?_ rfl
    split
    · exact h.of_slots fun _ => id
    · exact h
  | slotSample i presL presS key alert =>
    exact goal _ (((h.modMon i _).sampleContacts i _ key).sampleAlert i alert) rfl
  | darkPulseExpiry i => exact goal _ (h.modMon i _) rfl
  | locateExpiry i => exact goal _ (h.modMon i _) rfl
  | ledPhaseEnd i layer =>
    refine goal _ ?_ rfl
    split
    · exact h.modMon i _
    · exact h.modMon i _
  | settleTimerExpiry i => exact goal _ (h.ite_of_not fun e => h.state_ne i (by decide) e.1) rfl
  | railSample reading =>
    refine goal _ ?_ rfl
    have sampled := h.sampleRail reading
    split
    · rw [sampled.arbitrate]; exact sampled
    · exact sampled
  | pwrGoodAssert i => exact goal _ (h.ite_of_not fun e => h.state_ne i (by decide) e.1) rfl
  | rampTimerExpiry i => exact goal _ (h.ite_of_not fun e => h.state_ne i (by decide) e.1) rfl
  | pwrGoodDeassert i => exact goal _ (h.ite_of_not (by rw [RailSlot.losesPower, h.closed i, Bool.false_and, Bool.false_and]; decide)) rfl
  | pwrTrip i => exact goal _ (h.ite_of_not (by rw [h.closed i]; decide)) rfl
  | dischargeTimerExpiry i => exact goal _ (h.ite_of_not (by rw [h.dischargeTimer i]; decide)) rfl
  | cardAcknowledge =>
    refine goal _ ?_ rfl
    split
    · rename_i o ht
      have mine : o = true := h.orphaned ht
      exact h.modLane fun ⟨queue, _⟩ => ⟨queue, mine⟩
    · exact h
  | acknowledgeTimerExpiry =>
    refine goal _ ?_ rfl
    split
    · rename_i ht
      unfold State.noAnswer
      rw [if_pos (h.orphaned ht)]
      exact h.closeTransaction
    · exact h
  | identityTransferComplete record =>
    refine goal _ ?_ rfl
    split
    · rename_i ht
      unfold State.transferComplete
      rw [if_pos (h.orphaned ht)]
      exact h.closeTransaction
    · exact h
  | holdTimerExpiryTransaction =>
    refine goal _ ?_ rfl
    split
    · rename_i ht
      unfold State.transactionTimeout
      rw [if_pos (h.orphaned ht)]
      exact h.endTransaction
    · exact h
  | holdTimerExpiryMessage => exact goal _ (h.ite h.endTransaction) rfl
  | recoveryTimerExpiry =>
    have recovered : (s.modLane Lane.endRecovery).Asleep := h.laneTimers
    exact goal _ (h.ite (by rw [recovered.tryOpen]; exact recovered)) rfl
  | retryGapExpiry =>
    have ended : (s.modLane fun l => { l with retryGap := none }).Asleep := h.laneTimers
    exact goal _ (h.ite (by rw [ended.tryOpen]; exact ended)) rfl
  | cardMessageBegin =>
    refine goal _ ?_ rfl
    split
    · exact h.endTransaction
    · split
      · rename_i ht
        unfold State.transactionLost
        rw [if_pos (h.orphaned ht)]
        exact h.endTransaction
      · exact h
    · exact h
  | cardMessageEnd sender length data check =>
    have ended : (s.modLane Lane.endMessage).Asleep := h.laneTimers
    have judged := ended.judgeMessage sender length data check
    exact goal _ (h.ite (by rw [judged.tryOpen]; exact judged)) rfl
  | lockCheckpoint16 i => exact goal _ (by rw [h.dueCount i]; exact h) rfl
  | lockCheckpoint32 i => exact goal _ (by rw [h.dueCount i]; exact h) rfl
  | lockCheckpoint64 i => exact goal _ (by rw [h.dueCount i]; exact h) rfl
  | qualificationTimerExpiry i => exact goal _ (by rw [(h.detector i).2.1]; exact h) rfl
  | graceTimerExpiry i => exact goal _ (h.ite_of_not (by rw [(h.detector i).2.2]; decide)) rfl
  | watchTimerExpiry =>
    have expired : State.Asleep { s with clock := { s.clock with watchTimer := none } } := h.of_slots fun _ => id
    refine goal _ (h.ite ?_) rfl
    dsimp only
    split
    · exact h.of_slots fun _ => id
    · exact expired.loseReference
  | referenceReturnEdge => exact goal _ h.refEdge rfl
  | returnTimerExpiry => exact goal _ (h.ite h.regainReference) rfl
  | periodTimerExpiry =>
    obtain ⟨-, period, -⟩ := h.scan
    exact goal _ (by rw [period]; exact h) rfl
  | replyEnd reply =>
    refine goal _ ?_ rfl
    split
    · exact h.judgeReply (h.discarded_of_exchangeIn ‹_›) reply
    · exact h
  | responseWindowExpiry =>
    refine goal _ ?_ rfl
    split
    · exact h.failExchange (h.discarded_of_exchangeIn ‹_›)
    · exact h
  | replySilenceTimeout =>
    refine goal _ ?_ rfl
    split
    · exact h.failExchange (h.discarded_of_exchangeIn ‹_›)
    · exact h
  | ageIntervalExpiry =>
    refine goal _ ?_ rfl
    split
    · exact h
    · have swept := h.sweep
      dsimp only
      generalize s.sweep = t at swept
      exact swept.of_slots fun _ => id
  | referenceEdge => exact goal _ h.refEdge rfl
  | clkRetEdge i => exact goal _ (h.clkEdge i) rfl
  | exchangeFrameSent => exact goal _ (h.ite (h.setPhase _)) rfl
  | replyBegin => exact goal _ (h.ite (h.setPhase _)) rfl
  | _ => cases no

theorem State.Asleep.exec {c : Instr} {t : State} (run : exec c s = .next t) : QuietInSafeOff t := by
  cases e : Decode.encode c with
  | none => exact h.event e run
  | some f =>
    rw [exec_of_encode e] at run
    cases run
    exact (quietInSafeOff_iff _).mpr fun _ => h.serve c

end

/-- Settles O60: a quiet rack stays so, and a step that enters SAFE_OFF leaves one. -/
theorem safeOffStaysQuiet : Obligations.SafeOffStaysQuiet := by
  intro s t quiet run
  rw [quietInSafeOff_iff] at quiet
  unfold step at run
  split at run
  · cases run
    exact (quietInSafeOff_iff _).mpr fun on => (quiet (s.keeps_tick.safeOff.symm.trans on)).tick
  · rename_i c rest _
    by_cases off : s.safeOff = true
    · have asleep : State.Asleep { s with pending := rest } := (quiet off).of_slots fun _ => id
      exact asleep.exec run
    · obtain ⟨u, run', keeps⟩ := exec_keeps c { s with pending := rest }
      rw [run] at run'
      cases run'
      exact keeps.awake (Bool.eq_false_iff.mpr off)

end Sys2Proof.Machine

/-! The request frames and the identity record, read and written (10.8). -/

namespace Sys2Proof.Machine

open Sys2Proof Sys2Proof.Safety

set_option Elab.async false

/-! ## Bytes and fields -/

@[simp] theorem toNat_byteOf (n : Nat) : (byteOf n).toNat = n % 256 := BitVec.toNat_ofNat ..

theorem toNat_join16 (hi lo : Byte) : (join16 hi lo).toNat = hi.toNat * 256 + lo.toNat := by
  rw [join16, BitVec.toNat_append, ← Nat.shiftLeft_add_eq_or_of_lt lo.isLt, Nat.shiftLeft_eq]

@[simp] theorem join16_bytes (x : HWord) : join16 (byteOf (x.toNat / 256)) (byteOf x.toNat) = x := by
  apply BitVec.eq_of_toNat_eq
  have := x.isLt
  rw [toNat_join16, toNat_byteOf, toNat_byteOf]
  omega

theorem byteOf_toNat (b : Byte) : byteOf b.toNat = b := BitVec.eq_of_toNat_eq (by
  rw [toNat_byteOf, Nat.mod_eq_of_lt b.isLt])

theorem be16_join16 (hi lo : Byte) : be16 (join16 hi lo).toNat = [hi, lo] := by
  have := lo.isLt
  have high : byteOf ((join16 hi lo).toNat / 256) = hi := BitVec.eq_of_toNat_eq (by
    have := hi.isLt
    rw [toNat_byteOf, toNat_join16]
    omega)
  have low : byteOf (join16 hi lo).toNat = lo := BitVec.eq_of_toNat_eq (by
    rw [toNat_byteOf, toNat_join16]
    omega)
  rw [be16, high, low]

theorem join16_of_be16 {hi lo : Byte} {x : HWord} (h : [hi, lo] = be16 x.toNat) : join16 hi lo = x := by
  obtain ⟨rfl, rfl, -⟩ := by simpa [be16] using h
  exact join16_bytes x

theorem toNat_join32 (a b c d : Byte) : (join32 a b c d).toNat = (join16 a b).toNat * 65536 + (join16 c d).toNat := by
  rw [join32, BitVec.toNat_append, ← Nat.shiftLeft_add_eq_or_of_lt (join16 c d).isLt, Nat.shiftLeft_eq]

theorem join32_of_be32 {a b c d : Byte} {x : DWord} (h : [a, b, c, d] = be32 x.toNat) : join32 a b c d = x := by
  have := x.isLt
  obtain ⟨rfl, rfl, rfl, rfl, -⟩ := by simpa [be32, be16] using h
  apply BitVec.eq_of_toNat_eq
  rw [toNat_join32, toNat_join16, toNat_join16, toNat_byteOf, toNat_byteOf, toNat_byteOf, toNat_byteOf]
  omega

/-! ## The identity record -/

section
variable {d : Identity} {r : Vector Byte 32} (h : r.toList.take 30 = d.bytes)
include h

theorem record_getElem {k : Nat} (hk : k < 30) {b : Byte} (hb : d.bytes[k]? = some b) : r[k] = b := by
  rw [← h, List.getElem?_take_of_lt hk, List.getElem?_eq_getElem (by rw [Vector.length_toList]; omega)] at hb
  exact Option.some.inj hb

theorem record_text (j : Nat) (hj : j < 12) : r[18 + j] = d.vendorText[j] := by
  refine record_getElem h (by omega) ?_
  have fields : (d.bytes.take 18).length = 18 := rfl
  have text : d.bytes = d.bytes.take 18 ++ d.vendorText.toList := rfl
  rw [text, List.getElem?_append_right (by omega), fields, Nat.add_sub_cancel_left,
    List.getElem?_eq_getElem (by rw [Vector.length_toList]; exact hj)]
  rfl

theorem identityOfRecord_of_bytes : identityOfRecord r = d := by
  have byte : ∀ {k : Nat} (hk : k < 30) {b : Byte}, d.bytes[k]? = some b → r[k] = b := fun hk _ => record_getElem h hk
  have text : (identityOfRecord r).vendorText = d.vendorText := by
    ext1 j hj
    rw [← record_text h j hj]
    interval_cases j <;> rfl
  have fields : identityOfRecord r = { d with vendorText := (identityOfRecord r).vendorText } := by
    unfold identityOfRecord
    congr 1
    · exact join16_of_be16 (by rw [byte (k := 0) (by omega) rfl, byte (k := 1) (by omega) rfl]; rfl)
    · exact join16_of_be16 (by rw [byte (k := 2) (by omega) rfl, byte (k := 3) (by omega) rfl]; rfl)
    · exact byte (k := 4) (by omega) rfl
    · exact byte (k := 5) (by omega) rfl
    · exact join32_of_be32 (by
        rw [byte (k := 6) (by omega) rfl, byte (k := 7) (by omega) rfl, byte (k := 8) (by omega) rfl,
          byte (k := 9) (by omega) rfl]
        rfl)
    · exact join16_of_be16 (by rw [byte (k := 10) (by omega) rfl, byte (k := 11) (by omega) rfl]; rfl)
    · exact join16_of_be16 (by rw [byte (k := 12) (by omega) rfl, byte (k := 13) (by omega) rfl]; rfl)
    · exact join16_of_be16 (by rw [byte (k := 14) (by omega) rfl, byte (k := 15) (by omega) rfl]; rfl)
    · exact byte (k := 16) (by omega) rfl
    · exact byte (k := 17) (by omega) rfl
  rw [fields, text]

end

/-- Settles O11: the record's bytes are the identity's, one by one. -/
theorem identityRecordIsReadBack : Obligations.IdentityRecordIsReadBack := by
  intro d r h
  refine ⟨identityOfRecord_of_bytes h, fun check => ?_⟩
  have last : r.toList.drop 30 = [r[30], r[31]] := by
    have length := r.length_toList
    rw [List.drop_eq_getElem_cons (by omega), List.drop_eq_getElem_cons (by omega), List.drop_of_length_le (by omega)]
    rfl
  rw [recordChecks, h, join16_of_be16 (last.symm.trans check)]
  exact beq_self_eq_true _

/-! ## The request frames -/

theorem noBody_eq_ok {body : List Byte} {i j : Instr} : Decode.noBody body i = .ok j ↔ body = [] ∧ i = j := by
  unfold Decode.noBody
  split <;> simp_all

theorem oneByte_eq_ok {body : List Byte} {f : Byte → Instr} {j : Instr} :
    Decode.oneByte body f = .ok j ↔ ∃ a, body = [a] ∧ f a = j := by
  unfold Decode.oneByte
  split
  · simp
  · rename_i other
    simp only [reduceCtorEq, false_iff, not_exists, not_and]
    exact fun a e => absurd e (other a)

theorem entryBody_entryBytes (b : EntryBytes) (f : EntryBytes → Instr) :
    Decode.entryBody (Decode.entryBytes b) f = .ok (f b) := by
  simp [Decode.entryBody, Decode.entryBytes, be16]

theorem entryBody_eq_ok {body : List Byte} {f : EntryBytes → Instr} {j : Instr} (h : Decode.entryBody body f = .ok j) :
    ∃ b, Decode.entryBytes b = body ∧ f b = j := by
  unfold Decode.entryBody at h
  split at h
  · cases h
    exact ⟨_, by simp [Decode.entryBytes, be16_join16], rfl⟩
  · cases h

/-- A well-formed request is read from the frame that carries it. -/
theorem request_of_encode {i : Instr} {f : Decode.Frame} (wf : i.WellFormed) (h : Decode.encode i = some f) :
    Decode.request f.code f.tag f.body = .ok i := by
  cases i with
  | setParameter t id v w =>
    cases h
    show Decode.setParameter t _ = _
    cases w with
    | none =>
      have single : isClassRowId id = false := by simpa [Instr.WellFormed, Instr.wellFormed] using wf
      simp [Decode.setParameter, be16, single]
    | some w =>
      have row : isClassRowId id = true := by simpa [Instr.WellFormed, Instr.wellFormed] using wf
      simp [Decode.setParameter, be16, row]
  | imageRead t x g o n =>
    cases h
    have reads : ∀ body, Decode.request 0x32 t body = Decode.imageRead t body := fun _ => rfl
    exact (reads _).trans (by simp [Decode.imageRead, be16])
  | imageWrite t x o d =>
    cases h
    have length : 1 ≤ d.length ∧ d.length ≤ 64 := by simpa [Instr.WellFormed, Instr.wellFormed] using wf
    have reads : ∀ body, Decode.request 0x33 t body = Decode.imageWrite t body := fun _ => rfl
    simp only [reads, be16, List.cons_append, List.nil_append, Decode.imageWrite]
    rw [if_pos length, join16_bytes]
  | safeOff t m =>
    cases h
    have reads : ∀ body, Decode.request 0x43 t body = Decode.safeOff t body := fun _ => rfl
    exact (reads _).trans (by simp [Decode.safeOff, be16])
  | directoryAdd t b => cases h; exact entryBody_entryBytes b _
  | directoryFind t b => cases h; exact entryBody_entryBytes b _
  | _ => cases h <;> rfl

/-- The body of a well-formed request has at most 80 bytes. -/
theorem length_body_of_encode {i : Instr} {f : Decode.Frame} (wf : i.WellFormed) (h : Decode.encode i = some f) :
    f.body.length ≤ 80 := by
  cases i with
  | setParameter t id v w => cases h; cases w <;> simp [be16]
  | imageWrite t x o d =>
    cases h
    have length : 1 ≤ d.length ∧ d.length ≤ 64 := by simpa [Instr.WellFormed, Instr.wellFormed] using wf
    simp only [be16, List.length_cons, List.cons_append, List.nil_append]
    omega
  | _ => cases h <;> simp [be16, Decode.entryBytes]

/-- What is read as a request is a well-formed one, and its frame is written back. -/
theorem encode_of_request {code tag : Byte} {body : List Byte} {i : Instr} (h : Decode.request code tag body = .ok i) :
    i.WellFormed ∧ Decode.encode i = some ⟨code, tag, body⟩ := by
  have named : ∀ {n : Nat}, code.toNat = n → code = byteOf n := fun e => by rw [← e, byteOf_toNat]
  unfold Decode.request at h
  split at h
  case h_1 e => obtain ⟨rfl, rfl⟩ := noBody_eq_ok.mp h; rw [named e]; exact ⟨rfl, rfl⟩
  case h_2 e => obtain ⟨a, rfl, rfl⟩ := oneByte_eq_ok.mp h; rw [named e]; exact ⟨rfl, rfl⟩
  case h_3 e => obtain ⟨a, rfl, rfl⟩ := oneByte_eq_ok.mp h; rw [named e]; exact ⟨rfl, rfl⟩
  case h_4 e =>
    rw [named e]
    unfold Decode.setParameter at h
    split at h
    · split at h
      · cases h
      · rename_i single
        cases h
        exact ⟨by simpa [Instr.WellFormed, Instr.wellFormed] using single, by simp [Decode.encode, be16_join16]; rfl⟩
    · split at h
      · rename_i row
        cases h
        exact ⟨by simpa [Instr.WellFormed, Instr.wellFormed] using row, by simp [Decode.encode, be16_join16]; rfl⟩
      · cases h
    · cases h
  case h_5 e => obtain ⟨a, rfl, rfl⟩ := oneByte_eq_ok.mp h; rw [named e]; exact ⟨rfl, rfl⟩
  case h_6 e => obtain ⟨rfl, rfl⟩ := noBody_eq_ok.mp h; rw [named e]; exact ⟨rfl, rfl⟩
  case h_7 e =>
    unfold Decode.setSlotPolicy at h
    split at h
    · cases h; rw [named e]; exact ⟨rfl, rfl⟩
    · cases h
  case h_8 e => obtain ⟨a, rfl, rfl⟩ := oneByte_eq_ok.mp h; rw [named e]; exact ⟨rfl, rfl⟩
  case h_9 e => obtain ⟨a, rfl, rfl⟩ := oneByte_eq_ok.mp h; rw [named e]; exact ⟨rfl, rfl⟩
  case h_10 e => obtain ⟨a, rfl, rfl⟩ := oneByte_eq_ok.mp h; rw [named e]; exact ⟨rfl, rfl⟩
  case h_11 e => obtain ⟨a, rfl, rfl⟩ := oneByte_eq_ok.mp h; rw [named e]; exact ⟨rfl, rfl⟩
  case h_12 e =>
    unfold Decode.locate at h
    split at h
    · cases h; rw [named e]; exact ⟨rfl, rfl⟩
    · cases h
  case h_13 e => obtain ⟨a, rfl, rfl⟩ := oneByte_eq_ok.mp h; rw [named e]; exact ⟨rfl, rfl⟩
  case h_14 e => obtain ⟨a, rfl, rfl⟩ := oneByte_eq_ok.mp h; rw [named e]; exact ⟨rfl, rfl⟩
  case h_15 e => obtain ⟨b, rfl, rfl⟩ := entryBody_eq_ok h; rw [named e]; exact ⟨rfl, rfl⟩
  case h_16 e => obtain ⟨a, rfl, rfl⟩ := oneByte_eq_ok.mp h; rw [named e]; exact ⟨rfl, rfl⟩
  case h_17 e => obtain ⟨a, rfl, rfl⟩ := oneByte_eq_ok.mp h; rw [named e]; exact ⟨rfl, rfl⟩
  case h_18 e => obtain ⟨b, rfl, rfl⟩ := entryBody_eq_ok h; rw [named e]; exact ⟨rfl, rfl⟩
  case h_19 e => obtain ⟨a, rfl, rfl⟩ := oneByte_eq_ok.mp h; rw [named e]; exact ⟨rfl, rfl⟩
  case h_20 e => obtain ⟨rfl, rfl⟩ := noBody_eq_ok.mp h; rw [named e]; exact ⟨rfl, rfl⟩
  case h_21 e => obtain ⟨rfl, rfl⟩ := noBody_eq_ok.mp h; rw [named e]; exact ⟨rfl, rfl⟩
  case h_22 e => obtain ⟨rfl, rfl⟩ := noBody_eq_ok.mp h; rw [named e]; exact ⟨rfl, rfl⟩
  case h_23 e =>
    unfold Decode.imageRead at h
    split at h
    · cases h; rw [named e]; exact ⟨rfl, by simp [Decode.encode, be16_join16]; rfl⟩
    · cases h
  case h_24 e =>
    unfold Decode.imageWrite at h
    split at h
    · split at h
      · rename_i length
        cases h
        rw [named e]
        exact ⟨by simpa [Instr.WellFormed, Instr.wellFormed] using length, by simp [Decode.encode, be16_join16]; rfl⟩
      · cases h
    · cases h
  case h_25 e => obtain ⟨rfl, rfl⟩ := noBody_eq_ok.mp h; rw [named e]; exact ⟨rfl, rfl⟩
  case h_26 e => obtain ⟨a, rfl, rfl⟩ := oneByte_eq_ok.mp h; rw [named e]; exact ⟨rfl, rfl⟩
  case h_27 e => obtain ⟨rfl, rfl⟩ := noBody_eq_ok.mp h; rw [named e]; exact ⟨rfl, rfl⟩
  case h_28 e => obtain ⟨rfl, rfl⟩ := noBody_eq_ok.mp h; rw [named e]; exact ⟨rfl, rfl⟩
  case h_29 e =>
    unfold Decode.safeOff at h
    split at h
    · cases h; rw [named e]; exact ⟨rfl, by simp [Decode.encode, be16_join16]; rfl⟩
    · cases h
  case h_30 => cases h

/-- Settles O10: the two readings of one table. -/
theorem requestReadingAndWritingAgree : Obligations.RequestReadingAndWritingAgree :=
  ⟨fun _ _ wf h => ⟨request_of_encode wf h, length_body_of_encode wf h⟩, fun _ _ _ _ h => encode_of_request h⟩


end Sys2Proof.Machine

/-! The link (10.1 to 10.3): windows, frames, the requests that frames carry, and the replies. -/

namespace Sys2Proof.Machine

open Sys2Proof Sys2Proof.Safety

set_option Elab.async false

/-- Settles O1, by the definition of the step. -/
theorem stepTakesTheFrontCommand : Obligations.StepTakesTheFrontCommand := fun _ _ _ => rfl

/-- Settles O6. -/
theorem windowStartKeepsTheLinkState : Obligations.WindowStartKeepsTheLinkState := by
  intro s closed
  show execTransferWindowStart s = _
  unfold execTransferWindowStart
  rw [closed]

/-- Settles O4: the state that hard reset makes is written out, and the window has three states. -/
theorem hardResetRestoresEveryBlock : Obligations.HardResetRestoresEveryBlock := by
  refine fun s => ⟨_, rfl, rfl, rfl, fun closed => ?_, fun opened => ?_⟩
  · show { Link.reset with window := s.link.window.afterReset } = _
    rw [closed]
    rfl
  · show { Link.reset with window := s.link.window.afterReset } = _
    have ignored : s.link.window.afterReset = .ignored := by
      unfold WindowState.afterReset
      split
      · rename_i closed
        exact absurd closed opened
      · rfl
    rw [ignored]

/-- Settles O12: each query is an answer alone. -/
theorem queriesAreAnsweredInEveryState : Obligations.QueriesAreAnsweredInEveryState := by
  refine fun tag s => ⟨⟨_, rfl, rfl, rfl⟩, fun i => ?_, fun b gt => ?_, fun id p named => ?_, ⟨_, rfl, rfl, rfl⟩⟩
  · exact ⟨_, rfl, onlyLink_and_answers_of_eq_reply (by rw [requestSlotInfo, slotOf_byteOf])⟩
  · exact ⟨_, rfl, onlyLink_and_answers_of_eq_reply (by rw [requestSlotInfo, slotOf_of_gt gt])⟩
  · exact ⟨_, rfl, onlyLink_and_answers_of_eq_reply (by rw [requestGetParameter, named]; rfl)⟩

/-! ## The building of a reply (R180, R182) -/

theorem frameEnded_iff (sdi : List Byte) :
    frameEnded sdi = true ↔ 2 ≤ sdi.length ∧ 6 + ((sdi[1]?).getD 0).toNat ≤ sdi.length := by
  rw [frameEnded, decide_eq_true_eq]
  rfl

theorem Link.noteDrop_of_not {l : Link} {seen : List Byte}
    (h : l.window ≠ .opened .handling false ∨ frameEnded seen = false) : l.noteDrop seen = l := by
  unfold Link.noteDrop
  split
  · rename_i opened
    rcases h with other | short
    · exact absurd opened other
    · rw [short]; rfl
  · rfl

theorem Link.noteDrop_of_ended {l : Link} {seen : List Byte} (opened : l.window = .opened .handling false)
    (ended : frameEnded seen = true) : l.noteDrop seen = { l with dropped := true, window := .opened .handling true } := by
  unfold Link.noteDrop
  rw [opened, ended]
  rfl

theorem exec_replyBuilt {s : State} {a : Answer} (state : s.link.state = .handling) (answer : s.link.answer = some a)
    (seen : List Byte) : exec (.replyBuilt seen) s = .next { s with
      link := (s.link.noteDrop seen).build a.code a.tag a.status a.body (a.overflow.getD s.notices.overflow) } := by
  show execReplyBuilt seen s = _
  unfold execReplyBuilt
  rw [state, answer]

/-- Settles O9: whether the open window's frame has set DROPPED is all that varies. -/
theorem replyIsBuiltWithItsFlags : Obligations.ReplyIsBuiltWithItsFlags := by
  intro seen s a state answer
  have run := exec_replyBuilt state answer seen
  refine ⟨fun quiet => ⟨_, run, rfl, ?_⟩, fun opened two whole => ⟨_, run, rfl, ?_⟩⟩
  · rw [Link.noteDrop_of_not]
    · rfl
    · refine quiet.imp_right fun short => Bool.eq_false_iff.mpr fun ended => ?_
      obtain ⟨two, whole⟩ := (frameEnded_iff seen).mp ended
      omega
  · rw [Link.noteDrop_of_ended opened ((frameEnded_iff seen).mpr ⟨two, whole⟩)]
    rfl

/-! ## The end of a window (R180, R181) -/

section
variable (s : State) (sdi : List Byte)

theorem exec_transferWindowEnd {start : LinkState} {seen : Bool} (opened : s.link.window = .opened start seen) :
    exec (.transferWindowEnd sdi) s = .next (s.endWindow start seen sdi) := by
  show execTransferWindowEnd sdi s = _
  unfold execTransferWindowEnd
  rw [opened]

/-- Before the end of a window is judged, its link is closed. -/
def State.windowClosed (start : LinkState) : State := { s with link := s.link.closeWindow start sdi.length }

theorem State.endWindow_handling (seen : Bool) : s.endWindow .handling seen sdi
    = { s with link := (s.link.closeWindow .handling sdi.length).dropFrame seen sdi } := rfl

theorem State.endWindow_seen {start : LinkState} (other : start ≠ .handling) : s.endWindow start true sdi
    = { s with link := (s.link.closeWindow start sdi.length).endTaken } := by
  cases start with
  | handling => exact absurd rfl other
  | idle => rfl
  | replyReady => rfl

theorem State.endWindow_unseen {start : LinkState} (other : start ≠ .handling) : s.endWindow start false sdi
    = (s.windowClosed sdi start).judgeFrame sdi := by
  cases start with
  | handling => exact absurd rfl other
  | idle => rfl
  | replyReady => rfl

end

theorem sdoBytes_none (n : Nat) : sdoBytes none n = List.replicate n 0xFF := by
  simp [sdoBytes]

theorem sdoBytes_shifted (l : Link) (start : LinkState) (n : Nat) : sdoBytes (l.shifted start) n
    = ((if start = LinkState.replyReady then (l.reply.map Reply.frame).getD [] else []) ++ List.replicate n 0xFF).take n := by
  unfold sdoBytes Link.shifted
  split <;> rfl

theorem Link.closeWindow_idle (l : Link) (n : Nat) :
    l.closeWindow .idle n = { l with window := .closed, sdo := List.replicate n 0xFF } := by
  rw [← sdoBytes_none]
  rfl

theorem Link.closeWindow_handling (l : Link) (n : Nat) :
    l.closeWindow .handling n = { l with window := .closed, sdo := List.replicate n 0xFF } := by
  rw [← sdoBytes_none]
  rfl

/-- A reply that has been shifted out is consumed (R180). -/
theorem Link.closeWindow_replyReady {l : Link} (waits : l.state = .replyReady) (n : Nat) : l.closeWindow .replyReady n
    = { l with
        window := .closed, state := .idle, reply := none
        sdo := (((l.reply.map Reply.frame).getD []) ++ List.replicate n 0xFF).take n } :=
  if_pos ⟨rfl, waits⟩

/-- What the end of a window writes, whatever the link's state, but for the state and the reply. -/
theorem Link.closeWindow_eq (l : Link) (start : LinkState) (n : Nat) : l.closeWindow start n
    = { l with
        window := .closed, sdo := sdoBytes (l.shifted start) n
        state := (l.closeWindow start n).state, reply := (l.closeWindow start n).reply } := by
  unfold Link.closeWindow
  dsimp only
  split <;> rfl

/-! ## The frame of a request (R181, 10.8) -/

section
variable (code tag : Byte) (body extra : List Byte)

theorem requestFrame_eq : requestFrame code tag body
    = 0xD1 :: byteOf body.length :: code :: tag :: (body ++ crcTail ([byteOf body.length, code, tag] ++ body)) := by
  simp [requestFrame]

theorem length_crcTail (bytes : List Byte) : (crcTail bytes).length = 2 := rfl

theorem length_requestFrame : (requestFrame code tag body ++ extra).length = body.length + 6 + extra.length := by
  rw [requestFrame_eq]
  simp only [List.length_append, List.length_cons, length_crcTail]

variable {body} (short : body.length ≤ 80)
include short

/-- The bytes of a frame with its extra bytes are judged good, and give the code, the tag and the body back. -/
theorem frameGood_requestFrame : frameGood (requestFrame code tag body ++ extra) = true
    ∧ frameBody (requestFrame code tag body ++ extra) = body := by
  have length : (byteOf body.length).toNat = body.length := by rw [toNat_byteOf, Nat.mod_eq_of_lt (by omega)]
  have total := length_requestFrame code tag body extra
  have covered : frameCovered (requestFrame code tag body ++ extra) = [byteOf body.length, code, tag] ++ body := by
    rw [requestFrame_eq]
    unfold frameCovered byteAt
    simp only [List.cons_append, List.getElem?_cons_succ, List.getElem?_cons_zero, Option.getD_some, length,
      List.drop_succ_cons, List.drop_zero, List.append_assoc]
    rw [Nat.add_comm 3, List.take_succ_cons, List.take_succ_cons, List.take_succ_cons, List.take_left]
    rfl
  have size : byteAt (requestFrame code tag body ++ extra) 1 = byteOf body.length := by rw [requestFrame_eq]; rfl
  have head : byteAt (requestFrame code tag body ++ extra) 0 = 0xD1 := by rw [requestFrame_eq]; rfl
  have tail : ((requestFrame code tag body ++ extra).drop (4 + body.length)).take 2
      = crcTail ([byteOf body.length, code, tag] ++ body) := by
    rw [requestFrame_eq, Nat.add_comm 4]
    simp only [List.cons_append, List.drop_succ_cons, List.append_assoc]
    rw [List.drop_left]
    exact List.take_left' (length_crcTail _)
  have ended : frameEnded (requestFrame code tag body ++ extra) = true := by
    rw [frameEnded, frameSize, size, length, total, decide_eq_true_eq]
    omega
  refine ⟨?_, ?_⟩
  · rw [frameGood, ended, head, size, length, covered, tail]
    simp [short]
  · rw [frameBody, size, length, requestFrame_eq]
    simp only [List.cons_append, List.drop_succ_cons, List.drop_zero, List.append_assoc]
    exact List.take_left

theorem State.judgeFrame_requestFrame (s : State) :
    s.judgeFrame (requestFrame code tag body ++ extra) = s.takeRequest code tag body := by
  obtain ⟨good, same⟩ := frameGood_requestFrame code tag extra short
  have some : requestFrame code tag body ++ extra ≠ [] := by rw [requestFrame_eq]; simp
  rw [State.judgeFrame, if_neg some, if_pos good, same, requestFrame_eq]
  rfl

end

/-! ## Requests that the frame checks refuse (R183) -/

theorem noBody_of_length {body : List Byte} {i : Instr} (h : body.length ≠ 0) :
    Decode.noBody body i = .error .badLength := by
  unfold Decode.noBody
  split
  · exact absurd rfl h
  · rfl

theorem oneByte_of_length {body : List Byte} {f : Byte → Instr} (h : body.length ≠ 1) :
    Decode.oneByte body f = .error .badLength := by
  unfold Decode.oneByte
  split
  · exact absurd rfl h
  · rfl

theorem entryBody_of_length {body : List Byte} {f : EntryBytes → Instr} (h : body.length ≠ 15) :
    Decode.entryBody body f = .error .badLength := by
  unfold Decode.entryBody
  split
  · exact absurd rfl h
  · rfl

theorem setSlotPolicy_of_length {tag : Byte} {body : List Byte} (h : body.length ≠ 6) :
    Decode.setSlotPolicy tag body = .error .badLength := by
  unfold Decode.setSlotPolicy
  split
  · exact absurd rfl h
  · rfl

theorem locate_of_length {tag : Byte} {body : List Byte} (h : body.length ≠ 2) :
    Decode.locate tag body = .error .badLength := by
  unfold Decode.locate
  split
  · exact absurd rfl h
  · rfl

theorem imageRead_of_length {tag : Byte} {body : List Byte} (h : body.length ≠ 5) :
    Decode.imageRead tag body = .error .badLength := by
  unfold Decode.imageRead
  split
  · exact absurd rfl h
  · rfl

theorem safeOff_of_length {tag : Byte} {body : List Byte} (h : body.length ≠ 2) :
    Decode.safeOff tag body = .error .badLength := by
  unfold Decode.safeOff
  split
  · exact absurd rfl h
  · rfl

theorem imageWrite_of_length {tag : Byte} {body : List Byte} (h : body.length ∉ (List.range 64).map (· + 4)) :
    Decode.imageWrite tag body = .error .badLength := by
  unfold Decode.imageWrite
  split
  · rename_i x o1 o0 data
    rw [if_neg]
    rintro ⟨low, high⟩
    refine h (List.mem_map.mpr ⟨data.length - 1, List.mem_range.mpr (by omega), ?_⟩)
    simp only [List.length_cons]
    omega
  · rfl

theorem isClassRowId_iff (id : Byte) : isClassRowId id = true ↔ 0x18 ≤ id.toNat ∧ id.toNat ≤ 0x1F := by
  rw [isClassRowId, Bool.and_eq_true, decide_eq_true_eq, decide_eq_true_eq]

theorem setParameter_of_length {tag : Byte} {body : List Byte}
    (h : body.length ∉ [3, 5] ∨ body.length ≠ if 0x18 ≤ (body.headD 0).toNat ∧ (body.headD 0).toNat ≤ 0x1F then 5 else 3) :
    Decode.setParameter tag body = .error .badLength := by
  unfold Decode.setParameter
  split
  · rename_i id v1 v0
    rw [if_pos]
    by_contra single
    rcases h with h | h
    · exact absurd (by simp) h
    · exact absurd (if_neg fun row => single ((isClassRowId_iff id).mpr row)).symm h
  · rename_i id v1 v0 w1 w0
    rw [if_neg]
    intro row
    rcases h with h | h
    · exact absurd (by simp) h
    · exact absurd (if_pos ((isClassRowId_iff id).mp row)).symm h
  · rfl

/-- A code that the table of 10.8 does not give is refused (R183 check 1). -/
theorem request_of_unknown {code : Byte} (h : ∀ p ∈ requestBodies, p.1 ≠ code.toNat) (tag : Byte) (body : List Byte) :
    Decode.request code tag body = .error .unknownRequest := by
  simp only [requestBodies, List.forall_mem_cons, List.not_mem_nil, false_implies, implies_true, and_true] at h
  unfold Decode.request
  split
  case h_30 => rfl
  all_goals (exfalso; omega)

/-- A body whose length is not that of its code is refused (R183 check 2). -/
theorem request_of_wrongLength {code : Byte} {body : List Byte} (h : WrongLength code body) (tag : Byte) :
    Decode.request code tag body = .error .badLength := by
  obtain ⟨⟨n, lengths⟩, listed, named, wrong⟩ := h
  have isCode : code = byteOf n := by rw [show n = code.toNat from named, byteOf_toNat]
  subst isCode
  have only : byteOf n ≠ 0x04 → body.length ∉ lengths := fun other => wrong.resolve_right fun w => other w.1
  simp only [requestBodies, List.mem_cons, List.not_mem_nil, or_false, Prod.mk.injEq] at listed
  rcases listed with ⟨rfl, rfl⟩ | ⟨rfl, rfl⟩ | ⟨rfl, rfl⟩ | ⟨rfl, rfl⟩ | ⟨rfl, rfl⟩ | ⟨rfl, rfl⟩ | ⟨rfl, rfl⟩ | ⟨rfl, rfl⟩ | ⟨rfl, rfl⟩ | ⟨rfl, rfl⟩ | ⟨rfl, rfl⟩ | ⟨rfl, rfl⟩ | ⟨rfl, rfl⟩ | ⟨rfl, rfl⟩ | ⟨rfl, rfl⟩ | ⟨rfl, rfl⟩ | ⟨rfl, rfl⟩ | ⟨rfl, rfl⟩ | ⟨rfl, rfl⟩ | ⟨rfl, rfl⟩ | ⟨rfl, rfl⟩ | ⟨rfl, rfl⟩ | ⟨rfl, rfl⟩ | ⟨rfl, rfl⟩ | ⟨rfl, rfl⟩ | ⟨rfl, rfl⟩ | ⟨rfl, rfl⟩ | ⟨rfl, rfl⟩ | ⟨rfl, rfl⟩
  · exact noBody_of_length (by simpa using only (by decide))
  · exact oneByte_of_length (by simpa using only (by decide))
  · exact oneByte_of_length (by simpa using only (by decide))
  · exact setParameter_of_length (wrong.imp_right And.right)
  · exact oneByte_of_length (by simpa using only (by decide))
  · exact noBody_of_length (by simpa using only (by decide))
  · exact setSlotPolicy_of_length (by simpa using only (by decide))
  · exact oneByte_of_length (by simpa using only (by decide))
  · exact oneByte_of_length (by simpa using only (by decide))
  · exact oneByte_of_length (by simpa using only (by decide))
  · exact oneByte_of_length (by simpa using only (by decide))
  · exact locate_of_length (by simpa using only (by decide))
  · exact oneByte_of_length (by simpa using only (by decide))
  · exact oneByte_of_length (by simpa using only (by decide))
  · exact entryBody_of_length (by simpa using only (by decide))
  · exact oneByte_of_length (by simpa using only (by decide))
  · exact oneByte_of_length (by simpa using only (by decide))
  · exact entryBody_of_length (by simpa using only (by decide))
  · exact oneByte_of_length (by simpa using only (by decide))
  · exact noBody_of_length (by simpa using only (by decide))
  · exact noBody_of_length (by simpa using only (by decide))
  · exact noBody_of_length (by simpa using only (by decide))
  · exact imageRead_of_length (by simpa using only (by decide))
  · exact imageWrite_of_length (only (by decide))
  · exact noBody_of_length (by simpa using only (by decide))
  · exact oneByte_of_length (by simpa using only (by decide))
  · exact noBody_of_length (by simpa using only (by decide))
  · exact noBody_of_length (by simpa using only (by decide))
  · exact safeOff_of_length (by simpa using only (by decide))

/-! ## The frame that a window carries -/

/-- A request that the frame checks refuse is answered, and the link is HANDLING. -/
theorem State.windowClosed_reply (s : State) (start : LinkState) (sdi : List Byte) (code tag : Byte) (st : Status) (data : List Byte) :
    (s.windowClosed sdi start).reply code tag st data = { s with link := { s.link with
      window := .closed, state := .handling, reply := none, answer := some ⟨code, tag, st, data, none⟩
      sdo := ((if start = LinkState.replyReady then (s.link.reply.map Reply.frame).getD [] else [])
        ++ List.replicate sdi.length 0xFF).take sdi.length } } := by
  rw [← sdoBytes_shifted]
  unfold State.windowClosed State.reply State.answerWith
  rw [Link.closeWindow_eq]
  rfl

section
variable {s : State} {start : LinkState} (opened : s.link.window = .opened start false) (other : start ≠ .handling)
include opened other

/-- A window that carries a good frame takes its request at its end. -/
theorem exec_transferWindowEnd_requestFrame (code tag : Byte) {body : List Byte} (extra : List Byte)
    (short : body.length ≤ 80) : exec (.transferWindowEnd (requestFrame code tag body ++ extra)) s
      = .next ((s.windowClosed (requestFrame code tag body ++ extra) start).takeRequest code tag body) := by
  rw [exec_transferWindowEnd s _ opened, State.endWindow_unseen s _ other, State.judgeFrame_requestFrame _ _ _ short]

/-- It runs the request that the frame carries. -/
theorem exec_transferWindowEnd_encode {i : Instr} {f : Decode.Frame} (wf : i.WellFormed) (h : Decode.encode i = some f)
    (extra : List Byte) : exec (.transferWindowEnd (requestFrame f.code f.tag f.body ++ extra)) s
      = exec i (s.windowClosed (requestFrame f.code f.tag f.body ++ extra) start) := by
  rw [exec_transferWindowEnd_requestFrame opened other _ _ _ (length_body_of_encode wf h), State.takeRequest,
    request_of_encode wf h, exec_of_encode h]

end

/-- The answer that a request brings is taken by the link as the link stands. -/
theorem exec_answer {i : Instr} {f : Decode.Frame} (h : Decode.encode i = some f) (s : State) :
    ∃ t a, exec i s = .next t ∧ a.code = f.code ∧ a.tag = f.tag ∧ t.link = s.link.take a := by
  obtain ⟨u, a, -, link, e, code, tag, -⟩ := serves_serve h s
  exact ⟨_, a, exec_of_encode h s, code, tag, by rw [e, ← link]⟩

/-- Settles O7: the frame's bytes give the request back, and the link closes its window before the request is served. -/
theorem takenFrameRunsItsRequest : Obligations.TakenFrameRunsItsRequest := by
  intro s
  refine ⟨fun i f extra wf h => ?_, fun sdi opened => ?_, fun sdi r opened waits => ?_, ?_⟩
  · have bytes := length_requestFrame f.code f.tag f.body extra
    refine ⟨fun opened => ?_, fun r opened waits reply => ?_, fun start x opened other => ?_, fun closed => ?_⟩
    · rw [exec_transferWindowEnd_encode opened (by decide) wf h, State.windowClosed, Link.closeWindow_idle, bytes]
    · rw [exec_transferWindowEnd_encode opened (by decide) wf h, State.windowClosed, Link.closeWindow_replyReady waits,
        bytes, reply]
      rfl
    · obtain ⟨t, a, run, code, tag, link⟩ := exec_answer h s
      refine ⟨t, a, run, code, tag, ?_⟩
      rcases s.link.take_cases a with ⟨start', x', opened', -, e⟩ | ⟨handling, -⟩
      · rw [opened] at opened'
        cases opened'
        rw [link, e]
      · exact absurd (handling _ _ opened) other
    · obtain ⟨t, a, run, code, tag, link⟩ := exec_answer h s
      refine ⟨t, a, run, code, tag, ?_⟩
      rcases s.link.take_cases a with ⟨start', x', opened', -⟩ | ⟨-, e⟩
      · rw [closed] at opened'
        cases opened'
      · rw [link, e]
  · rw [exec_transferWindowEnd s _ opened, State.endWindow_seen s _ (by decide), Link.closeWindow_idle]
    rfl
  · rw [exec_transferWindowEnd s _ opened, State.endWindow_seen s _ (by decide), Link.closeWindow_eq, sdoBytes_shifted,
      waits]
    rfl
  · intro start code tag body extra opened other short
    refine ⟨fun unknown => ?_, fun wrong => ?_⟩
    · rw [exec_transferWindowEnd_requestFrame opened other code tag extra short, State.takeRequest,
        request_of_unknown unknown]
      exact congrArg _ (State.windowClosed_reply ..)
    · rw [exec_transferWindowEnd_requestFrame opened other code tag extra short, State.takeRequest,
        request_of_wrongLength wrong]
      exact congrArg _ (State.windowClosed_reply ..)

/-- A frame that is cut short or has a wrong marker, length or check value is not good. -/
theorem frameGood_eq_false {sdi : List Byte}
    (bad : (sdi[0]?).getD 0 ≠ 0xD1 ∨ 80 < ((sdi[1]?).getD 0).toNat ∨ sdi.length < 6 + ((sdi[1]?).getD 0).toNat
      ∨ (sdi.drop (4 + ((sdi[1]?).getD 0).toNat)).take 2
        ≠ crcTail ((sdi.drop 1).take (3 + ((sdi[1]?).getD 0).toNat))) : frameGood sdi = false := by
  refine Bool.eq_false_iff.mpr fun good => ?_
  simp only [frameGood, Bool.and_eq_true, beq_iff_eq, decide_eq_true_eq, frameEnded_iff] at good
  obtain ⟨⟨⟨⟨-, whole⟩, marker⟩, length⟩, check⟩ := good
  rcases bad with h | h | h | h
  · exact h marker
  · exact absurd length (Nat.not_le.mpr h)
  · omega
  · exact h check

/-- Settles O8: no frame, a bad frame, and a frame that comes early. -/
theorem untakenFramesChangeOnlyTheLink : Obligations.UntakenFramesChangeOnlyTheLink := by
  intro sdi s
  refine ⟨fun start opened other some bad => ?_, fun opened => ?_, fun opened waits => ?_, fun opened some => ?_,
    fun early => ?_⟩
  · refine ⟨_, exec_transferWindowEnd s sdi opened, ?_⟩
    have judged : s.endWindow start false sdi = (s.windowClosed sdi start).frameError sdi := by
      rw [State.endWindow_unseen s sdi other, State.judgeFrame, if_neg some, frameGood_eq_false bad]
      rfl
    rw [judged, State.windowClosed, Link.closeWindow_eq, sdoBytes_shifted]
    exact ⟨rfl, rfl, rfl, rfl, rfl, rfl⟩
  · rw [exec_transferWindowEnd s _ opened, State.endWindow_unseen s _ (by decide), State.windowClosed,
      Link.closeWindow_idle]
    rfl
  · rw [exec_transferWindowEnd s _ opened, State.endWindow_unseen s _ (by decide), State.windowClosed,
      Link.closeWindow_replyReady waits]
    rfl
  · rw [exec_transferWindowEnd s _ opened, State.endWindow_handling, Link.closeWindow_handling, Link.dropFrame,
      if_pos ⟨some, rfl⟩]
  · rcases early with opened | ⟨opened, rfl⟩
    · rw [exec_transferWindowEnd s _ opened, State.endWindow_handling, Link.closeWindow_handling, Link.dropFrame,
        if_neg (by simp)]
    · rw [exec_transferWindowEnd s _ opened, State.endWindow_handling, Link.closeWindow_handling, Link.dropFrame,
        if_neg (by simp)]

end Sys2Proof.Machine

/-! What a refused request leaves, and the values that are refused outside SAFE_OFF (R183). -/

namespace Sys2Proof.Machine

open Sys2Proof Sys2Proof.Safety

set_option Elab.async false

/-! ## Values outside their list -/

section
variable {x : Byte}

theorem ne_of_lt_toNat {y : Byte} (h : y.toNat < x.toNat) : x ≠ y := by
  rintro rfl
  exact Nat.lt_irrefl _ h

theorem policyOfCode_of_gt (h : 3 < x.toNat) : policyOfCode x = none := by
  have ne : ∀ y : Byte, y.toNat ≤ 3 → x ≠ y := fun y le => ne_of_lt_toNat (Nat.lt_of_le_of_lt le h)
  rw [policyOfCode, if_neg (ne 0 (by decide)), if_neg (ne 1 (by decide)), if_neg (ne 2 (by decide)),
    if_neg (ne 3 (by decide))]

theorem triggerModeOfCode_of_gt (h : 3 < x.toNat) : triggerModeOfCode x = none := by
  have ne : ∀ y : Byte, y.toNat ≤ 3 → x ≠ y := fun y le => ne_of_lt_toNat (Nat.lt_of_le_of_lt le h)
  rw [triggerModeOfCode, if_neg (ne 0 (by decide)), if_neg (ne 1 (by decide)), if_neg (ne 2 (by decide)),
    if_neg (ne 3 (by decide))]

theorem inputPolicyOfCode_of_gt (h : 1 < x.toNat) : inputPolicyOfCode x = none := by
  have ne : ∀ y : Byte, y.toNat ≤ 1 → x ≠ y := fun y le => ne_of_lt_toNat (Nat.lt_of_le_of_lt le h)
  rw [inputPolicyOfCode, if_neg (ne 0 (by decide)), if_neg (ne 1 (by decide))]

theorem flagOfCode_of_gt (h : 1 < x.toNat) : flagOfCode x = none := by
  have ne : ∀ y : Byte, y.toNat ≤ 1 → x ≠ y := fun y le => ne_of_lt_toNat (Nat.lt_of_le_of_lt le h)
  rw [flagOfCode, if_neg (ne 0 (by decide)), if_neg (ne 1 (by decide))]

theorem policyFieldsOf_of_bad {p q ip tm an : Byte}
    (h : 3 < p.toNat ∨ 3 < q.toNat ∨ 1 < ip.toNat ∨ 3 < tm.toNat ∨ 1 < an.toNat) : policyFieldsOf p q ip tm an = none := by
  unfold policyFieldsOf
  rcases h with h | h | h | h | h
  · rw [policyOfCode_of_gt h]; rfl
  · simp [Nat.not_le.mpr h]
  · rw [inputPolicyOfCode_of_gt h]
    cases policyOfCode p <;> rfl
  · rw [triggerModeOfCode_of_gt h]
    cases policyOfCode p <;> cases inputPolicyOfCode ip <;> rfl
  · rw [flagOfCode_of_gt h]
    cases policyOfCode p <;> cases inputPolicyOfCode ip <;> cases triggerModeOfCode tm <;> rfl

theorem paramOf_of_unknown (h : knownParameter x = false) : paramOf x = none := by
  simp only [knownParameter, List.contains_eq_mem, List.mem_cons, List.not_mem_nil, or_false, decide_eq_false_iff_not,
    not_or] at h
  rw [paramOf, dif_neg (by omega)]
  simp only [Option.map_eq_none_iff, List.find?_eq_none, paramTable, List.forall_mem_cons, List.not_mem_nil,
    false_implies, implies_true, and_true, beq_iff_eq]
  omega

end

/-! ## Entry bodies (R116) -/

section
variable {b : EntryBytes}

theorem of_entryKeyOf {key : EntryKey} (h : entryKeyOf b = some key) :
    b.typeCode.toNat ≠ 0 ∧ b.typeCode.toNat ≤ 4
      ∧ (b.typeCode.toNat = 4 → b.placeSlot.toNat ≤ 11 ∧ key.isPlaced = true) := by
  unfold entryKeyOf at h
  split at h
  · rename_i e; rw [e]; exact ⟨by decide, by decide, fun four => absurd four (by decide)⟩
  · split at h
    · rename_i e; rw [e]; exact ⟨by decide, by decide, fun four => absurd four (by decide)⟩
    · split at h
      · rename_i e; rw [e]; exact ⟨by decide, by decide, fun four => absurd four (by decide)⟩
      · split at h
        · rename_i e
          rcases slotOf_cases b.placeSlot with ⟨-, none⟩ | ⟨le, i, some⟩
          · rw [none] at h; cases h
          · rw [some] at h
            cases h
            rw [e]
            exact ⟨by decide, by decide, fun _ => ⟨by omega, rfl⟩⟩
        · cases h

theorem of_actionOfCode {x : Byte} {a : Action} (h : actionOfCode x = some a) :
    x.toNat ≤ 2 ∧ (x.toNat = 2 → a = .deny) := by
  unfold actionOfCode at h
  split at h
  · rename_i e; rw [e]; exact ⟨by decide, fun two => absurd two (by decide)⟩
  · split at h
    · rename_i e; rw [e]; exact ⟨by decide, fun two => absurd two (by decide)⟩
    · split at h
      · cases h; rename_i e; rw [e]; decide
      · cases h

theorem of_pinOfBody {a : Action} {placed : Bool} {pin : Option Slot} (h : pinOfBody b a placed = some pin) :
    b.pinSlot.toNat = 255 ∨ (a ≠ .deny ∧ placed = false ∧ b.pinSlot.toNat ≤ 11) := by
  unfold pinOfBody at h
  split at h
  · rename_i e; rw [e]; exact .inl (by decide)
  · split at h
    · cases h
    · rename_i free
      rcases slotOf_cases b.pinSlot with ⟨-, none⟩ | ⟨le, -⟩
      · rw [none] at h; cases h
      · exact .inr ⟨fun e => free (.inl e), Bool.eq_false_iff.mpr fun e => free (.inr e), by omega⟩

theorem of_reserveOfBody {a : Action} {reserve : Option Nat} (h : reserveOfBody b a = some reserve) :
    b.reserve.toNat = 65535 ∨ (a ≠ .deny ∧ b.reserve.toNat ≤ 6000) := by
  unfold reserveOfBody at h
  split at h
  · rename_i e; rw [e]; exact .inl (by decide)
  · split at h
    · cases h
    · rename_i free
      exact .inr ⟨fun e => free (.inl e), by omega⟩

theorem entryBodyOf_of_bad (h : badEntry b = true) : entryBodyOf b = none := by
  unfold entryBodyOf
  cases hk : entryKeyOf b with
  | none => rfl
  | some key =>
    cases ha : actionOfCode b.action with
    | none => rfl
    | some action =>
      cases hp : pinOfBody b action key.isPlaced with
      | none => simp [hp]
      | some pin =>
        cases hr : reserveOfBody b action with
        | none => simp [hr]
        | some reserve =>
          obtain ⟨typed, types, placed⟩ := of_entryKeyOf hk
          obtain ⟨actions, deny⟩ := of_actionOfCode ha
          have pinned := of_pinOfBody hp
          have reserved := of_reserveOfBody hr
          have service : 1 < b.service.toNat := by
            rw [badEntry, decide_eq_true_eq] at h
            by_contra service
            rcases h with h | h | h | h | ⟨type, h⟩ | ⟨pin, h | h | h⟩ | ⟨reserve, h | h⟩
            · exact typed h
            · omega
            · omega
            · exact service h
            · exact absurd (placed type).1 (by omega)
            · omega
            · exact (pinned.resolve_left pin).1 (deny h)
            · exact absurd (placed h).2 (Bool.eq_false_iff.mp (pinned.resolve_left pin).2.1)
            · omega
            · exact (reserved.resolve_left reserve).1 (deny h)
          simp [flagOfCode_of_gt service]

end

/-! ## The refusals outside SAFE_OFF -/

/-- Outside SAFE_OFF a value outside its list or range is refused BAD_VALUE. -/
theorem serve_of_carriesBadValue {i : Instr} {f : Decode.Frame} (h : Decode.encode i = some f) (s : State)
    (wf : i.WellFormed) (on : s.safeOff = false) (bad : carriesBadValue i = true) :
    serve i s = s.reply f.code f.tag .badValue [] := by
  cases i with
  | setSlotPolicy t x p q ip tm an =>
    cases h
    obtain ⟨le, bad⟩ := of_decide_eq_true bad
    rcases slotOf_cases x with ⟨gt, -⟩ | ⟨-, k, some⟩
    · omega
    · simp [serve, requestSetSlotPolicy, some, on, policyFieldsOf_of_bad bad]
  | setParameter t id v w =>
    cases h
    cases w with
    | some w => cases bad
    | none =>
      have single : isClassRowId id = false := by simpa [Instr.WellFormed, Instr.wellFormed] using wf
      have unknown : knownParameter id = false := by simpa [carriesBadValue] using bad
      simp [serve, requestSetParameter, single, on, paramOf_of_unknown unknown]
  | getParameter t id =>
    cases h
    have unknown : knownParameter id = false := by simpa [carriesBadValue] using bad
    simp [serve, requestGetParameter, paramOf_of_unknown unknown]
  | fetchNotices t n =>
    cases h
    rw [serve, requestFetchNotices, if_pos (of_decide_eq_true bad)]
  | directoryAdd t b => cases h; simp [serve, requestDirectoryAdd, on, entryBodyOf_of_bad bad]
  | directoryFind t b =>
    cases h
    have bad := of_decide_eq_true bad
    cases hk : entryKeyOf b with
    | none => simp [serve, requestDirectoryFind, on, hk]
    | some key =>
      obtain ⟨typed, types, placed⟩ := of_entryKeyOf hk
      rcases bad with h | h | ⟨type, h⟩
      · exact absurd h typed
      · omega
      · exact absurd (placed type).1 (by omega)
  | directoryDelete t k => cases h; simp [serve, requestDirectoryDelete, on, indexOf_of_gt (of_decide_eq_true bad)]
  | directoryRead t k => cases h; simp [serve, requestDirectoryRead, on, indexOf_of_gt (of_decide_eq_true bad)]
  | directoryKeep t k => cases h; simp [serve, requestDirectoryKeep, on, indexOf_of_gt (of_decide_eq_true bad)]
  | _ => cases bad

/-- Settles O35: every request is served as `State.Serves` says, and the refusals are as their rules place them. -/
theorem refusedRequestsChangeNothing : Obligations.RefusedRequestsChangeNothing := by
  refine fun i f s h => ⟨?_, fun st wf first => ?_, fun wf on bad => ?_⟩
  · obtain ⟨u, a, -, link, e, code, tag, refused⟩ := serves_serve h s
    refine ⟨_, a, exec_of_encode h s, by rw [e, ← link], code, tag, fun status => ?_⟩
    obtain ⟨rfl, plain⟩ := refused status
    refine ⟨by rw [e]; rfl, ?_⟩
    rw [← code]
    exact plain
  · exact ⟨_, exec_of_encode h s, onlyLink_and_answers_of_eq_reply (serve_of_refusedBeforeSafeOff h s wf first)⟩
  · exact ⟨_, exec_of_encode h s, onlyLink_and_answers_of_eq_reply (serve_of_carriesBadValue h s wf on bad)⟩

end Sys2Proof.Machine

/-! The passing of time, the values after hard reset, and the layouts of the report bodies (10.8). -/

namespace Sys2Proof.Machine

open Sys2Proof Sys2Proof.Safety

set_option Elab.async false

/-- Settles O2: the state that one microsecond makes is written out. -/
theorem idleStepPassesOneMicrosecond : Obligations.IdleStepPassesOneMicrosecond := by
  intro s empty
  have run : step s = .next (tick s) := by unfold step; rw [empty]
  have slot : ∀ i, (tick s).slot i = (s.slot i).tick := fun i => State.slot_mapSlots s _ i
  refine ⟨tick s, run, rfl, rfl, ?_, rfl, rfl, fun i => ?_⟩
  · show { s.scan with period := s.scan.period.tick } = _
    cases s.scan.period <;> rfl
  · simp only [State.scanOf_eq, State.ctx_eq, State.mon_eq, State.railOf_eq, State.det_eq, slot]
    refine ⟨rfl, rfl, rfl, rfl, ?_⟩
    show (s.slot i).detector.tick = _
    unfold Detector.tick
    cases (s.slot i).detector.qualTimer <;> rfl

/-- Settles O5: each value is read off the reset values. -/
theorem resetValuesAreTheSpecs : Obligations.ResetValuesAreTheSpecs := by
  have slot := slot_reset
  refine ⟨fun i => ?_, fun i => ?_, fun i => ?_, fun i => ?_, fun i => ?_, rfl, rfl, rfl, rfl, rfl, rfl,
    ⟨rfl, rfl, rfl, rfl, rfl, rfl, rfl, rfl, rfl, rfl, rfl, rfl, rfl, fun i => rfl⟩, rfl, entry_reset, rfl, rfl, rfl,
    fun a => ⟨rfl, rfl⟩, rfl, rfl, rfl, rfl, rfl, rfl, rfl, by decide, rfl, rfl, rfl, rfl⟩
  · have line : State.reset.ledLine i = false := by revert i; decide
    simp only [State.mon_eq, slot]
    exact ⟨rfl, rfl, rfl, rfl, rfl, rfl, rfl, rfl, rfl, rfl, rfl, line⟩
  · rw [State.ctx_eq, slot]; rfl
  · rw [State.railOf_eq, slot]; rfl
  · simp only [State.det_eq, slot]
    exact ⟨rfl, rfl, rfl, rfl, rfl, rfl, rfl, rfl, rfl⟩
  · rw [State.scanOf_eq, slot]; rfl

end Sys2Proof.Machine

/-! The layouts of the report bodies (10.8): each body is cut into blocks of known length. -/

namespace Sys2Proof.Machine

open Sys2Proof Sys2Proof.Safety

set_option Elab.async false

/-! ## Blocks -/

section
variable {α β : Type} {n : Nat} {f : α → List β}

theorem length_flatMap_of_const (h : ∀ a, (f a).length = n) (l : List α) : (l.flatMap f).length = n * l.length := by
  induction l with
  | nil => rfl
  | cons a l ih => rw [List.flatMap_cons, List.length_append, h, ih, List.length_cons, Nat.mul_succ, Nat.add_comm]

/-- The block of an element among blocks of one length. -/
theorem flatMap_block (h : ∀ a, (f a).length = n) {l : List α} {k : Nat} {a : α} (at_ : l[k]? = some a) :
    ((l.flatMap f).drop (n * k)).take n = f a := by
  induction l generalizing k with
  | nil => cases at_
  | cons b l ih =>
    rw [List.flatMap_cons]
    cases k with
    | zero =>
      cases at_
      rw [Nat.mul_zero, List.drop_zero, List.take_left' (h a)]
    | succ k =>
      rw [Nat.mul_succ, Nat.add_comm, ← List.drop_drop, List.drop_left' (h b)]
      exact ih at_

/-- The block of an element among blocks of one length, with more bytes after them. -/
theorem flatMap_block_append (h : ∀ a, (f a).length = n) {l : List α} {k : Nat} {a : α} (at_ : l[k]? = some a)
    (rest : List β) : ((l.flatMap f ++ rest).drop (n * k)).take n = f a := by
  have inside : n * k + n ≤ (l.flatMap f).length := by
    rw [length_flatMap_of_const h, ← Nat.mul_succ]
    exact Nat.mul_le_mul_left n (List.getElem?_eq_some_iff.mp at_).1
  rw [List.drop_append_of_le_length (by omega), List.take_append_of_le_length (by rw [List.length_drop]; omega)]
  exact flatMap_block h at_

end

section
variable {β : Type} {a b : List β} {n : Nat} (h : a.length = n)
include h

theorem getElem?_second (k : Nat) : (a ++ b)[n + k]? = b[k]? := by
  rw [List.getElem?_append_right (by omega), h, Nat.add_sub_cancel_left]

theorem drop_second (k : Nat) : (a ++ b).drop (n + k) = b.drop k := by
  rw [← List.drop_drop, List.drop_left' h]

end

theorem length_windowBytes (w : Option Window) : (windowBytes w).length = 2 := by cases w <;> rfl

theorem length_identity_bytes (d : Identity) : d.bytes.length = 30 := by
  simp [Identity.bytes, be16, be32]

/-! ## STATUS -/

theorem statusBody_layout (s : State) (i : Slot) :
    s.statusBody.length = 39 ∧ s.statusBody[27 + i.val]? = some (s.ctx i).state.code := by
  refine ⟨rfl, ?_⟩
  have states : ∀ (l : List Byte), l.length = 27 →
      (l ++ allSlots.map fun i => (s.ctx i).state.code)[27 + i.val]? = some (s.ctx i).state.code := fun l h => by
    rw [getElem?_second h, List.getElem?_map, allSlots_eq_finRange, List.getElem?_eq_getElem (by simp),
      List.getElem_finRange]
    rfl
  exact states _ rfl

/-! ## SLOT INFO -/

/-- The SLOT INFO body to the end of the identity (10.8). -/
def State.slotInfoHead (s : State) (i : Slot) : List Byte :=
  let c := s.ctx i
  [byteOf i.val, c.state.code, c.policy.code, byteOf c.priority, c.inputPolicy.code, c.contact.code,
    optionCode (c.inrushClass.map fun x => byteOf x.val), flagCode c.identity.isSome]
    ++ (match c.identity with
        | none => List.replicate 30 0
        | some x => x.bytes)

/-- The SLOT INFO body after the identity (10.8). -/
def State.slotInfoRest (s : State) (i : Slot) : List Byte :=
  let c := s.ctx i
  let m := s.mon i
  let d := s.det i
  [optionCode (c.verdict.map Verdict.code), optionCode (c.matched.map fun k => byteOf k.val),
      byteOf c.inrushCommitted, byteOf c.steadyCommitted]
    ++ windowBytes c.inWindow ++ windowBytes c.outWindow
    ++ [optionCode (c.inputQuality.map InputQuality.code), optionCode (c.missCount.map byteOf),
        optionCode (c.leaving.map Leaving.code),
        optionCode (c.destination.map fun x => x.slotState.code), optionCode (c.reason.map Reason.code),
        byteOf c.attempts, optionCode (c.faultRecord.cause.map Cause.code),
        byteOf (bit c.faultRecord.hard 1 + bit c.faultRecord.more 2),
        m.triggerMode.code, flagCode m.alertNotices, flagCode m.sticky, byteOf (locateSeconds m.locate),
        d.run.code, byteOf (bit d.coarse 1 + bit d.fine 2), byteOf d.fineRun]

section
variable (s : State) (i : Slot)

theorem State.slotInfoBody_eq : s.slotInfoBody i = s.slotInfoHead i ++ s.slotInfoRest i := by
  simp only [State.slotInfoBody, State.slotInfoHead, State.slotInfoRest, List.append_assoc] <;> rfl

theorem State.length_slotInfoHead : (s.slotInfoHead i).length = 38 := by
  unfold State.slotInfoHead
  dsimp only
  rw [List.length_append]
  split
  · rfl
  · rw [length_identity_bytes]; rfl

theorem State.getElem?_slotInfoBody (k : Nat) : (s.slotInfoBody i)[38 + k]? = (s.slotInfoRest i)[k]? := by
  rw [State.slotInfoBody_eq, getElem?_second (s.length_slotInfoHead i)]

theorem State.drop_slotInfoBody (k : Nat) : (s.slotInfoBody i).drop (38 + k) = (s.slotInfoRest i).drop k := by
  rw [State.slotInfoBody_eq, drop_second (s.length_slotInfoHead i)]

theorem State.slotInfoIdentity : ((s.slotInfoBody i).drop 8).take 30 = match (s.ctx i).identity with
    | none => List.replicate 30 0
    | some x => x.bytes := by
  have block : ∀ b : List Byte, b.length = 30 → ∀ h r : List Byte, h.length = 8 →
      (((h ++ b) ++ r).drop 8).take 30 = b := fun b hb h r hh => by
    rw [List.append_assoc, List.drop_left' hh, List.take_left' hb]
  rw [State.slotInfoBody_eq, State.slotInfoHead]
  refine block _ ?_ _ _ rfl
  split
  · rfl
  · exact length_identity_bytes _

/-- The fields of SLOT INFO from the verdict on, two bytes to a window. -/
theorem State.slotInfoRest_eq : ∃ a b x y, windowBytes (s.ctx i).inWindow = [a, b]
    ∧ windowBytes (s.ctx i).outWindow = [x, y]
    ∧ s.slotInfoRest i =
      [optionCode ((s.ctx i).verdict.map Verdict.code), optionCode ((s.ctx i).matched.map fun k => byteOf k.val),
        byteOf (s.ctx i).inrushCommitted, byteOf (s.ctx i).steadyCommitted, a, b, x, y,
        optionCode ((s.ctx i).inputQuality.map InputQuality.code), optionCode ((s.ctx i).missCount.map byteOf),
        optionCode ((s.ctx i).leaving.map Leaving.code),
        optionCode ((s.ctx i).destination.map fun x => x.slotState.code), optionCode ((s.ctx i).reason.map Reason.code),
        byteOf (s.ctx i).attempts, optionCode ((s.ctx i).faultRecord.cause.map Cause.code),
        byteOf (bit (s.ctx i).faultRecord.hard 1 + bit (s.ctx i).faultRecord.more 2),
        (s.mon i).triggerMode.code, flagCode (s.mon i).alertNotices, flagCode (s.mon i).sticky,
        byteOf (locateSeconds (s.mon i).locate), (s.det i).run.code,
        byteOf (bit (s.det i).coarse 1 + bit (s.det i).fine 2), byteOf (s.det i).fineRun] := by
  have two : ∀ w : Option Window, ∃ a b, windowBytes w = [a, b] := fun w => by cases w <;> exact ⟨_, _, rfl⟩
  obtain ⟨a, b, inw⟩ := two (s.ctx i).inWindow
  obtain ⟨x, y, out⟩ := two (s.ctx i).outWindow
  refine ⟨a, b, x, y, inw, out, ?_⟩
  unfold State.slotInfoRest
  dsimp only
  rw [inw, out]
  rfl

end

/-- The seconds that remain are at least 1, and the least that cover the time (10.8). -/
theorem locateSeconds_some (l : Locate) : 1 ≤ locateSeconds (some l) ∧ l.us ≤ locateSeconds (some l) * 1000000
    ∧ (1 < locateSeconds (some l) → (locateSeconds (some l) - 1) * 1000000 < l.us) := by
  have second : Config.usPerSecond = 1000000 := rfl
  simp only [locateSeconds, second]
  omega

theorem slotInfo_layout (s : State) (i : Slot) : (s.slotInfoBody i).length = 61
      ∧ (s.slotInfoBody i).take 6 = [byteOf i.val, (s.ctx i).state.code, (s.ctx i).policy.code,
          byteOf (s.ctx i).priority, (s.ctx i).inputPolicy.code, (s.ctx i).contact.code]
      ∧ ((s.slotInfoBody i).drop 6).take 1 = [optionCode ((s.ctx i).inrushClass.map fun x => byteOf x.val)]
      ∧ (s.slotInfoBody i)[7]? = some (flagCode (s.ctx i).identity.isSome) := by
  rw [State.slotInfoBody_eq, List.length_append, s.length_slotInfoHead i]
  obtain ⟨a, b, x, y, -, -, rest⟩ := s.slotInfoRest_eq i
  rw [rest]
  exact ⟨rfl, rfl, rfl, rfl⟩

/-! ## IMAGE MAP -/

section
variable (s : State)

/-- An extent as it is sent. -/
def Extent.mapBytes (e : Extent) : List Byte := [byteOf e.start, byteOf e.length]

/-- A slot's two windows as they are sent. -/
def State.windowsBytes (s : State) (i : Slot) : List Byte :=
  windowBytes (s.ctx i).inWindow ++ windowBytes (s.ctx i).outWindow

theorem State.imageMapBody_eq : s.imageMapBody
    = byteOf s.imageIn.freeTotal :: byteOf s.imageIn.free.length :: (s.imageIn.free.flatMap Extent.mapBytes
      ++ byteOf s.imageOut.freeTotal :: byteOf s.imageOut.free.length :: (s.imageOut.free.flatMap Extent.mapBytes
        ++ allSlots.flatMap s.windowsBytes)) := by
  simp only [State.imageMapBody, Image.mapBytes, List.append_assoc, List.cons_append, List.nil_append]
  rfl

theorem length_mapBytes (e : Extent) : e.mapBytes.length = 2 := rfl

theorem State.length_windowsBytes (i : Slot) : (s.windowsBytes i).length = 4 := by
  rw [State.windowsBytes, List.length_append, length_windowBytes, length_windowBytes]

theorem length_extents (l : List Extent) : (l.flatMap Extent.mapBytes).length = 2 * l.length :=
  length_flatMap_of_const length_mapBytes l

theorem allSlots_getElem? (i : Slot) : allSlots[i.val]? = some i := by revert i; decide

end

/-- Settles O13: the bodies are read block by block. -/
theorem reportBodiesHaveTheirLayout : Obligations.ReportBodiesHaveTheirLayout := by
  refine ⟨fun s => ⟨rfl, rfl, rfl, rfl, rfl, rfl, rfl, rfl, rfl, rfl, rfl, rfl, rfl, rfl, rfl,
    fun i => (statusBody_layout s i).2⟩, fun s i => ?_, fun b users => ?_, fun n => ?_, fun s => ?_, rfl, rfl, rfl, rfl, rfl,
    rfl, rfl, rfl, rfl, rfl, rfl, rfl, rfl, rfl, rfl, rfl, rfl⟩
  · obtain ⟨length, first, cls, known⟩ := slotInfo_layout s i
    obtain ⟨a, b, x, y, inw, out, rest⟩ := s.slotInfoRest_eq i
    have identity := s.slotInfoIdentity i
    have byte : ∀ {k : Nat} {v : Byte}, (s.slotInfoRest i)[k]? = some v → (s.slotInfoBody i)[38 + k]? = some v :=
      fun h => (s.getElem?_slotInfoBody i _).trans h
    have bytes : ∀ {k n : Nat} {v : List Byte}, ((s.slotInfoRest i).drop k).take n = v →
        ((s.slotInfoBody i).drop (38 + k)).take n = v := fun h => by rw [State.drop_slotInfoBody]; exact h
    rw [rest] at byte bytes
    refine ⟨length, first, ?_, known, fun d some => ?_, fun none => ?_, byte (k := 0) rfl, bytes (k := 1) ?_,
      byte (k := 2) rfl, byte (k := 3) rfl, bytes (k := 4) inw.symm, bytes (k := 6) out.symm, byte (k := 8) rfl,
      byte (k := 9) rfl, byte (k := 10) rfl, bytes (k := 11) ?_, byte (k := 12) rfl, byte (k := 13) rfl,
      byte (k := 14) rfl, byte (k := 15) rfl, byte (k := 16) rfl, byte (k := 17) rfl, byte (k := 18) rfl,
      fun none => byte (k := 19) ?_, fun l some => ⟨locateSeconds ((s.mon i).locate), byte (k := 19) rfl, ?_⟩,
      byte (k := 20) rfl, byte (k := 21) rfl, byte (k := 22) rfl⟩
    · rw [cls]
      cases (s.ctx i).inrushClass <;> rfl
    · rw [identity, some]
    · rw [identity, none]
    · show [optionCode ((s.ctx i).matched.map fun k => byteOf k.val)] = _
      cases (s.ctx i).matched <;> rfl
    · show [optionCode ((s.ctx i).destination.map fun x => x.slotState.code)] = _
      cases (s.ctx i).destination with
      | none => rfl
      | some d => cases d <;> rfl
    · rw [none]
      rfl
    · rw [some]
      exact locateSeconds_some l
  · obtain ⟨key, action, origin, pin, service, reserve⟩ := b
    have pinned : slotCode pin = match pin with
        | none => 0xFF
        | some p => byteOf p.val := by cases pin <;> rfl
    have reserved : be16 (reserve.getD 0xFFFF) = match reserve with
        | none => [0xFF, 0xFF]
        | some r => be16 r := by cases reserve <;> rfl
    have aged : [origin.code, origin.ageCode] = match origin with
        | .static => [0, 0]
        | .learned .fresh => [1, 0]
        | .learned .seen => [1, 1] := by
      cases origin with
      | static => rfl
      | learned age => cases age <;> rfl
    cases key <;> exact ⟨rfl, rfl, rfl, aged, congrArg ([·]) pinned, rfl, reserved, rfl⟩
  · obtain ⟨kind, slot, code, data⟩ := n
    cases slot <;> rfl
  · have extents := length_extents
    have length : s.imageMapBody.length = 52 + 2 * s.imageIn.free.length + 2 * s.imageOut.free.length := by
      rw [State.imageMapBody_eq]
      simp only [List.length_cons, List.length_append, extents, length_flatMap_of_const s.length_windowsBytes]
      have twelve : allSlots.length = 12 := rfl
      omega
    rw [State.imageMapBody_eq] at length ⊢
    refine ⟨length, rfl, rfl, fun k e at_ => ?_, ?_, ?_, fun k e at_ => ?_, fun i => ?_⟩
    · rw [Nat.add_comm 2]
      exact flatMap_block_append length_mapBytes at_ _
    · rw [Nat.add_comm 2, List.getElem?_cons_succ, List.getElem?_cons_succ]
      exact getElem?_second (extents _) 0
    · rw [Nat.add_comm 3, List.getElem?_cons_succ, List.getElem?_cons_succ]
      exact getElem?_second (extents _) 1
    · rw [show 4 + 2 * s.imageIn.free.length + 2 * k = 2 * s.imageIn.free.length + (2 * k + 2) + 2 by omega,
        List.drop_succ_cons, List.drop_succ_cons, drop_second (extents _)]
      exact flatMap_block_append length_mapBytes at_ _
    · rw [show 4 + 2 * s.imageIn.free.length + 2 * s.imageOut.free.length + 4 * i.val
          = 2 * s.imageIn.free.length + (2 * s.imageOut.free.length + 4 * i.val + 2) + 2 by omega,
        List.drop_succ_cons, List.drop_succ_cons, drop_second (extents _), List.drop_succ_cons, List.drop_succ_cons,
        drop_second (extents _), flatMap_block s.length_windowsBytes (allSlots_getElem? i)]
      rfl

end Sys2Proof.Machine

/-! The small families: the effective steady budget (Section 3), the fault record (Section 9), the indicator, the alert and the
fault marks of a slot (Sections 1 and 9), and the requests that read the directory and the images. -/

namespace Sys2Proof.Machine

open Sys2Proof Sys2Proof.Safety

set_option Elab.async false

/-! ## The effective steady budget (R54) -/

theorem effectiveSteady_of_full {S v F : Nat} (L : Nat) (h : F ≤ v) : effectiveSteady S v F L = S := if_pos h

theorem effectiveSteady_of_floor {S v F L : Nat} (lt : L < F) (h : v ≤ L) : effectiveSteady S v F L = 0 := by
  rw [effectiveSteady, if_neg (by omega), if_pos h]

theorem effectiveSteady_between {S v F L : Nat} (above : L < v) (below : v < F) :
    effectiveSteady S v F L = S * (v - L) / (F - L) := by
  rw [effectiveSteady, if_neg (by omega), if_neg (by omega)]

theorem effectiveSteady_mono {S F L : Nat} (lt : L < F) {v w : Nat} (h : v ≤ w) :
    effectiveSteady S v F L ≤ effectiveSteady S w F L := by
  rcases Nat.lt_or_ge L v with above | low
  · rcases Nat.lt_or_ge w F with below | full
    · rw [effectiveSteady_between above (by omega), effectiveSteady_between (by omega) below]
      exact Nat.div_le_div_right (Nat.mul_le_mul_left S (by omega))
    · rw [effectiveSteady_of_full L full]
      exact effectiveSteady_le S v F L
  · rw [effectiveSteady_of_floor lt low]
    exact Nat.zero_le _

/-- Settles O17: the three branches of the definition, and the proportion grows with the rail. -/
theorem effectiveSteadyFollowsTheRail : Obligations.EffectiveSteadyFollowsTheRail := fun S F L lt v =>
  ⟨effectiveSteady_of_full L, effectiveSteady_of_floor lt, effectiveSteady_between, effectiveSteady_le S v F L,
    fun _ => effectiveSteady_mono lt⟩

/-! ## The fault record (R171) -/

/-- The causes that a record keeps in preference to others (R39). -/
theorem Cause.hard_eq (c : Cause) : c.hard = (c == .overcurrent || c == .powerLost) := by cases c <;> rfl

/-- A record whose cause is present keeps it, unless the first hard cause arrives. -/
theorem FaultRecord.add_of_some {c x : Cause} {hard more : Bool} : FaultRecord.add ⟨some c, hard, more⟩ x
    = ⟨some (if x.hard && !hard then x else c), hard || x.hard, true⟩ := by
  cases hard <;> cases h : x.hard <;> simp [FaultRecord.add, h]

/-- More causes on a record that has one: the first hard of them takes its place where it is soft. -/
theorem FaultRecord.foldl_add (l : List Cause) : ∀ (c : Cause) (more : Bool),
    l.foldl FaultRecord.add ⟨some c, c.hard, more⟩
      = ⟨some (((c :: l).find? Cause.hard).getD c), (c :: l).any Cause.hard, more || !l.isEmpty⟩ := by
  induction l with
  | nil => intro c more; cases h : c.hard <;> simp [h]
  | cons x l ih =>
    intro c more
    rw [List.foldl_cons, FaultRecord.add_of_some]
    cases hc : c.hard
    · cases hx : x.hard
      · have := ih c true
        rw [hc] at this
        simpa [hc, hx] using this
      · have := ih x true
        rw [hx] at this
        simpa [hc, hx] using this
    · have := ih c true
      rw [hc] at this
      simpa [hc] using this

/-- Settles O44: the first cause makes the record, whatever its flags were, and the others follow by induction. -/
theorem faultRecordKeepsTheFirstHardCause : Obligations.FaultRecordKeepsTheFirstHardCause := by
  rintro _ hard more first rest rfl
  have added : (first :: rest).foldl FaultRecord.add ⟨none, hard, more⟩
      = ⟨some (((first :: rest).find? Cause.hard).getD first), (first :: rest).any Cause.hard, !rest.isEmpty⟩ := by
    rw [List.foldl_cons]
    exact FaultRecord.foldl_add rest first false
  have isHard : Cause.hard = fun c => c == .overcurrent || c == .powerLost := funext Cause.hard_eq
  rw [added, isHard]
  exact ⟨rfl, rfl, rfl⟩

/-! ## A request that changes one slot's record and answers -/

section
variable {s : State} {i : Slot} {c tag : Byte} {st : Status} {body : List Byte} {o : Host.Outcome State Fault Refusal}

theorem slotWritten_of_eq_reply {f : SlotRecord → SlotRecord} (h : o = .next ((s.modSlot i f).reply c tag st body)) :
    ∃ t, o = .next t ∧ OnlySlotAndLink i s t ∧ t.slot i = f (s.slot i) ∧ Answers s t c tag st body :=
  ⟨_, h, onlySlotAndLink_modSlot s i f c tag st body none, State.slot_modSlot_self s i f, rfl⟩

theorem slotWritten_of_eq {f : SlotRecord → SlotRecord} (h : o = .next (s.modSlot i f)) :
    ∃ t, o = .next t ∧ OnlySlot i s t ∧ t.slot i = f (s.slot i) :=
  ⟨_, h, onlySlot_modSlot s i f, State.slot_modSlot_self s i f⟩

end

/-! ## ACK ALERT (R12) -/

section
variable {s : State} {i : Slot} (tag : Byte) (on : s.safeOff = false)
include on

theorem exec_ackAlert_of_set (h : (s.mon i).sticky = true) :
    exec (.ackAlert tag (byteOf i.val)) s = .next ((s.acknowledgeAlert i).reply 0x16 tag .ok []) := by
  change Host.Outcome.next (requestAckAlert tag (byteOf i.val) s) = _
  simp only [requestAckAlert, slotOf_byteOf, on, h, Bool.false_eq_true, if_true, if_false]

theorem exec_ackAlert_of_clear (h : (s.mon i).sticky = false) :
    exec (.ackAlert tag (byteOf i.val)) s = .next (s.reply 0x16 tag .already []) := by
  change Host.Outcome.next (requestAckAlert tag (byteOf i.val) s) = _
  simp only [requestAckAlert, slotOf_byteOf, on, h, Bool.false_eq_true, if_false]

end

/-- A slot's record as its sticky flag is set: a dark pulse of 100 ms starts or is extended (R11, R14). -/
def SlotRecord.alerted (r : SlotRecord) : SlotRecord :=
  { r with monitor := { r.monitor with sticky := true, darkPulse := some 100000 } }

/-- The notices after a sticky flag is set: CARD_ALERT is offered where alert notices are ON (R9). -/
def State.alertNoticed (s : State) (i : Slot) : Notices :=
  if (s.mon i).alertNotices = true then s.notices.offer ⟨.cardAlert, some i, 0, []⟩ else s.notices

theorem State.setSticky_eq (s : State) (i : Slot) :
    s.setSticky i = { s.modSlot i SlotRecord.alerted with notices := s.alertNoticed i } := by
  have same : ((s.modMon i fun m => { m with sticky := true, darkPulse := some Config.darkPulseUs }).mon i).alertNotices
      = (s.mon i).alertNotices := by
    rw [State.modMon_eq, State.mon_eq, State.slot_modSlot_self]
    rfl
  unfold State.setSticky State.alertNoticed
  dsimp only
  rw [same]
  split
  · rfl
  · rfl

theorem State.mon_modMon_self (s : State) (i : Slot) (f : Monitor → Monitor) : (s.modMon i f).mon i = f (s.mon i) := by
  rw [State.modMon_eq, State.mon_eq, State.slot_modSlot_self]
  rfl

theorem State.acknowledgeAlert_of_low {s : State} {i : Slot} (level : (s.mon i).triggerMode = .level)
    (low : (s.mon i).lastAlert = .low) : s.acknowledgeAlert i
      = (s.modMon i fun m => { m with sticky := false }).setSticky i := by
  unfold State.acknowledgeAlert
  exact if_pos (by rw [State.mon_modMon_self]; exact ⟨level, low⟩)

theorem State.acknowledgeAlert_of_rest {s : State} {i : Slot}
    (h : (s.mon i).triggerMode ≠ .level ∨ (s.mon i).lastAlert = .high) :
    s.acknowledgeAlert i = s.modMon i fun m => { m with sticky := false } := by
  unfold State.acknowledgeAlert
  refine if_neg ?_
  rw [State.mon_modMon_self]
  rintro ⟨level, low⟩
  rcases h with h | h
  · exact h level
  · exact absurd (low.symm.trans h) (by decide)

/-- Settles O24: the flag is cleared, and set again by the rule of every setting where the line is still LOW. -/
theorem ackAlertClearsTheStickyFlag : Obligations.AckAlertClearsTheStickyFlag := by
  intro tag i s on
  refine ⟨fun h => ?_, fun h => answered_of_eq_reply (exec_ackAlert_of_clear tag on h)⟩
  have linked : (s.acknowledgeAlert i).link = s.link := by
    unfold State.acknowledgeAlert
    dsimp only
    split
    · rw [State.setSticky_eq]
      rfl
    · rfl
  refine ⟨_, exec_ackAlert_of_set tag on h, by unfold Answers; rw [State.reply_eq, State.answerWith_link, linked],
    fun ⟨level, low⟩ => ?_, fun rest => ?_⟩
  · have set : s.acknowledgeAlert i = { s.modSlot i SlotRecord.alerted with notices := s.alertNoticed i } := by
      rw [State.acknowledgeAlert_of_low level low, State.setSticky_eq, State.alertNoticed, State.mon_modMon_self,
        State.modMon_eq, State.modSlot_modSlot]
      rfl
    rw [set]
    exact ⟨⟨fun j hj => State.slot_modSlot_ne s SlotRecord.alerted hj, rfl, rfl⟩, rfl,
      State.slot_modSlot_self s i SlotRecord.alerted, rfl⟩
  · rw [State.acknowledgeAlert_of_rest rest]
    exact ⟨onlySlotAndLink_modSlot s i _ _ _ _ _ _,
      State.slot_modSlot_self s i fun r => { r with monitor := { r.monitor with sticky := false } }⟩

/-! ## CLEAR FAULT (R173 to R175) -/

section
variable {s : State} {i : Slot} (tag : Byte) (on : s.safeOff = false)
include on

theorem exec_clearFault_slot : exec (.clearFault tag (byteOf i.val)) s = .next (s.clearSlotFault tag i) := by
  have other : byteOf i.val ≠ 0xFF := fun h => by
    have := slotOf_byteOf i
    rw [h, slotOf_ff] at this
    cases this
  change Host.Outcome.next (requestClearFault tag (byteOf i.val) s) = _
  simp only [requestClearFault, if_neg other, slotOf_byteOf, on, Bool.false_eq_true, if_false]

theorem exec_clearFault_rack : exec (.clearFault tag 0xFF) s = .next (s.clearRackMarks tag) := by
  change Host.Outcome.next (requestClearFault tag 0xFF s) = _
  simp only [requestClearFault, on, Bool.false_eq_true, if_true, if_false]

end

theorem State.slotMark_eq_true {s : State} {i : Slot} : s.slotMark i = true ↔ (s.ctx i).faultRecord.cause ≠ none := by
  unfold State.slotMark
  exact Option.isSome_iff_ne_none

theorem RackMarks.any_eq_true {m : RackMarks} : m.any = true ↔ m ≠ ⟨false, false, false⟩ := by
  obtain ⟨a, b, c⟩ := m
  cases a <;> cases b <;> cases c <;> decide

/-- FAULT is asserted exactly while a mark is set (R175). -/
theorem State.faultLine_iff (s : State) : s.faultLine = true ↔ (∃ j, (s.ctx j).faultRecord.cause ≠ none)
    ∨ s.marks.refLost = true ∨ s.marks.brownout = true ∨ s.marks.safeOff = true := by
  simp only [State.faultLine, Bool.or_eq_true, List.any_eq_true, mem_allSlots, true_and, State.slotMark_eq_true, or_assoc]

/-- Settles O25: a slot's record is emptied where its mark is set; the rack's marks become those whose conditions hold. -/
theorem clearFaultClearsMarks : Obligations.ClearFaultClearsMarks := by
  intro tag i s on
  refine ⟨fun marked => ?_, fun clear => ?_, _, exec_clearFault_rack tag on, ?_, rfl, ?_, ?_⟩
  · have cleared : s.clearSlotFault tag i = (s.modSlot i fun r => { r with
        ctx := { r.ctx with faultRecord := ⟨none, false, false⟩ } }).reply 0x17 tag .ok [] :=
      if_pos (State.slotMark_eq_true.mpr marked)
    obtain ⟨t, ran, only, slot, answers⟩ := slotWritten_of_eq_reply ((exec_clearFault_slot tag on).trans
      (congrArg _ cleared))
    refine ⟨t, ran, only, answers, ?_, slot⟩
    rw [State.slotMark, State.ctx_eq, slot]
    rfl
  · have kept : s.clearSlotFault tag i = s.reply 0x17 tag .already [] :=
      if_neg fun h => State.slotMark_eq_true.mp h clear
    exact answered_of_eq_reply ((exec_clearFault_slot tag on).trans (congrArg _ kept))
  · exact congrArg (RackMarks.mk _ _) on
  · have status : (if s.marks.any then Status.ok else Status.already)
        = if s.marks = ⟨false, false, false⟩ then .already else .ok := by
      by_cases h : s.marks = ⟨false, false, false⟩
      · rw [if_pos h, h]
        rfl
      · rw [if_neg h, if_pos (RackMarks.any_eq_true.mpr h)]
    unfold Answers State.clearRackMarks
    dsimp only
    rw [status, State.reply_eq, State.answerWith_link]
    simp only [RackMarks.byte, State.marksAfterClear, on]
    rfl
  · rw [State.faultLine_iff]
    change (∃ j, (s.ctx j).faultRecord.cause ≠ none) ∨ s.clock.refLost = true ∨ s.rail.brownout = true
      ∨ s.safeOff = true ↔ _
    rw [on]
    simp only [Bool.false_eq_true, or_false]
    tauto

end Sys2Proof.Machine

/-! The indicator of a slot (Section 1), DIRECTORY READ and DIRECTORY FIND (Section 6), and the host's access to the images
(Section 7). -/

namespace Sys2Proof.Machine

open Sys2Proof Sys2Proof.Safety

set_option Elab.async false

/-! ## LOCATE (R15) -/

/-- A slot's record with its LOCATE display replaced. -/
def SlotRecord.located (x : Option Locate) (r : SlotRecord) : SlotRecord :=
  { r with monitor := { r.monitor with locate := x } }

section
variable {s : State} {i : Slot} (tag : Byte) {n : Byte} (on : s.safeOff = false)
include on

theorem exec_locate_zero : exec (.locate tag (byteOf i.val) 0) s
    = .next (if (s.mon i).locate.isSome then (s.modSlot i (SlotRecord.located none)).reply 0x15 tag .ok []
        else s.reply 0x15 tag .already []) := by
  change Host.Outcome.next (requestLocate tag (byteOf i.val) 0 s) = _
  simp only [requestLocate, slotOf_byteOf, on, Bool.false_eq_true, if_true, if_false]
  rfl

theorem exec_locate_of_le (pos : 0 < n.toNat) (le : n.toNat ≤ 60) : exec (.locate tag (byteOf i.val) n) s
    = .next ((s.modSlot i (SlotRecord.located (some ⟨n.toNat * 1000000, 0, 0⟩))).reply 0x15 tag .ok []) := by
  have nonzero : n ≠ 0 := fun h => by simp [h] at pos
  change Host.Outcome.next (requestLocate tag (byteOf i.val) n s) = _
  simp only [requestLocate, slotOf_byteOf, on, if_neg nonzero, if_pos (show n.toNat ≤ Config.locateMaxSeconds from le),
    Bool.false_eq_true, if_false]
  rfl

theorem exec_locate_of_gt (gt : 60 < n.toNat) : exec (.locate tag (byteOf i.val) n) s
    = .next ((s.modSlot i (SlotRecord.located (some ⟨60 * 1000000, 0, 0⟩))).reply 0x15 tag .okClamped [60]) := by
  have nonzero : n ≠ 0 := fun h => by simp [h] at gt
  have beyond : ¬ n.toNat ≤ Config.locateMaxSeconds := Nat.not_le.mpr gt
  change Host.Outcome.next (requestLocate tag (byteOf i.val) n s) = _
  simp only [requestLocate, slotOf_byteOf, on, if_neg nonzero, if_neg beyond, Bool.false_eq_true, if_false]
  rfl

/-- LOCATE 0 leaves no display in either case. -/
theorem locate_zero : ∃ t, exec (.locate tag (byteOf i.val) 0) s = .next t ∧ OnlySlotAndLink i s t
    ∧ t.slot i = (s.slot i).located none
    ∧ Answers s t 0x15 tag (if (s.mon i).locate.isSome = true then .ok else .already) [] := by
  have ran := exec_locate_zero tag on (i := i)
  by_cases h : (s.mon i).locate.isSome = true
  · rw [if_pos h] at ran ⊢
    exact slotWritten_of_eq_reply ran
  · rw [if_neg h] at ran ⊢
    have none_ : (s.mon i).locate = none := Option.not_isSome_iff_eq_none.mp h
    refine ⟨_, ran, ⟨fun _ _ => rfl, rfl⟩, ?_, rfl⟩
    change s.slot i = { s.slot i with monitor := { (s.slot i).monitor with locate := none } }
    rw [← show (s.slot i).monitor.locate = none from none_]

end

/-! ## The ends of the phases (R13, R15) -/

theorem nextPhase_of_getElem? {phases : List (Bool × Nat)} {p : Nat} {x : Bool × Nat} (h : phases[p]? = some x) :
    nextPhase phases p = (p + 1) % phases.length := by
  have lt : p < phases.length := (List.getElem?_eq_some_iff.mp h).1
  unfold nextPhase
  split
  · rename_i inside
    exact (Nat.mod_eq_of_lt inside).symm
  · rename_i outside
    rw [show p + 1 = phases.length by omega, Nat.mod_self]

theorem phaseLength_of_getElem? {phases : List (Bool × Nat)} {p : Nat} {lit : Bool} {len : Nat}
    (h : phases[p]? = some (lit, len)) : phaseLength phases p = some len := by
  rw [phaseLength, h]
  rfl

theorem Monitor.endPatternPhase_of_counted {m : Monitor} {lit : Bool} {len : Nat}
    (h : m.pattern.phases[m.ledPhase]? = some (lit, len)) (counted : len ≤ m.ledSamples) : m.endPatternPhase
      = { m with ledPhase := (m.ledPhase + 1) % m.pattern.phases.length, ledSamples := m.ledSamples - len } := by
  unfold Monitor.endPatternPhase
  rw [phaseLength_of_getElem? h, ← nextPhase_of_getElem? h]
  exact if_pos counted

theorem Locate.endPhase_of_counted {l : Locate} {lit : Bool} {len : Nat} (h : locatePhases[l.phase]? = some (lit, len))
    (counted : len ≤ l.samples) : l.endPhase = ⟨l.us, (l.phase + 1) % 17, l.samples - len⟩ := by
  unfold Locate.endPhase
  rw [phaseLength_of_getElem? h, nextPhase_of_getElem? h]
  exact if_pos counted

/-! ## What the LED shows (R16) -/

/-- A LOCATE display is lit in the even phases of its burst. -/
theorem locatePhases_lit (p : Nat) :
    ((locatePhases[p]?).map Prod.fst).getD false = true ↔ p % 2 = 0 ∧ p < 16 := by
  rcases Nat.lt_or_ge p 17 with lt | ge
  · exact (by decide : ∀ q : Fin 17, ((locatePhases[q.val]?).map Prod.fst).getD false = true ↔ q.val % 2 = 0 ∧ q.val < 16)
      ⟨p, lt⟩
  · rw [List.getElem?_eq_none (by exact ge)]
    simp only [Option.map_none, Option.getD_none, Bool.false_eq_true, false_iff]
    omega

theorem State.ledLine_of_locate {s : State} {i : Slot} {l : Locate} (h : (s.mon i).locate = some l) :
    s.ledLine i = ((locatePhases[l.phase]?).map Prod.fst).getD false := by
  simp only [State.ledLine, h]

theorem State.ledLine_of_none {s : State} {i : Slot} (h : (s.mon i).locate = none) :
    s.ledLine i = if (s.mon i).darkPulse.isSome then false else (s.mon i).patternLit := by
  simp only [State.ledLine, h]

/-- A phase of the pattern shows what it says; OFF and STEADY have no phases. -/
theorem Monitor.patternLit_of_phase {m : Monitor} {lit : Bool} {len : Nat}
    (h : m.pattern.phases[m.ledPhase]? = some (lit, len)) : m.patternLit = lit := by
  unfold Monitor.patternLit
  split
  · rename_i off
    rw [off] at h
    exact absurd h (by simp [LedPattern.phases])
  · rename_i steady
    rw [steady] at h
    exact absurd h (by simp [LedPattern.phases])
  · rw [h]
    rfl

/-- Settles O23: LOCATE replaces the display; each expiry and each end of a phase is one change of the slot's monitor; and
the LED line reads the layers from the top. -/
theorem indicatorLayersFollowTheirRules : Obligations.IndicatorLayersFollowTheirRules := by
  refine ⟨rfl, rfl, rfl, fun tag n i s => ⟨fun on pos => ?_, fun on => locate_zero tag on, slotWritten_of_eq rfl,
    slotWritten_of_eq rfl, fun lit len phase counted => ?_, fun l lit len shown phase counted => ?_, fun l shown => ?_,
    fun absent dark => ?_, fun absent dark => ⟨fun off => ?_, fun steady => ?_, fun lit len phase => ?_⟩⟩⟩
  · rcases Nat.lt_or_ge 60 n.toNat with gt | le
    · obtain ⟨t, ran, only, slot, answers⟩ := slotWritten_of_eq_reply (exec_locate_of_gt tag on (i := i) gt)
      refine ⟨t, ran, only, ?_, by rw [if_neg (by omega)]; exact answers⟩
      rw [slot, Nat.min_eq_right (by omega)]
      rfl
    · obtain ⟨t, ran, only, slot, answers⟩ := slotWritten_of_eq_reply (exec_locate_of_le tag on (i := i) pos le)
      refine ⟨t, ran, only, ?_, by rw [if_pos le]; exact answers⟩
      rw [slot, Nat.min_eq_left le]
      rfl
  · obtain ⟨t, ran, only, slot⟩ := slotWritten_of_eq (o := exec (.ledPhaseEnd i .pattern) s)
      (f := fun r => { r with monitor := r.monitor.endPatternPhase }) rfl
    refine ⟨t, ran, only, ?_⟩
    rw [slot, ← State.mon_eq, Monitor.endPatternPhase_of_counted phase counted]
  · obtain ⟨t, ran, only, slot⟩ := slotWritten_of_eq (o := exec (.ledPhaseEnd i .locate) s)
      (f := fun r => r.located (r.monitor.locate.map Locate.endPhase)) rfl
    refine ⟨t, ran, only, ?_⟩
    rw [slot, ← State.mon_eq, shown, Option.map_some, Locate.endPhase_of_counted phase counted]
    rfl
  · rw [State.ledLine_of_locate shown]
    exact locatePhases_lit l.phase
  · rw [State.ledLine_of_none absent, if_pos (Option.isSome_iff_ne_none.mpr dark)]
  · rw [State.ledLine_of_none absent, dark, Monitor.patternLit, off]
    rfl
  · rw [State.ledLine_of_none absent, dark, Monitor.patternLit, steady]
    rfl
  · rw [State.ledLine_of_none absent, dark, Monitor.patternLit_of_phase phase]
    rfl

/-! ## DIRECTORY READ and DIRECTORY FIND (R119, R120) -/

theorem EntryKey.length_bytes (k : EntryKey) : k.bytes.length = 6 := by cases k <;> rfl

/-- The entry body has 15 bytes, whatever the entry (10.8). -/
theorem Entry.length_bytes (e : Entry) : e.bytes.length = 15 := by
  obtain ⟨body, users⟩ := e
  cases body with
  | none => rfl
  | some b => simp [Entry.bytes, EntryKey.length_bytes, be16]

section
variable {s : State} (tag : Byte) (on : s.safeOff = false)
include on

theorem exec_directoryRead (k : EntryIndex) : exec (.directoryRead tag (byteOf k.val)) s
    = .next (s.reply 0x22 tag .ok (byteOf k.val :: (s.entry k).bytes)) := by
  change Host.Outcome.next (requestDirectoryRead tag (byteOf k.val) s) = _
  simp only [requestDirectoryRead, indexOf_byteOf, on, Bool.false_eq_true, if_false]

theorem exec_directoryFind_of_none {body : EntryBytes} (bad : entryKeyOf body = none) :
    exec (.directoryFind tag body) s = .next (s.reply 0x23 tag .badValue []) := by
  change Host.Outcome.next (requestDirectoryFind tag body s) = _
  simp only [requestDirectoryFind, bad, on, Bool.false_eq_true, if_false]

variable {body : EntryBytes} {key : EntryKey} (good : entryKeyOf body = some key)
include good

theorem exec_directoryFind_of_found {k : EntryIndex} (found : s.findKey key = some k) :
    exec (.directoryFind tag body) s = .next (s.reply 0x23 tag .ok [byteOf k.val]) := by
  change Host.Outcome.next (requestDirectoryFind tag body s) = _
  simp only [requestDirectoryFind, good, found, on, Bool.false_eq_true, if_false]

theorem exec_directoryFind_of_missing (missing : s.findKey key = none) :
    exec (.directoryFind tag body) s = .next (s.reply 0x23 tag .notFound []) := by
  change Host.Outcome.next (requestDirectoryFind tag body s) = _
  simp only [requestDirectoryFind, good, missing, on, Bool.false_eq_true, if_false]

end

/-- Settles O28: each outcome is its answer alone. -/
theorem directoryReadAndFindChangeNothing : Obligations.DirectoryReadAndFindChangeNothing := by
  intro tag s on
  refine ⟨fun k => ?_, fun body key k good has lowest => ?_, fun body key good missing => ?_, fun body bad => ?_⟩
  · obtain ⟨t, ran, only, answers⟩ := answered_of_eq_reply (exec_directoryRead tag on k)
    exact ⟨t, ran, only, answers, (s.entry k).length_bytes⟩
  · exact answered_of_eq_reply (exec_directoryFind_of_found tag on good (State.findKey_eq_some has lowest))
  · exact answered_of_eq_reply (exec_directoryFind_of_missing tag on good (State.findKey_eq_none missing))
  · exact answered_of_eq_reply (exec_directoryFind_of_none tag on bad)

/-! ## IMAGE READ and IMAGE WRITE (R143, R144) -/

@[simp] theorem imageOfCode_code (g : ImageId) : imageOfCode g.code = some g := by cases g <;> rfl

theorem State.declaredBytes_of_some {s : State} {i : Slot} {d : Identity} (h : (s.ctx i).identity = some d) (g : ImageId) :
    s.declaredBytes i g = d.declared g := by
  rw [State.declaredBytes, h]
  rfl

theorem State.canReadWindow_iff {s : State} {i : Slot} {g : ImageId} : s.canReadWindow i g = true
    ↔ ((s.ctx i).state = .online ∨ (s.ctx i).state = .withdrawing) ∧ (s.ctx i).window g ≠ none := by
  rw [State.canReadWindow, Bool.and_eq_true, Bool.or_eq_true, beq_iff_eq, beq_iff_eq, Option.isSome_iff_ne_none]

section
variable {s : State} {i : Slot} (tag : Byte) {o : HWord} (on : s.safeOff = false) (offset : o.toNat ≤ 511)
include on offset

/-- An IMAGE READ of a good image, offset and length comes to its last two tests. -/
theorem exec_imageRead {n : Byte} (g : ImageId) (pos : 1 ≤ n.toNat) (max : n.toNat ≤ 64) :
    exec (.imageRead tag (byteOf i.val) g.code o n) s = .next
      (if s.canReadWindow i g = false then s.reply 0x32 tag .wrongState []
      else if s.declaredBytes i g < o.toNat + n.toNat then s.reply 0x32 tag .outOfWindow []
      else s.reply 0x32 tag .ok ([byteOf i.val, g.code] ++ be16 o.toNat
        ++ [n, optionCode ((s.ctx i).inputQuality.map InputQuality.code)] ++ s.readWindow i g o.toNat n.toNat)) := by
  have inRange : ¬ (511 < o.toNat ∨ n.toNat = 0 ∨ 64 < n.toNat) := by omega
  change Host.Outcome.next (requestImageRead tag (byteOf i.val) g.code o n s) = _
  simp only [requestImageRead, slotOf_byteOf, imageOfCode_code, if_neg inRange, on, Bool.false_eq_true, if_false,
    Bool.not_eq_true']

/-- An IMAGE WRITE of a good offset and length comes to its last two tests. -/
theorem exec_imageWrite {data : List Byte} (pos : 1 ≤ data.length) (max : data.length ≤ 64) :
    exec (.imageWrite tag (byteOf i.val) o data) s = .next
      (if (s.ctx i).state ≠ .online ∨ (s.ctx i).outWindow = none then s.reply 0x33 tag .wrongState []
      else if s.declaredBytes i .output < o.toNat + data.length then s.reply 0x33 tag .outOfWindow []
      else (s.writeWindow i .output o.toNat data).reply 0x33 tag .ok []) := by
  have length : ¬ (data.length = 0 ∨ 64 < data.length) := by omega
  have inRange : ¬ 511 < o.toNat := by omega
  change Host.Outcome.next (requestImageWrite tag (byteOf i.val) o data s) = _
  simp only [requestImageWrite, slotOf_byteOf, if_neg length, if_neg inRange, on, Bool.false_eq_true, if_false,
    Option.isNone_iff_eq_none]
  rfl

end

theorem State.readWindow_of_some {s : State} {i : Slot} {g : ImageId} {w : Window} (h : (s.ctx i).window g = some w)
    (o n : Nat) : s.readWindow i g o n
      = (List.range n).map fun b => Memory.read (s.image g).mem (16 * w.start + o + b) := by
  rw [State.readWindow, h]
  exact Memory.readBytes_eq _ _ _

theorem State.writeWindow_output_of_some {s : State} {i : Slot} {w : Window} (h : (s.ctx i).outWindow = some w) (o : Nat)
    (data : List Byte) : s.writeWindow i .output o data
      = { s with imageOut := { s.imageOut with mem := Memory.writeBytes s.imageOut.mem (16 * w.start + o) data } } := by
  unfold State.writeWindow
  rw [show (s.ctx i).window .output = some w from h]
  rfl

/-- Settles O30: the two tests that are left for a good image, offset and length, and the bytes of the window. -/
theorem imageAccessReachesTheWindowOnly : Obligations.ImageAccessReachesTheWindowOnly := by
  intro tag i o s d on offset
  refine ⟨fun n g pos max => ⟨fun shut => ?_, fun w identity window state => ⟨fun fits => ?_, fun beyond => ?_⟩⟩,
    fun data pos max => ⟨fun shut => ?_, fun w identity window state => ⟨fun beyond => ?_, fun fits canonical => ?_⟩⟩⟩
  · refine answered_of_eq_reply ((exec_imageRead tag on offset g pos max).trans (congrArg _ (if_pos ?_)))
    rw [Bool.eq_false_iff, ne_eq, State.canReadWindow_iff]
    tauto
  · have open_ : ¬ s.canReadWindow i g = false := by
      rw [Bool.not_eq_false, State.canReadWindow_iff, window]
      exact ⟨state, Option.some_ne_none w⟩
    have ran := exec_imageRead tag on offset (i := i) g pos max
    rw [if_neg open_, State.declaredBytes_of_some identity, if_neg (by omega), State.readWindow_of_some window] at ran
    exact answered_of_eq_reply ran
  · have open_ : ¬ s.canReadWindow i g = false := by
      rw [Bool.not_eq_false, State.canReadWindow_iff, window]
      exact ⟨state, Option.some_ne_none w⟩
    have ran := exec_imageRead tag on offset (i := i) g pos max
    rw [if_neg open_, State.declaredBytes_of_some identity, if_pos beyond] at ran
    exact answered_of_eq_reply ran
  · exact answered_of_eq_reply ((exec_imageWrite tag on offset pos max).trans (congrArg _ (if_pos shut.symm)))
  · have open_ : ¬ ((s.ctx i).state ≠ .online ∨ (s.ctx i).outWindow = none) := by
      rw [not_or, not_not]
      exact ⟨state, by rw [window]; exact Option.some_ne_none w⟩
    have ran := exec_imageWrite tag on offset (i := i) pos max
    rw [if_neg open_, State.declaredBytes_of_some identity, if_pos (by exact beyond)] at ran
    exact answered_of_eq_reply ran
  · have open_ : ¬ ((s.ctx i).state ≠ .online ∨ (s.ctx i).outWindow = none) := by
      rw [not_or, not_not]
      exact ⟨state, by rw [window]; exact Option.some_ne_none w⟩
    have inside : ¬ d.declared .output < o.toNat + data.length := Nat.not_lt.mpr fits
    have ran := exec_imageWrite tag on offset (i := i) pos max
    rw [if_neg open_, State.declaredBytes_of_some identity, if_neg inside, State.writeWindow_output_of_some window] at ran
    exact ⟨_, ran, rfl, rfl, rfl, fun a => Memory.read_writeBytes data canonical.2 _ a⟩

end Sys2Proof.Machine

/-! The inrush arbiter (Section 3): the order of the ramp queue, an evaluation as grants to its heads, and the head that none of
them leaves; then the two events of the rail that end in an evaluation and begin no withdrawal. -/

namespace Sys2Proof.Machine

open Sys2Proof Sys2Proof.Safety

set_option Elab.async false

/-! ## The order of the ramp queue (R62) -/

theorem pairwise_allSlots : allSlots.Pairwise (· < ·) := by decide

/-- The cyclic order by the distance from the slot after the last granted one. -/
theorem pairwise_slotsAfter : ∀ last : Slot, (slotsAfter last).Pairwise fun a b =>
    (a.val + 11 - last.val) % 12 < (b.val + 11 - last.val) % 12 := by decide

section
variable {s : State}

theorem State.rampOrder_fixed (h : s.params.arbiterMode = .fixed) : s.rampOrder.Pairwise fun a b =>
    (s.ctx b).priority < (s.ctx a).priority ∨ ((s.ctx a).priority = (s.ctx b).priority ∧ a < b) := by
  have same : ∀ {p : Nat} {a : Slot}, a ∈ s.slotsWith (fun r => r.rail.queued && r.ctx.priority == p) →
      (s.ctx a).priority = p := fun {p a} h => by
    rw [State.mem_slotsWith, Bool.and_eq_true, beq_iff_eq] at h
    exact h.2
  unfold State.rampOrder
  rw [h]
  refine List.pairwise_flatMap.mpr ⟨fun p _ => ?_, List.Pairwise.imp_of_mem (R := (· > ·)) ?_ (by decide)⟩
  · refine List.Pairwise.imp_of_mem (R := (· < ·)) (fun {a b} ha hb lt => .inr ⟨?_, lt⟩) (pairwise_allSlots.filter _)
    exact (same ha).trans (same hb).symm
  · intro p q _ _ gt a ha b hb
    exact .inl (by rw [same ha, same hb]; exact gt)

theorem State.rampOrder_round (h : s.params.arbiterMode = .round) : s.rampOrder.Pairwise fun a b =>
    (a.val + 11 - s.rail.lastGranted.val) % 12 < (b.val + 11 - s.rail.lastGranted.val) % 12 := by
  unfold State.rampOrder
  rw [h]
  exact (pairwise_slotsAfter s.rail.lastGranted).filter _

theorem State.mem_rampOrder_iff (priorities : ∀ i, (s.ctx i).priority ≤ 3) (i : Slot) :
    i ∈ s.rampOrder ↔ (s.railOf i).queued = true :=
  ⟨State.queued_of_mem_rampOrder, fun h => State.mem_rampOrder_of_queued h (priorities i)⟩

/-! ## An evaluation as grants to the heads (R63 to R65) -/

theorem mayBeGranted_iff {i : Slot} : MayBeGranted i s ↔ s.grantFits i = true := (s.grantFits_iff i).symm

theorem granted_grant (s : State) (i : Slot) : Granted i s (s.grant i) := by
  refine ⟨fun j hj => State.slot_grant_ne s hj, rfl, rfl, ?_⟩
  rw [State.ctx_eq, State.railOf_eq, State.det_eq, State.scanOf_eq, State.slot_grant_self, SlotRecord.enter_ctx,
    SlotRecord.enter_rail, SlotRecord.enter_detector, SlotRecord.enter_scan]
  exact ⟨rfl, rfl, rfl, rfl, rfl, rfl, rfl⟩

/-- The number of slots in the ramp queue. -/
def State.queuedCount (s : State) : Nat := s.total fun r => if r.rail.queued = true then 1 else 0

theorem State.queuedCount_le (s : State) : s.queuedCount ≤ 12 := by
  rw [State.queuedCount, State.total_eq_sum]
  calc _ ≤ ∑ _i : Slot, 1 := Finset.sum_le_sum fun i _ => by split <;> omega
    _ = 12 := by simp

/-- A grant takes its slot out of the queue. -/
theorem State.queuedCount_grant {i : Slot} (h : (s.slot i).rail.queued = true) :
    (s.grant i).queuedCount + 1 = s.queuedCount := by
  have := s.total_grant i fun r => if r.rail.queued = true then 1 else 0
  rw [if_pos h, SlotRecord.enter_rail, if_neg (show ¬ (SlotRecord.grant _ _ _).rail.queued = true from Bool.false_ne_true)]
    at this
  rwa [State.queuedCount, State.queuedCount]

theorem State.rampOrder_of_queuedCount (h : s.queuedCount = 0) : s.rampOrder = [] := by
  rw [List.eq_nil_iff_forall_not_mem]
  intro i hi
  have := s.le_total (fun r => if r.rail.queued = true then 1 else 0) i
  rw [if_pos (State.queued_of_mem_rampOrder hi)] at this
  rw [State.queuedCount] at h
  omega

theorem State.arbitrateSteps_of_empty (n : Nat) (h : s.rampOrder = []) : State.arbitrateSteps n s = s := by
  cases n with
  | zero => rfl
  | succ n =>
    unfold State.arbitrateSteps
    rw [h]

theorem State.arbitrateSteps_of_fits {i : Slot} {rest : List Slot} (n : Nat) (head : s.rampOrder = i :: rest)
    (fits : s.grantFits i = true) : State.arbitrateSteps (n + 1) s = State.arbitrateSteps n (s.grant i) := by
  rw [State.arbitrateSteps, head]
  exact if_pos fits

theorem State.arbitrateSteps_of_head {i : Slot} {rest : List Slot} (n : Nat) (head : s.rampOrder = i :: rest)
    (fits : ¬ s.grantFits i = true) : State.arbitrateSteps n s = s := by
  cases n with
  | zero => rfl
  | succ n =>
    rw [State.arbitrateSteps, head]
    exact if_neg fits

theorem State.queuedCount_grant_le {i : Slot} {rest : List Slot} {n : Nat} (head : s.rampOrder = i :: rest)
    (h : s.queuedCount ≤ n + 1) : (s.grant i).queuedCount ≤ n := by
  have := State.queuedCount_grant (s := s) (i := i) (State.queued_of_mem_rampOrder (by rw [head]; simp))
  omega

end

/-- The cases of an evaluation of at most `n` grants where the queue holds no more slots: an empty queue and a head that does
not fit end it, and the grant of one that fits goes on with one less. -/
theorem State.arbitrateSteps_cases {n : Nat} {s : State} (h : s.queuedCount ≤ n) :
    s.rampOrder = [] ∨ (∃ i rest, s.rampOrder = i :: rest ∧ ¬ s.grantFits i = true)
      ∨ ∃ i rest m, s.rampOrder = i :: rest ∧ s.grantFits i = true ∧ n = m + 1 ∧ (s.grant i).queuedCount ≤ m := by
  cases head : s.rampOrder with
  | nil => exact .inl rfl
  | cons i rest =>
    by_cases fits : s.grantFits i = true
    · cases n with
      | zero =>
        rw [State.rampOrder_of_queuedCount (Nat.le_zero.mp h)] at head
        cases head
      | succ m => exact .inr (.inr ⟨i, rest, m, rfl, fits, rfl, State.queuedCount_grant_le head h⟩)
    · exact .inr (.inl ⟨i, rest, rfl, fits⟩)

/-- As many grants as there are queued slots exhaust an evaluation: no head is left that could be granted. -/
theorem State.no_head_arbitrateSteps (n : Nat) : ∀ (s : State), s.queuedCount ≤ n →
    ∀ i rest, (State.arbitrateSteps n s).rampOrder = i :: rest → ¬ MayBeGranted i (State.arbitrateSteps n s) := by
  induction n with
  | zero =>
    intro s h i rest e
    rw [State.rampOrder_of_queuedCount (s := State.arbitrateSteps 0 s) (Nat.le_zero.mp h)] at e
    cases e
  | succ n ih =>
    intro s h
    rcases State.arbitrateSteps_cases h with empty | ⟨i, rest, head, unfit⟩ | ⟨i, rest, m, head, fits, succ, left⟩
    · rw [State.arbitrateSteps_of_empty _ empty, empty]
      intro i rest e
      cases e
    · rw [State.arbitrateSteps_of_head _ head unfit, head]
      intro j more e
      obtain ⟨rfl, -⟩ := List.cons.inj e
      rwa [mayBeGranted_iff]
    · obtain rfl := Nat.succ.inj succ
      rw [State.arbitrateSteps_of_fits n head fits]
      exact ih _ left

/-- A further grant adds nothing to an exhausted evaluation. -/
theorem State.arbitrateSteps_succ (n : Nat) : ∀ (s : State), s.queuedCount ≤ n →
    State.arbitrateSteps (n + 1) s = State.arbitrateSteps n s := by
  induction n with
  | zero =>
    intro s h
    exact State.arbitrateSteps_of_empty 1 (State.rampOrder_of_queuedCount (Nat.le_zero.mp h))
  | succ n ih =>
    intro s h
    rcases State.arbitrateSteps_cases h with empty | ⟨i, rest, head, unfit⟩ | ⟨i, rest, m, head, fits, succ, left⟩
    · rw [State.arbitrateSteps_of_empty _ empty, State.arbitrateSteps_of_empty _ empty]
    · rw [State.arbitrateSteps_of_head _ head unfit, State.arbitrateSteps_of_head _ head unfit]
    · obtain rfl := Nat.succ.inj succ
      rw [State.arbitrateSteps_of_fits _ head fits, State.arbitrateSteps_of_fits _ head fits]
      exact ih _ left

section
variable {s : State}

theorem State.no_head_arbitrate (s : State) :
    ∀ i rest, s.arbitrate.rampOrder = i :: rest → ¬ MayBeGranted i s.arbitrate :=
  State.no_head_arbitrateSteps 12 s s.queuedCount_le

theorem State.arbitrate_of_fits {i : Slot} {rest : List Slot} (head : s.rampOrder = i :: rest)
    (fits : MayBeGranted i s) : s.arbitrate = (s.grant i).arbitrate :=
  (State.arbitrateSteps_of_fits 11 head (mayBeGranted_iff.mp fits)).trans
    (State.arbitrateSteps_succ 11 _ (State.queuedCount_grant_le head s.queuedCount_le)).symm

theorem State.arbitrate_of_head {i : Slot} {rest : List Slot} (head : s.rampOrder = i :: rest)
    (fits : ¬ MayBeGranted i s) : s.arbitrate = s :=
  State.arbitrateSteps_of_head 12 head (by rwa [← mayBeGranted_iff])

/-- What a grant under the parameters of `s` leaves of a slot's record. -/
def GrantTaken (p : Params) (r q : SlotRecord) : Prop :=
  q.ctx.state = .ramping ∧ q.rail.queued = false ∧ q.rail.closed = true
    ∧ q.ctx.inrushCommitted = p.classTable[r.ctx.inrushClass.getD 0].inrush
    ∧ q.ctx.steadyCommitted = p.classTable[r.ctx.inrushClass.getD 0].provisional
    ∧ q.rail.rampTimer = some (p.rampTimeout * 1000)

theorem grantTaken_grant (i : Slot) : GrantTaken s.params (s.slot i) ((s.grant i).slot i) := by
  unfold GrantTaken
  rw [State.slot_grant_self, SlotRecord.enter_ctx, SlotRecord.enter_rail]
  exact ⟨rfl, rfl, rfl, rfl, rfl, rfl⟩

/-- A slot after an evaluation is as it was, or has been granted once. -/
theorem State.arbitrate_slot_cases (s : State) (i : Slot) :
    s.arbitrate.slot i = s.slot i ∨ GrantTaken s.params (s.slot i) (s.arbitrate.slot i) := by
  refine (State.arbitrate_induct (P := fun t => t.params = s.params
    ∧ (t.slot i = s.slot i ∨ GrantTaken s.params (s.slot i) (t.slot i))) s ⟨rfl, .inl rfl⟩ ?_).2
  rintro t j ⟨params, own⟩ queued -
  refine ⟨params, ?_⟩
  by_cases e : i = j
  · subst e
    rcases own with same | taken
    · rw [← params, ← same]
      exact .inr (grantTaken_grant i)
    · obtain ⟨-, out, -⟩ := taken
      rw [out] at queued
      cases queued
  · rwa [State.slot_grant_ne t e]

/-- The rest of the part after an evaluation: last granted alone may differ. -/
theorem State.arbitrate_rest (s : State) : { s.arbitrate with
    slots := s.slots, rail := { s.arbitrate.rail with lastGranted := s.rail.lastGranted } } = s := by
  rw [s.arbitrate_grantedFrom.rest]

/-- Settles O41: the order is that of the lists it is made of; an evaluation grants head after head, and as it can grant
twelve times it ends at a head that does not fit. -/
theorem arbiterServesOnlyTheHead : Obligations.ArbiterServesOnlyTheHead := by
  intro s
  refine ⟨State.rampOrder_fixed, State.rampOrder_round, State.mem_rampOrder_iff,
    fun i rest head fits => ⟨s.grant i, granted_grant s i, State.arbitrate_of_fits head fits⟩,
    fun i rest => State.arbitrate_of_head, State.arbitrateSteps_of_empty 12, s.no_head_arbitrate,
    fun i => State.arbitrate_slot_of_not_queued, fun i _ => s.arbitrate_slot_cases i, ?_⟩
  rintro (empty | frozen | brownout)
  · exact State.arbitrate_of_empty empty
  · exact State.arbitrate_of_frozen frozen
  · exact State.arbitrate_of_brownout brownout

end

/-! ## The rail sample (R53 to R56) -/

/-- SAG after a sample of `v`, with its hysteresis of 200 mV (R55). -/
def State.sagAt (s : State) (v : Nat) : Bool :=
  if s.rail.sag = false ∧ v < s.params.railFullMv then true
  else if s.rail.sag = true ∧ s.params.railFullMv + Config.sagHysteresisMv ≤ v then false
  else s.rail.sag

/-- The notices after a sample of `v` (R55). -/
def State.sagNotices (s : State) (v : Nat) : Notices :=
  if s.rail.sag = false ∧ v < s.params.railFullMv then s.notices.offer ⟨.railSag, none, 0, be16 v⟩
  else if s.rail.sag = true ∧ s.params.railFullMv + Config.sagHysteresisMv ≤ v then s.notices.offer ⟨.railSag, none, 1, be16 v⟩
  else s.notices

/-- The rail after a sample of `v`, the evaluation aside (R53 to R56). -/
def State.railAt (s : State) (v : Nat) : Rail :=
  { s.rail with
    value := v
    effective := effectiveSteady s.params.steadyBudget v s.params.railFullMv s.params.railFloorMv
    sag := s.sagAt v
    brownout := decide (v < s.params.railFloorMv) }

theorem State.updateSag_eq (s : State) : s.updateSag
    = { s with rail := { s.rail with sag := s.sagAt s.rail.value }, notices := s.sagNotices s.rail.value } := by
  unfold State.updateSag State.sagAt State.sagNotices
  split
  · rfl
  · split
    · rfl
    · rfl

theorem State.sampleRail_eq (s : State) (reading : Nat) : s.sampleRail reading
    = { s with
        rail := s.railAt (min reading 32000), notices := s.sagNotices (min reading 32000)
        marks := { s.marks with
          brownout := s.marks.brownout || (decide (min reading 32000 < s.params.railFloorMv) && !s.rail.brownout) } } := by
  unfold State.sampleRail
  dsimp only
  rw [State.updateSag_eq]
  rfl

/-- An evaluation that is made on a condition. -/
theorem State.arbitrate_if (s : State) (b : Bool) :
    (∀ j, (s.slot j).rail.queued = false → (if b then s.arbitrate else s).slot j = s.slot j)
      ∧ { if b then s.arbitrate else s with
          slots := s.slots
          rail := { (if b then s.arbitrate else s).rail with lastGranted := s.rail.lastGranted } } = s := by
  cases b
  · exact ⟨fun _ _ => rfl, rfl⟩
  · exact ⟨fun _ => State.arbitrate_slot_of_not_queued, s.arbitrate_rest⟩

/-- Settles O40: a sample writes the rail, its mark and its notices; the evaluation that follows where BROWNOUT ended or E rose
leaves them, and reaches the slots of the ramp queue alone. -/
theorem railSampleSetsTheBudget : Obligations.RailSampleSetsTheBudget := by
  intro reading s
  have sampled := s.sampleRail_eq reading
  generalize min reading 32000 = v at sampled ⊢
  have sampledRail : (s.sampleRail reading).rail = s.railAt v := by rw [sampled]
  have sampledSlots : (s.sampleRail reading).slots = s.slots := by rw [sampled]
  have sampledNotices : (s.sampleRail reading).notices = s.sagNotices v := by rw [sampled]
  have sampledMarks : (s.sampleRail reading).marks = { s.marks with
      brownout := s.marks.brownout || (decide (v < s.params.railFloorMv) && !s.rail.brownout) } := by rw [sampled]
  have sampledRest : { s.sampleRail reading with
      slots := s.slots, rail := s.rail, marks := s.marks, notices := s.notices } = s := by rw [sampled]
  refine ⟨_, rfl, ?_⟩
  dsimp only
  generalize s.sampleRail reading = u at sampledRail sampledSlots sampledNotices sampledMarks sampledRest ⊢
  have same : ∀ j, u.slot j = s.slot j := fun j => by rw [State.slot, sampledSlots]; rfl
  obtain ⟨slot, rest⟩ := u.arbitrate_if ((s.rail.brownout && !u.rail.brownout) || decide (s.rail.effective < u.rail.effective))
  generalize made : (s.rail.brownout && !u.rail.brownout || decide (s.rail.effective < u.rail.effective)) = b at slot rest ⊢
  generalize after : (if b = true then u.arbitrate else u) = t at slot rest ⊢
  have rail : { t.rail with lastGranted := s.rail.lastGranted } = s.railAt v := by
    rw [sampledRail] at rest
    exact (congrArg State.rail rest).trans sampledRail
  have value : t.rail.value = v := (congrArg Rail.value rail :)
  have effective : t.rail.effective = effectiveSteady s.params.steadyBudget v s.params.railFullMv s.params.railFloorMv :=
    (congrArg Rail.effective rail :)
  have sag : t.rail.sag = s.sagAt v := (congrArg Rail.sag rail :)
  have brownout : t.rail.brownout = decide (v < s.params.railFloorMv) := (congrArg Rail.brownout rail :)
  have notices : t.notices = s.sagNotices v := (congrArg State.notices rest).trans sampledNotices
  refine ⟨value, effective, brownout, ?_, fun low fell => ?_, fun high rose => ?_, fun still => ?_, fun j queued => ?_, fun ended kept => ?_, ?_⟩
  · rw [brownout]
    exact (congrArg State.marks rest).trans sampledMarks
  · rw [sag, notices, State.sagAt, State.sagNotices, if_pos ⟨low, fell⟩, if_pos ⟨low, fell⟩]
    exact ⟨rfl, rfl⟩
  · have notLow : ¬ (s.rail.sag = false ∧ v < s.params.railFullMv) := by simp [high]
    rw [sag, notices, State.sagAt, State.sagNotices, if_neg notLow, if_neg notLow, if_pos ⟨high, rose⟩, if_pos ⟨high, rose⟩]
    exact ⟨rfl, rfl⟩
  · have notLow : ¬ (s.rail.sag = false ∧ v < s.params.railFullMv) := by
      rintro ⟨low, fell⟩
      rcases still with ⟨-, above⟩ | ⟨high, -⟩
      · omega
      · rw [low] at high
        cases high
    have notHigh : ¬ (s.rail.sag = true ∧ s.params.railFullMv + Config.sagHysteresisMv ≤ v) := by
      rintro ⟨high, rose⟩
      rcases still with ⟨low, -⟩ | ⟨-, below⟩
      · rw [low] at high
        cases high
      · exact absurd rose (Nat.not_le.mpr below)
    rw [sag, notices, State.sagAt, State.sagNotices, if_neg notLow, if_neg notLow, if_neg notHigh, if_neg notHigh]
    exact ⟨rfl, rfl⟩
  · rw [← same j]
    exact slot j (by rw [same j]; exact queued)
  · have not : b = false := by
      rw [brownout] at ended
      rw [effective] at kept
      rw [← made, sampledRail, Bool.or_eq_false_iff, decide_eq_false_iff_not, Nat.not_lt]
      refine ⟨?_, kept⟩
      change (s.rail.brownout && !decide (v < s.params.railFloorMv)) = false
      rcases ended with no | yes
      · rw [no]
        rfl
      · rw [yes, Bool.not_true, Bool.and_false]
    rw [← after, not]
    exact sampledSlots
  · exact (congrArg (fun x : State => { x with
      slots := s.slots, rail := s.rail, marks := s.marks, notices := s.notices }) rest).trans sampledRest

/-! ## Power-good (R32, R66, R79) -/

/-- A slot's record once its ramp has ended: the timer is cancelled and the inrush commitment released (R66). -/
def SlotRecord.rampEnded (r : SlotRecord) : SlotRecord :=
  { r with ctx := { r.ctx with inrushCommitted := 0 }, rail := { r.rail with rampTimer := none, powerSeen := true } }

/-- Joining the tail of the identify queue, and the test of R80, change the slot's record and the lane (R79). -/
theorem State.identify_eq (s : State) (i : Slot) : s.identify i = (s.modSlot i (SlotRecord.enter .identifying)).modLane
    fun l => ({ l with queue := l.queue ++ [i] } : Lane).tryOpen := rfl

/-- Settles O42: the end of the ramp is one change of the record, the read joins the queue, and the evaluation reaches other
slots alone. -/
theorem powerGoodEndsTheRamp : Obligations.PowerGoodEndsTheRamp := by
  intro i s
  refine ⟨fun ramping closed out => ?_, fun other => ?_⟩
  · have good : exec (.pwrGoodAssert i) s = .next (s.powerGood i) :=
      congrArg Host.Outcome.next (if_pos ⟨ramping, closed⟩)
    have began : s.powerGood i = ((s.modSlot i SlotRecord.rampEnded).identify i).arbitrate := rfl
    generalize hu : (s.modSlot i SlotRecord.rampEnded).identify i = u at began
    rw [State.identify_eq, State.modSlot_modSlot] at hu
    have begun : { u with slots := s.slots, lane := s.lane } = s := by rw [← hu]; rfl
    have last : u.rail = s.rail := (congrArg State.rail begun :)
    have own : u.slot i = (s.slot i).rampEnded.enter .identifying := by
      rw [← hu, State.slot_modLane, State.slot_modSlot_self]
    have others : ∀ j, j ≠ i → u.slot j = s.slot j := fun j hj => by
      rw [← hu, State.slot_modLane, State.slot_modSlot_ne _ _ hj]
    have kept : u.arbitrate.slot i = u.slot i :=
      State.arbitrate_slot_of_not_queued (by rw [own, SlotRecord.enter_rail]; exact out)
    have rest := u.arbitrate_rest
    refine ⟨_, good, ?_⟩
    rw [began, State.ctx_eq, State.railOf_eq, kept, own, SlotRecord.enter_ctx, SlotRecord.enter_rail]
    refine ⟨rfl, rfl, rfl, rfl, rfl, ?_, ?_, fun j hj queued => ?_, ?_⟩
    · rw [State.arbitrate_lane, ← hu]
      exact Lane.tryOpen_queue _
    · rw [State.arbitrate_notices, ← hu]
      rfl
    · rw [← others j hj]
      exact State.arbitrate_slot_of_not_queued (by rw [others j hj]; exact queued)
    · rw [last] at rest
      exact (congrArg (fun v : State => { v with slots := s.slots, lane := s.lane }) rest).trans begun
  · refine congrArg Host.Outcome.next (if_neg ?_)
    rintro ⟨ramping, closed⟩
    rcases other with no | no
    · exact no ramping
    · rw [no] at closed
      cases closed

end Sys2Proof.Machine

/-! The steps of a withdrawal as one change of the slot's record and of the blocks that the withdrawal reaches (2.8, 2.9 and
Section 9): the work that is aborted, the power step, the departure and the end. -/

namespace Sys2Proof.Machine

open Sys2Proof Sys2Proof.Safety

set_option Elab.async false

/-! ## One slot and the blocks that its withdrawal reaches -/

/-- The blocks that a withdrawal can reach beside the slots: the lane, the images, the directory and the notice queue. -/
structure Work where
  lane : Lane
  imageIn : Image
  imageOut : Image
  directory : Directory
  notices : Notices

def State.work (s : State) : Work := ⟨s.lane, s.imageIn, s.imageOut, s.directory, s.notices⟩

/-- The state with one slot's record changed and these blocks replaced. -/
def State.worked (s : State) (i : Slot) (f : SlotRecord → SlotRecord) (w : Work) : State :=
  { s.modSlot i f with
    lane := w.lane, imageIn := w.imageIn, imageOut := w.imageOut, directory := w.directory, notices := w.notices }

section
variable {s : State} {i : Slot} {f g : SlotRecord → SlotRecord} {w v : Work}

@[simp] theorem State.slot_worked_self : (s.worked i f w).slot i = f (s.slot i) := State.slot_modSlot_self s i f

theorem State.ctx_worked_self : (s.worked i f w).ctx i = (f (s.slot i)).ctx := congrArg SlotRecord.ctx State.slot_worked_self

theorem State.railOf_worked_self : (s.worked i f w).railOf i = (f (s.slot i)).rail :=
  congrArg SlotRecord.rail State.slot_worked_self

theorem State.scanOf_worked_self : (s.worked i f w).scanOf i = (f (s.slot i)).scan :=
  congrArg SlotRecord.scan State.slot_worked_self

theorem State.slot_worked_ne {j : Slot} (h : j ≠ i) : (s.worked i f w).slot j = s.slot j := State.slot_modSlot_ne s f h

theorem State.worked_worked : (s.worked i f w).worked i g v = s.worked i (fun r => g (f r)) v :=
  congrArg (fun t : State => { t with
    lane := v.lane, imageIn := v.imageIn, imageOut := v.imageOut, directory := v.directory, notices := v.notices })
    (s.modSlot_modSlot i f g)

theorem State.worked_modSlot : (s.worked i f w).modSlot i g = s.worked i (fun r => g (f r)) w :=
  congrArg (fun t : State => { t with
    lane := w.lane, imageIn := w.imageIn, imageOut := w.imageOut, directory := w.directory, notices := w.notices })
    (s.modSlot_modSlot i f g)

theorem State.modSlot_worked : (s.modSlot i f).worked i g w = s.worked i (fun r => g (f r)) w :=
  State.worked_worked (w := s.work)

theorem State.worked_post (n : Notice) :
    (s.worked i f w).post n = s.worked i f { w with notices := w.notices.offer n } := rfl

theorem State.modSlot_eq_worked : s.modSlot i f = s.worked i f s.work := rfl

@[simp] theorem State.work_worked : (s.worked i f w).work = w := rfl

theorem State.worked_congr (h : f (s.slot i) = g (s.slot i)) : s.worked i f w = s.worked i g w := by
  unfold State.worked State.modSlot
  rw [h]

/-- A replacement that changes nothing. -/
theorem State.worked_id : s.worked i (fun r => r) s.work = s := s.modSlot_id i

@[simp] theorem State.worked_params : (s.worked i f w).params = s.params := rfl
@[simp] theorem State.worked_rail : (s.worked i f w).rail = s.rail := rfl
@[simp] theorem State.worked_scan : (s.worked i f w).scan = s.scan := rfl
@[simp] theorem State.worked_link : (s.worked i f w).link = s.link := rfl
@[simp] theorem State.worked_clock : (s.worked i f w).clock = s.clock := rfl

end

/-! ## The match that is dropped (R113) -/

/-- The directory with one user less of the entry that a match names. -/
def Directory.unuse (d : Directory) : Option EntryIndex → Directory
  | none => d
  | some k => { d with entries := d.entries.set k { d.entries[k] with users := d.entries[k].users - 1 } }

@[simp] theorem Directory.unuse_ageTimer (d : Directory) (m : Option EntryIndex) : (d.unuse m).ageTimer = d.ageTimer := by
  cases m <;> rfl

theorem State.dropMatch_eq (s : State) (i : Slot) : s.dropMatch i
    = s.worked i SlotRecord.unmatched { s.work with directory := s.directory.unuse (s.ctx i).matched } := by
  unfold State.dropMatch
  split
  · rename_i h
    have same : (s.slot i).unmatched = s.slot i := by
      rw [SlotRecord.unmatched, ← show (s.slot i).ctx.matched = none from h]
    rw [h]
    exact (State.worked_id (s := s) (i := i)).symm.trans (State.worked_congr same.symm)
  · rename_i k h
    rw [h]
    rfl

/-! ## Windows that are released (R140) -/

/-- An image that takes a window's segments back into its free list. -/
def Image.give (x : Image) : Option Window → Image
  | none => x
  | some w => { x with free := insertExtent ⟨w.start, w.count⟩ x.free }

@[simp] theorem Image.give_mem (x : Image) (w : Option Window) : (x.give w).mem = x.mem := by cases w <;> rfl

theorem Image.give_freeTotal (x : Image) (w : Option Window) : (x.give w).freeTotal = x.freeTotal + windowCount w := by
  cases w with
  | none => rfl
  | some w => exact (insertExtent_total _ _).trans (Nat.add_comm _ _)

theorem State.worked_of_fixed {s : State} {i : Slot} {f : SlotRecord → SlotRecord} (h : f (s.slot i) = s.slot i) :
    s.worked i f s.work = s := (State.worked_congr h).trans State.worked_id

theorem State.releaseWindow_input_eq (s : State) (i : Slot) : s.releaseWindow i .input
    = s.worked i (fun r => { r with ctx := { r.ctx with inWindow := none } })
        { s.work with imageIn := s.imageIn.give (s.ctx i).inWindow } := by
  rcases h : (s.ctx i).inWindow with _ | w
  · rw [State.releaseWindow_of_none (g := .input) h]
    refine (State.worked_of_fixed ?_).symm
    rw [← show (s.slot i).ctx.inWindow = none from h]
  · exact State.releaseWindow_of_some (g := .input) h

theorem State.releaseWindow_output_eq (s : State) (i : Slot) : s.releaseWindow i .output
    = s.worked i (fun r => { r with ctx := { r.ctx with outWindow := none } })
        { s.work with imageOut := s.imageOut.give (s.ctx i).outWindow } := by
  rcases h : (s.ctx i).outWindow with _ | w
  · rw [State.releaseWindow_of_none (g := .output) h]
    refine (State.worked_of_fixed ?_).symm
    rw [← show (s.slot i).ctx.outWindow = none from h]
  · exact State.releaseWindow_of_some (g := .output) h

/-- A slot's record without its windows and its input quality. -/
def SlotRecord.windowless (r : SlotRecord) : SlotRecord := { r with ctx := r.ctx.dropWindows }

theorem State.releaseWindows_eq (s : State) (i : Slot) : s.releaseWindows i
    = s.worked i SlotRecord.windowless { s.work with
        imageIn := s.imageIn.give (s.ctx i).inWindow, imageOut := s.imageOut.give (s.ctx i).outWindow } := by
  unfold State.releaseWindows
  rw [State.releaseWindow_input_eq, State.releaseWindow_output_eq, State.worked_worked, State.modCtx_eq,
    State.worked_modSlot, State.ctx_worked_self]
  rfl

/-! ## The end of a withdrawal (R49, R50) -/

theorem State.endWithdrawal_worked (s : State) (i : Slot) : s.endWithdrawal i
    = s.worked i (fun r => r.unmatched.withdrawn s.longSettleUs) { s.work with
        directory := s.directory.unuse (s.ctx i).matched
        notices := s.notices.offer ((s.ctx i).withdrawnNotice i) } := by
  rw [State.endWithdrawal_eq, State.dropMatch_eq, State.worked_modSlot, State.worked_post]
  rfl

/-- A slot that is out of the roster with no discharge running has nothing left to wait for (R165). -/
theorem State.endIfDone_of_done {s : State} {i : Slot} (state : (s.ctx i).state = .withdrawing) (out : s.inRoster i = false)
    (discharge : (s.railOf i).dischargeTimer = none) : s.endIfDone i = s.endWithdrawal i := by
  refine if_pos ?_
  rw [State.withdrawalDone, state, out, discharge]
  rfl

theorem State.endIfDone_of_discharge {s : State} {i : Slot} (h : (s.railOf i).dischargeTimer ≠ none) : s.endIfDone i = s := by
  refine if_neg fun done => h ?_
  rw [State.withdrawalDone, Bool.and_eq_true, Option.isNone_iff_eq_none] at done
  exact done.2

/-! ## The power step (R71) -/

theorem State.powerStep_of_closed {s : State} {i : Slot} (h : (s.railOf i).closed = true) :
    s.powerStep i = (s.modSlot i (SlotRecord.openSwitch s.dischargeUs)).arbitrate := if_pos h

theorem State.powerStep_of_open {s : State} {i : Slot} (h : (s.railOf i).closed = false) : s.powerStep i = s := by
  refine if_neg ?_
  rw [h]
  exact Bool.false_ne_true

/-- A slot outside the ramp queue whose power step is taken waits for its discharge. -/
theorem State.powerStep_endIfDone {s : State} {i : Slot} (closed : (s.railOf i).closed = true)
    (queued : (s.railOf i).queued = false) : (s.powerStep i).endIfDone i = s.powerStep i := by
  refine State.endIfDone_of_discharge ?_
  rw [State.railOf_eq, (s.powerStep_spec i).2.1 closed queued]
  exact Option.some_ne_none _

/-- A second power step finds the switch open. -/
theorem State.powerStep_powerStep {s : State} {i : Slot} (closed : (s.railOf i).closed = true)
    (queued : (s.railOf i).queued = false) : (s.powerStep i).powerStep i = s.powerStep i := by
  refine State.powerStep_of_open ?_
  rw [State.railOf_eq, (s.powerStep_spec i).2.1 closed queued]
  rfl

/-! ## The work that a withdrawal aborts (R88, R151, R166) -/

/-- A slot's record as its work in the state `old` is aborted. -/
def SlotRecord.aborted (old : SlotState) (r : SlotRecord) : SlotRecord :=
  match old with
  | .settling => { r with ctx := { r.ctx with settleTimer := none } }
  | .rampWait => { r with rail := { r.rail with queued := false } }
  | .qualifying | .online => { r with detector := r.detector.stop }
  | .spliceWait => { r with ctx := r.ctx.dropWindows, scan := { r.scan with splice := none, cost := none } }
  | _ => r

/-- The lane and the images as the work of slot `i` in the state `old` is aborted; `c` is the slot's context. -/
def Work.aborted (i : Slot) (old : SlotState) (c : Context) (w : Work) : Work :=
  match old with
  | .identifying => { w with lane := (w.lane.remove i).tryOpen }
  | .spliceWait => { w with imageIn := w.imageIn.give c.inWindow, imageOut := w.imageOut.give c.outWindow }
  | _ => w

/-- The work of a slot that is not in the ramp queue is aborted in one change of its record and of the lane or the images. -/
theorem State.abortWork_eq {s : State} {i : Slot} {old : SlotState}
    (h : old = .rampWait → (s.railOf i).queued = false) : s.abortWork i old
      = s.worked i (SlotRecord.aborted old) (s.work.aborted i old (s.ctx i)) := by
  cases old with
  | rampWait =>
    have out := h rfl
    have left : s.leaveRampQueue i = s := if_neg (by rw [out]; exact Bool.false_ne_true)
    refine left.trans (State.worked_of_fixed ?_).symm
    rw [SlotRecord.aborted, ← show (s.slot i).rail.queued = false from out]
  | spliceWait =>
    have cancelled : s.cancelJoin i = _ := State.releaseWindows_eq _ i
    refine cancelled.trans ?_
    rw [State.modScan_eq, State.modSlot_worked, State.ctx_eq, State.slot_modSlot_self]
    rfl
  | identifying => exact (State.worked_id (s := { s with lane := (s.lane.remove i).tryOpen }) (i := i)).symm
  | disabled | vacant | ramping | parked | withdrawing | refused | quarantined => exact State.worked_id.symm
  | settling | qualifying | online => rfl

/-- A slot that leaves the ramp queue is followed by an evaluation (R60). -/
theorem State.abortWork_of_queued {s : State} {i : Slot} (h : (s.railOf i).queued = true) :
    s.abortWork i .rampWait = (s.worked i (SlotRecord.aborted .rampWait) s.work).arbitrate :=
  (if_pos h : s.leaveRampQueue i = _)

/-! ## The first step of a withdrawal (R29, R166) -/

/-- A slot's record as it becomes WITHDRAWING (R29). -/
def SlotRecord.marked (reason : Reason) (dest : Destination) (r : SlotRecord) : SlotRecord :=
  { r.enter .withdrawing with ctx := { (r.enter .withdrawing).ctx with
      leaving := some .none, destination := some dest, reason := some reason } }

/-- A slot's record after step 1 of its withdrawal. -/
def SlotRecord.begun (reason : Reason) (dest : Destination) (r : SlotRecord) : SlotRecord :=
  (r.marked reason dest).aborted r.ctx.state

/-- The notices as a withdrawal begins: a refusal posts REFUSED with its verdict (R29, R128). -/
def Notices.began (q : Notices) (i : Slot) (reason : Reason) (v : Option Verdict) (data : List Byte) : Notices :=
  if reason = .refused then q.offer ⟨.refused, some i, optionCode (v.map Verdict.code), data⟩ else q

/-- The other blocks after step 1 of a withdrawal of slot `i`; `c` is the slot's context before it. -/
def Work.begun (i : Slot) (reason : Reason) (data : List Byte) (c : Context) (w : Work) : Work :=
  { w with notices := w.notices.began i reason c.verdict data }.aborted i c.state c

/-- The state after step 1 of a withdrawal, the evaluation of a slot that leaves the ramp queue aside. -/
def State.begun (s : State) (i : Slot) (reason : Reason) (dest : Destination) (data : List Byte) : State :=
  s.worked i (SlotRecord.begun reason dest) (s.work.begun i reason data (s.ctx i))

section
variable {s : State} {i : Slot} {reason : Reason} {dest : Destination} {data : List Byte} {r : SlotRecord}

theorem State.markWithdrawing_postRefusal : (s.markWithdrawing i reason dest).postRefusal i reason data
    = s.worked i (SlotRecord.marked reason dest)
        { s.work with notices := s.notices.began i reason (s.ctx i).verdict data } := by
  have verdict : ((s.markWithdrawing i reason dest).ctx i).verdict = (s.ctx i).verdict := by
    rw [State.markWithdrawing_eq, State.ctx_eq, State.slot_modSlot_self]
    exact SlotRecord.enter_ctx_verdict _ _
  unfold State.postRefusal Notices.began
  rw [verdict, State.markWithdrawing_eq]
  split <;> rfl

theorem SlotRecord.marked_ctx : (r.marked reason dest).ctx = { r.ctx with
    state := .withdrawing, missCount := (r.enter .withdrawing).ctx.missCount
    leaving := some .none, destination := some dest, reason := some reason } := by
  unfold SlotRecord.marked
  rw [SlotRecord.enter_ctx]

@[simp] theorem SlotRecord.marked_rail : (r.marked reason dest).rail = r.rail := r.enter_rail _
@[simp] theorem SlotRecord.marked_scan : (r.marked reason dest).scan = r.scan := r.enter_scan _
@[simp] theorem SlotRecord.marked_detector : (r.marked reason dest).detector = r.detector := r.enter_detector _

/-- Step 1 of a withdrawal of a slot that is not waiting in the ramp queue. -/
theorem State.abortWork_begun (h : (s.ctx i).state = .rampWait → (s.railOf i).queued = false) :
    ((s.markWithdrawing i reason dest).postRefusal i reason data).abortWork i (s.ctx i).state
      = s.begun i reason dest data := by
  rw [State.markWithdrawing_postRefusal, State.abortWork_eq, State.worked_worked, State.work_worked, State.ctx_worked_self]
  · unfold State.begun Work.begun
    have windows : ((s.slot i).marked reason dest).ctx.inWindow = (s.ctx i).inWindow
        ∧ ((s.slot i).marked reason dest).ctx.outWindow = (s.ctx i).outWindow := by
      rw [SlotRecord.marked_ctx]
      exact ⟨rfl, rfl⟩
    have reached : ∀ w : Work, w.aborted i (s.ctx i).state ((s.slot i).marked reason dest).ctx
        = w.aborted i (s.ctx i).state (s.ctx i) := fun w => by
      unfold Work.aborted
      rw [windows.1, windows.2]
    rw [State.ctx_eq] at reached ⊢
    rw [reached]
    exact State.worked_congr rfl
  · rw [State.railOf_worked_self, SlotRecord.marked_rail]
    exact h

/-- Step 1 of a withdrawal of a slot that waits in the ramp queue ends in an evaluation (R60). -/
theorem State.abortWork_begun_of_queued (state : (s.ctx i).state = .rampWait) (queued : (s.railOf i).queued = true) :
    ((s.markWithdrawing i reason dest).postRefusal i reason data).abortWork i (s.ctx i).state
      = (s.begun i reason dest data).arbitrate := by
  rw [State.markWithdrawing_postRefusal, state, State.abortWork_of_queued, State.worked_worked, State.work_worked]
  · unfold State.begun Work.begun
    rw [state]
    congr 1
    refine State.worked_congr ?_
    rw [SlotRecord.begun, ← State.ctx_eq, state]
  · rw [State.railOf_worked_self, SlotRecord.marked_rail]
    exact queued

/-! ## What step 1 leaves of the record -/

/-- Aborting a slot's work reaches the settle timer and the windows of its context. -/
theorem SlotRecord.aborted_ctx (old : SlotState) (r : SlotRecord) : (r.aborted old).ctx = { r.ctx with
    settleTimer := (r.aborted old).ctx.settleTimer, inWindow := (r.aborted old).ctx.inWindow
    outWindow := (r.aborted old).ctx.outWindow, inputQuality := (r.aborted old).ctx.inputQuality } := by
  cases old <;> rfl

theorem SlotRecord.aborted_rail (old : SlotState) (r : SlotRecord) :
    (r.aborted old).rail = { r.rail with queued := (r.aborted old).rail.queued } := by
  cases old <;> rfl

theorem SlotRecord.aborted_queued (old : SlotState) {r : SlotRecord} (h : r.rail.queued = false) :
    (r.aborted old).rail.queued = false := by
  cases old <;> first | exact h | rfl

theorem SlotRecord.aborted_skip (old : SlotState) (r : SlotRecord) : (r.aborted old).scan.skip = r.scan.skip := by
  cases old <;> rfl

theorem SlotRecord.aborted_monitor (old : SlotState) (r : SlotRecord) : (r.aborted old).monitor = r.monitor := by
  cases old <;> rfl

theorem SlotRecord.begun_ctx : (r.begun reason dest).ctx = { r.ctx with
    state := .withdrawing, missCount := (r.begun reason dest).ctx.missCount
    leaving := some .none, destination := some dest, reason := some reason
    settleTimer := (r.begun reason dest).ctx.settleTimer, inWindow := (r.begun reason dest).ctx.inWindow
    outWindow := (r.begun reason dest).ctx.outWindow, inputQuality := (r.begun reason dest).ctx.inputQuality } := by
  unfold SlotRecord.begun
  rw [SlotRecord.aborted_ctx, SlotRecord.marked_ctx]

theorem SlotRecord.begun_rail :
    (r.begun reason dest).rail = { r.rail with queued := (r.begun reason dest).rail.queued } := by
  unfold SlotRecord.begun
  rw [SlotRecord.aborted_rail, SlotRecord.marked_rail]

theorem SlotRecord.begun_queued (h : r.rail.queued = false) : (r.begun reason dest).rail.queued = false :=
  SlotRecord.aborted_queued _ (by rw [SlotRecord.marked_rail]; exact h)

theorem SlotRecord.begun_skip : (r.begun reason dest).scan.skip = r.scan.skip := by
  rw [SlotRecord.begun, SlotRecord.aborted_skip, SlotRecord.marked_scan]

theorem State.slot_begun : (s.begun i reason dest data).slot i = (s.slot i).begun reason dest := State.slot_worked_self

theorem State.inRoster_begun : (s.begun i reason dest data).inRoster i = s.inRoster i := by
  unfold State.inRoster
  rw [State.scanOf_eq, State.slot_begun, SlotRecord.begun_skip]
  rfl

/-! ## How a withdrawal goes on (R165) -/

/-- A withdrawal of a slot whose switch is closed, outside the roster, takes its power step and waits for the discharge. -/
theorem State.beginWithdrawal_of_closed (early : Bool) (out : s.inRoster i = false) (closed : (s.railOf i).closed = true)
    (queued : (s.railOf i).queued = false) :
    s.beginWithdrawal i reason dest early data = (s.begun i reason dest data).powerStep i := by
  have closed' : ((s.begun i reason dest data).railOf i).closed = true := by
    rw [State.railOf_eq, State.slot_begun, SlotRecord.begun_rail]
    exact closed
  have queued' : ((s.begun i reason dest data).railOf i).queued = false := by
    rw [State.railOf_eq, State.slot_begun]
    exact SlotRecord.begun_queued queued
  have stays : ((s.begun i reason dest data).powerStep i).inRoster i = false := by
    rw [State.inRoster, State.scanOf_eq, ((s.begun i reason dest data).powerStep_spec i).2.1 closed' queued']
    exact State.inRoster_begun.trans out
  unfold State.beginWithdrawal
  dsimp only
  rw [State.abortWork_begun fun _ => queued]
  cases early with
  | false =>
    rw [if_neg Bool.false_ne_true, State.inRoster_begun, out, if_neg Bool.false_ne_true,
      State.powerStep_endIfDone closed' queued']
  | true =>
    rw [if_pos rfl, stays, if_neg Bool.false_ne_true, State.powerStep_powerStep closed' queued',
      State.powerStep_endIfDone closed' queued']

/-- What is left of a withdrawal after step 1 for a slot outside the roster, with its switch open and no discharge. -/
theorem State.withdrawal_of_open {t : State} (early : Bool) (state : (t.ctx i).state = .withdrawing)
    (out : t.inRoster i = false) (closed : (t.railOf i).closed = false) (discharge : (t.railOf i).dischargeTimer = none) :
    (let u := if early then t.powerStep i else t
      if u.inRoster i then u.requestDeparture i else (u.powerStep i).endIfDone i) = t.endWithdrawal i := by
  have same : (if early then t.powerStep i else t) = t := by
    cases early with
    | false => rfl
    | true => exact State.powerStep_of_open closed
  dsimp only
  rw [same, out, if_neg Bool.false_ne_true, State.powerStep_of_open closed, State.endIfDone_of_done state out discharge]

/-- A withdrawal of a slot outside the roster whose switch is open, with no discharge, ends within the event. -/
theorem State.beginWithdrawal_of_open (early : Bool) (out : s.inRoster i = false) (closed : (s.railOf i).closed = false)
    (discharge : (s.railOf i).dischargeTimer = none)
    (queued : (s.ctx i).state = .rampWait → (s.railOf i).queued = false) :
    s.beginWithdrawal i reason dest early data = (s.begun i reason dest data).endWithdrawal i := by
  unfold State.beginWithdrawal
  dsimp only
  rw [State.abortWork_begun queued]
  refine State.withdrawal_of_open early ?_ (State.inRoster_begun.trans out) ?_ ?_
  · rw [State.ctx_eq, State.slot_begun, SlotRecord.begun_ctx]
  · rw [State.railOf_eq, State.slot_begun, SlotRecord.begun_rail]
    exact closed
  · rw [State.railOf_eq, State.slot_begun, SlotRecord.begun_rail]
    exact discharge

/-- The same of a slot that waits in the ramp queue, after the evaluation that its leaving makes. -/
theorem State.beginWithdrawal_of_waiting (early : Bool) (out : s.inRoster i = false)
    (closed : (s.railOf i).closed = false) (discharge : (s.railOf i).dischargeTimer = none)
    (state : (s.ctx i).state = .rampWait) (queued : (s.railOf i).queued = true) :
    s.beginWithdrawal i reason dest early data = (s.begun i reason dest data).arbitrate.endWithdrawal i := by
  have left : (s.begun i reason dest data).arbitrate.slot i = (s.slot i).begun reason dest := by
    rw [State.arbitrate_slot_of_not_queued, State.slot_begun]
    rw [State.slot_begun, SlotRecord.begun, ← State.ctx_eq, state]
    rfl
  unfold State.beginWithdrawal
  dsimp only
  rw [State.abortWork_begun_of_queued state queued]
  refine State.withdrawal_of_open early ?_ ?_ ?_ ?_
  · rw [State.ctx_eq, left, SlotRecord.begun_ctx]
  · rw [State.inRoster, State.scanOf_eq, left, SlotRecord.begun_skip]
    exact out
  · rw [State.railOf_eq, left, SlotRecord.begun_rail]
    exact closed
  · rw [State.railOf_eq, left, SlotRecord.begun_rail]
    exact discharge

/-- A withdrawal of a slot in the roster asks the scan for its departure; an early removal takes its power step ahead of it
(R167, R169). -/
theorem State.beginWithdrawal_of_roster (early : Bool) (roster : s.inRoster i = true)
    (queued : (s.ctx i).state = .rampWait → (s.railOf i).queued = false)
    (ready : early = true → (s.railOf i).queued = false) :
    s.beginWithdrawal i reason dest early data
      = (if early then (s.begun i reason dest data).powerStep i else s.begun i reason dest data).requestDeparture i := by
  have stays : (if early then (s.begun i reason dest data).powerStep i else s.begun i reason dest data).inRoster i = true := by
    cases early with
    | false => exact State.inRoster_begun.trans roster
    | true =>
      rw [if_pos rfl]
      cases closed : ((s.begun i reason dest data).railOf i).closed with
      | false =>
        rw [State.powerStep_of_open closed]
        exact State.inRoster_begun.trans roster
      | true =>
        rw [State.inRoster, State.scanOf_eq, ((s.begun i reason dest data).powerStep_spec i).2.1 closed (by
          rw [State.slot_begun]
          exact SlotRecord.begun_queued (ready rfl))]
        exact State.inRoster_begun.trans roster
  unfold State.beginWithdrawal
  dsimp only
  rw [State.abortWork_begun queued, stays, if_pos rfl]

/-! ## The departure (R154, R168) -/

/-- The state as a slot leaves the roster without its windows, its power step aside. -/
def State.departed (s : State) (i : Slot) : State :=
  s.worked i (fun r => { r.windowless with scan := ScanSlot.reset }) { s.work with
    imageIn := s.imageIn.give (s.ctx i).inWindow, imageOut := s.imageOut.give (s.ctx i).outWindow }

theorem State.depart_eq : s.depart i = ((s.departed i).powerStep i).endIfDone i := by
  have left : (s.modScan i fun _ => ScanSlot.reset).releaseWindows i = s.departed i := by
    rw [State.releaseWindows_eq, State.modScan_eq, State.modSlot_worked, State.ctx_eq, State.slot_modSlot_self]
    rfl
  unfold State.depart
  rw [left]

theorem State.slot_departed : (s.departed i).slot i = { (s.slot i).windowless with scan := ScanSlot.reset } :=
  State.slot_worked_self

/-- A slot that departs with its switch closed takes its power step. -/
theorem State.depart_of_closed (closed : (s.railOf i).closed = true) (queued : (s.railOf i).queued = false) :
    s.depart i = (s.departed i).powerStep i := by
  rw [State.depart_eq, State.powerStep_endIfDone]
  · rw [State.railOf_eq, State.slot_departed]
    exact closed
  · rw [State.railOf_eq, State.slot_departed]
    exact queued

/-- A slot whose power step and discharge are behind it ends its withdrawal as it departs. -/
theorem State.depart_of_open (state : (s.ctx i).state = .withdrawing) (closed : (s.railOf i).closed = false)
    (discharge : (s.railOf i).dischargeTimer = none) : s.depart i = (s.departed i).endWithdrawal i := by
  rw [State.depart_eq, State.powerStep_of_open, State.endIfDone_of_done]
  · rw [State.ctx_eq, State.slot_departed]
    exact state
  · rw [State.inRoster, State.scanOf_eq, State.slot_departed]
    rfl
  · rw [State.railOf_eq, State.slot_departed]
    exact discharge
  · rw [State.railOf_eq, State.slot_departed]
    exact closed

/-- A slot whose discharge still runs departs and waits for it. -/
theorem State.depart_of_discharge (closed : (s.railOf i).closed = false) (discharge : (s.railOf i).dischargeTimer ≠ none) :
    s.depart i = s.departed i := by
  rw [State.depart_eq, State.powerStep_of_open, State.endIfDone_of_discharge]
  · rw [State.railOf_eq, State.slot_departed]
    exact discharge
  · rw [State.railOf_eq, State.slot_departed]
    exact closed

end

end Sys2Proof.Machine

/-! What a withdrawal of one slot reaches, evaluations of the arbiter included, and the frames of the statements that follow
from it. -/

namespace Sys2Proof.Machine

open Sys2Proof Sys2Proof.Safety

set_option Elab.async false

/-! ## What an event of one slot reaches -/

/-- `t` is `s` but for slot `i`, whose record is `r`, the slots of the ramp queue with last granted, as evaluations change them,
and the blocks of `w`. -/
structure State.Reaches (i : Slot) (r : SlotRecord) (w : Work) (s t : State) : Prop where
  own : t.slot i = r
  others : ∀ j, j ≠ i → (s.railOf j).queued = false → t.slot j = s.slot j
  work : t.work = w
  rest : { t with
    slots := s.slots, lane := s.lane, imageIn := s.imageIn, imageOut := s.imageOut, directory := s.directory
    notices := s.notices, rail := { t.rail with lastGranted := s.rail.lastGranted } } = s

namespace State.Reaches

section
variable {s t : State} {i : Slot} {r : SlotRecord} {w : Work}

theorem refl (s : State) (i : Slot) : Reaches i (s.slot i) s.work s s := ⟨rfl, fun _ _ _ => rfl, rfl, rfl⟩

theorem params (h : Reaches i r w s t) : t.params = s.params := (congrArg State.params h.rest :)
theorem link (h : Reaches i r w s t) : t.link = s.link := (congrArg State.link h.rest :)
theorem scan (h : Reaches i r w s t) : t.scan = s.scan := (congrArg State.scan h.rest :)
theorem clock (h : Reaches i r w s t) : t.clock = s.clock := (congrArg State.clock h.rest :)
theorem lane (h : Reaches i r w s t) : t.lane = w.lane := congrArg Work.lane h.work
theorem imageIn (h : Reaches i r w s t) : t.imageIn = w.imageIn := congrArg Work.imageIn h.work
theorem imageOut (h : Reaches i r w s t) : t.imageOut = w.imageOut := congrArg Work.imageOut h.work
theorem directory (h : Reaches i r w s t) : t.directory = w.directory := congrArg Work.directory h.work
theorem notices (h : Reaches i r w s t) : t.notices = w.notices := congrArg Work.notices h.work

theorem effective (h : Reaches i r w s t) : t.rail.effective = s.rail.effective :=
  (congrArg (fun u : State => u.rail.effective) h.rest :)

theorem ctx (h : Reaches i r w s t) : t.ctx i = r.ctx := congrArg SlotRecord.ctx h.own
theorem railOf (h : Reaches i r w s t) : t.railOf i = r.rail := congrArg SlotRecord.rail h.own
theorem det (h : Reaches i r w s t) : t.det i = r.detector := congrArg SlotRecord.detector h.own
theorem scanOf (h : Reaches i r w s t) : t.scanOf i = r.scan := congrArg SlotRecord.scan h.own
theorem mon (h : Reaches i r w s t) : t.mon i = r.monitor := congrArg SlotRecord.monitor h.own

theorem dischargeUs (h : Reaches i r w s t) : t.dischargeUs = s.dischargeUs := by
  rw [State.dischargeUs, h.params]
  rfl

theorem longSettleUs (h : Reaches i r w s t) : t.longSettleUs = s.longSettleUs := by
  rw [State.longSettleUs, State.settleUs, h.dischargeUs, h.params]
  rfl

theorem inRoster (h : Reaches i r w s t) : t.inRoster i = r.scan.skip.isSome := by
  rw [State.inRoster, h.scanOf]

/-- A further change of the slot's record and of the blocks. -/
theorem worked (h : Reaches i r w s t) (f : SlotRecord → SlotRecord) (v : Work) :
    Reaches i (f r) v s (t.worked i f v) where
  own := by rw [State.slot_worked_self, h.own]
  others j hj queued := by rw [State.slot_worked_ne hj, h.others j hj queued]
  work := rfl
  rest := h.rest

theorem modSlot (h : Reaches i r w s t) (f : SlotRecord → SlotRecord) : Reaches i (f r) w s (t.modSlot i f) := by
  have := h.worked f t.work
  rw [h.work] at this
  rw [State.modSlot_eq_worked, h.work]
  exact this

theorem post (h : Reaches i r w s t) (n : Notice) :
    Reaches i r { w with notices := w.notices.offer n } s (t.post n) where
  own := h.own
  others := h.others
  work := by rw [← h.work]; rfl
  rest := h.rest

theorem modLane (h : Reaches i r w s t) (f : Lane → Lane) : Reaches i r { w with lane := f w.lane } s (t.modLane f) where
  own := h.own
  others := h.others
  work := by rw [← h.work]; rfl
  rest := h.rest

/-- An evaluation leaves a slot outside the ramp queue. -/
theorem arbitrate (h : Reaches i r w s t) (queued : r.rail.queued = false) : Reaches i r w s t.arbitrate where
  own := by rw [State.arbitrate_slot_of_not_queued (by rw [h.own]; exact queued), h.own]
  others j hj out := by
    rw [State.arbitrate_slot_of_not_queued (by rw [h.others j hj out]; exact out), h.others j hj out]
  work := by
    rw [← h.work, State.work, State.arbitrate_lane, State.arbitrate_imageIn, State.arbitrate_imageOut,
      State.arbitrate_directory, State.arbitrate_notices]
    rfl
  rest := by
    have last : { t.rail with lastGranted := s.rail.lastGranted } = s.rail := (congrArg State.rail h.rest :)
    refine Eq.trans ?_ h.rest
    exact (congrArg (fun u : State => { u with
      slots := s.slots, lane := s.lane, imageIn := s.imageIn, imageOut := s.imageOut, directory := s.directory
      notices := s.notices, rail := { u.rail with lastGranted := s.rail.lastGranted } }) t.arbitrate_rest :)

theorem powerStep (h : Reaches i r w s t) (closed : r.rail.closed = true) (queued : r.rail.queued = false) :
    Reaches i (r.openSwitch s.dischargeUs) w s (t.powerStep i) := by
  rw [State.powerStep_of_closed (by rw [h.railOf]; exact closed), h.dischargeUs]
  exact (h.modSlot _).arbitrate queued

theorem endWithdrawal (h : Reaches i r w s t) : Reaches i (r.unmatched.withdrawn s.longSettleUs)
    { w with directory := w.directory.unuse r.ctx.matched, notices := w.notices.offer (r.ctx.withdrawnNotice i) } s
    (t.endWithdrawal i) := by
  rw [State.endWithdrawal_worked, h.longSettleUs, h.ctx, h.work, h.directory, h.notices]
  exact h.worked (fun r => r.unmatched.withdrawn s.longSettleUs) _

theorem begun (h : Reaches i r w s t) (reason : Reason) (dest : Destination) (data : List Byte) :
    Reaches i (r.begun reason dest) (w.begun i reason data r.ctx) s (t.begun i reason dest data) := by
  unfold State.begun
  rw [h.ctx, h.work]
  exact h.worked _ _

theorem departed (h : Reaches i r w s t) : Reaches i { r.windowless with scan := ScanSlot.reset }
    { w with imageIn := w.imageIn.give r.ctx.inWindow, imageOut := w.imageOut.give r.ctx.outWindow } s (t.departed i) := by
  unfold State.departed
  rw [h.ctx, h.work, h.imageIn, h.imageOut]
  exact h.worked (fun r => { r.windowless with scan := ScanSlot.reset }) _

variable {reason : Reason} {dest : Destination} {data : List Byte}

/-- A withdrawal that takes its power step and waits for its discharge. -/
theorem beginWithdrawal_closed (h : Reaches i r w s t) (early : Bool) (out : r.scan.skip = none)
    (closed : r.rail.closed = true) (queued : r.rail.queued = false) :
    Reaches i ((r.begun reason dest).openSwitch s.dischargeUs) (w.begun i reason data r.ctx) s
      (t.beginWithdrawal i reason dest early data) := by
  rw [State.beginWithdrawal_of_closed early (by rw [h.inRoster, out]; rfl) (by rw [h.railOf]; exact closed)
    (by rw [h.railOf]; exact queued)]
  exact (h.begun reason dest data).powerStep (by rw [SlotRecord.begun_rail]; exact closed) (SlotRecord.begun_queued queued)

/-- A withdrawal that ends within its event. -/
theorem beginWithdrawal_open (h : Reaches i r w s t) (early : Bool) (out : r.scan.skip = none)
    (closed : r.rail.closed = false) (discharge : r.rail.dischargeTimer = none) :
    Reaches i ((r.begun reason dest).unmatched.withdrawn s.longSettleUs)
      { w.begun i reason data r.ctx with
        directory := (w.begun i reason data r.ctx).directory.unuse r.ctx.matched
        notices := (w.begun i reason data r.ctx).notices.offer ((r.begun reason dest).ctx.withdrawnNotice i) } s
      (t.beginWithdrawal i reason dest early data) := by
  have roster : t.inRoster i = false := by rw [h.inRoster, out]; rfl
  have open_ : (t.railOf i).closed = false := by rw [h.railOf]; exact closed
  have none_ : (t.railOf i).dischargeTimer = none := by rw [h.railOf]; exact discharge
  have begun := h.begun reason dest data
  have matched : (r.begun reason dest).ctx.matched = r.ctx.matched := by rw [SlotRecord.begun_ctx]
  rw [← matched]
  by_cases waiting : (t.ctx i).state = .rampWait ∧ (t.railOf i).queued = true
  · rw [State.beginWithdrawal_of_waiting early roster open_ none_ waiting.1 waiting.2]
    refine (begun.arbitrate ?_).endWithdrawal
    rw [SlotRecord.begun, ← h.ctx, waiting.1]
    rfl
  · rw [State.beginWithdrawal_of_open early roster open_ none_ fun state => by
      rw [Bool.eq_false_iff]
      exact fun queued => waiting ⟨state, queued⟩]
    exact begun.endWithdrawal

/-- A departure that takes its power step. -/
theorem depart_closed (h : Reaches i r w s t) (closed : r.rail.closed = true) (queued : r.rail.queued = false) :
    Reaches i ({ r.windowless with scan := ScanSlot.reset }.openSwitch s.dischargeUs)
      { w with imageIn := w.imageIn.give r.ctx.inWindow, imageOut := w.imageOut.give r.ctx.outWindow } s (t.depart i) := by
  rw [State.depart_of_closed (by rw [h.railOf]; exact closed) (by rw [h.railOf]; exact queued)]
  exact h.departed.powerStep closed queued

/-- A departure that ends its withdrawal. -/
theorem depart_open (h : Reaches i r w s t) (state : r.ctx.state = .withdrawing) (closed : r.rail.closed = false)
    (discharge : r.rail.dischargeTimer = none) :
    Reaches i ({ r.windowless with scan := ScanSlot.reset }.unmatched.withdrawn s.longSettleUs)
      { w with
        imageIn := w.imageIn.give r.ctx.inWindow, imageOut := w.imageOut.give r.ctx.outWindow
        directory := w.directory.unuse r.ctx.matched, notices := w.notices.offer (r.ctx.dropWindows.withdrawnNotice i) }
      s (t.depart i) := by
  rw [State.depart_of_open (by rw [h.ctx]; exact state) (by rw [h.railOf]; exact closed)
    (by rw [h.railOf]; exact discharge)]
  exact h.departed.endWithdrawal

/-! ## The frames of the statements -/

theorem onlySlotAndWork (h : Reaches i r w s t) (age : w.directory.ageTimer = s.directory.ageTimer) :
    OnlySlotAndWork i s t :=
  ⟨h.others, congrArg (fun u : State => { u with link := s.link }) h.rest, by rw [h.directory]; exact age⟩

theorem onlySlotLaneAndGrants (h : Reaches i r w s t) (imageIn : w.imageIn = s.imageIn) (imageOut : w.imageOut = s.imageOut)
    (directory : w.directory = s.directory) : OnlySlotLaneAndGrants i s t := by
  refine ⟨h.others, Eq.trans ?_ h.rest⟩
  rw [← imageIn, ← h.imageIn, ← imageOut, ← h.imageOut, ← directory, ← h.directory]

theorem onlySlotAndGrants (h : Reaches i r w s t) (lane : w.lane = s.lane) (imageIn : w.imageIn = s.imageIn)
    (imageOut : w.imageOut = s.imageOut) (directory : w.directory = s.directory) : OnlySlotAndGrants i s t := by
  obtain ⟨others, rest⟩ := h.onlySlotLaneAndGrants imageIn imageOut directory
  refine ⟨others, Eq.trans ?_ rest⟩
  rw [← lane, ← h.lane, h.link]

end

end State.Reaches

/-! ## A card that is powered down (R29, R71) -/

section
variable {s t : State} {i : Slot} {q : SlotRecord} {reason : Reason} {dest : Destination}

theorem poweredDown_of_slot (own : t.slot i = (q.begun reason dest).openSwitch s.dischargeUs)
    (identity : q.ctx.identity = (s.ctx i).identity) (matched : q.ctx.matched = (s.ctx i).matched)
    (policy : q.ctx.policy = (s.ctx i).policy) (contact : q.ctx.contact = (s.ctx i).contact) :
    PoweredDown i s t reason dest := by
  unfold PoweredDown
  rw [← identity, ← matched, ← policy, ← contact, State.ctx_eq, State.railOf_eq, own]
  unfold SlotRecord.openSwitch
  rw [SlotRecord.begun_ctx]
  exact ⟨rfl, rfl, rfl, rfl, rfl, rfl, rfl, rfl, rfl, rfl, rfl, rfl, rfl⟩

theorem powerStepTaken_of_slot (own : t.slot i = q.openSwitch s.dischargeUs) : PowerStepTaken i s t := by
  unfold PowerStepTaken
  rw [State.ctx_eq, State.railOf_eq, own]
  exact ⟨rfl, rfl, rfl, rfl, rfl⟩

end

/-! ## A withdrawal that has ended (R22 to R24, R49, R50) -/

section
variable {r : SlotRecord} {us : Nat}

theorem SlotRecord.withdrawn_state : (r.withdrawn us).ctx.state = r.ctx.endState := SlotRecord.enterAt_state

theorem SlotRecord.withdrawn_ctx : (r.withdrawn us).ctx = { r.ctx with
    state := r.ctx.endState, destination := none, reason := none, leaving := none
    missCount := (r.withdrawn us).ctx.missCount, identity := (r.withdrawn us).ctx.identity
    verdict := (r.withdrawn us).ctx.verdict, inrushClass := (r.withdrawn us).ctx.inrushClass
    attempts := (r.withdrawn us).ctx.attempts, settleTimer := (r.withdrawn us).ctx.settleTimer } :=
  SlotRecord.enterAt_ctx

@[simp] theorem SlotRecord.withdrawn_rail : (r.withdrawn us).rail = r.rail := SlotRecord.enterAt_rail
@[simp] theorem SlotRecord.withdrawn_detector : (r.withdrawn us).detector = r.detector := SlotRecord.enterAt_detector
@[simp] theorem SlotRecord.withdrawn_scan : (r.withdrawn us).scan = r.scan := SlotRecord.enterAt_scan

/-- A slot that ends its withdrawal in REFUSED or QUARANTINED keeps its identity, verdict and attempts (R24). -/
theorem SlotRecord.withdrawn_held (h : r.ctx.endState = .refused ∨ r.ctx.endState = .quarantined) :
    r.withdrawn us = r.unleaving.enter r.ctx.endState := by
  unfold SlotRecord.withdrawn
  rcases h with h | h <;> rw [h] <;> rfl

theorem SlotRecord.withdrawn_settling (h : r.ctx.endState = .settling) :
    r.withdrawn us = r.unleaving.settleFor us := by
  unfold SlotRecord.withdrawn
  rw [h]
  rfl

theorem SlotRecord.withdrawn_empty (h : r.ctx.endState = .vacant ∨ r.ctx.endState = .disabled) :
    r.withdrawn us = { r.unleaving.enter r.ctx.endState with ctx := (r.unleaving.enter r.ctx.endState).ctx.cleared } := by
  unfold SlotRecord.withdrawn
  rcases h with h | h <;> rw [h] <;> rfl

end

theorem Context.endState_eq (c : Context) : c.endState = endOf c.policy c.contact (c.destination.getD .settling) := by
  unfold Context.endState endOf
  cases c.destination.getD .settling <;> rfl

theorem entry_of_unuse {s t : State} {m : Option EntryIndex} (h : t.directory = s.directory.unuse m) (k : EntryIndex) :
    t.entry k = if m = some k then { s.entry k with users := (s.entry k).users - 1 } else s.entry k := by
  rw [State.entry, h]
  cases m with
  | none => rfl
  | some n =>
    by_cases e : n = k
    · subst e
      rw [if_pos rfl]
      exact Vector.getElem_set_self _
    · rw [if_neg fun h => e (Option.some.inj h)]
      exact Vector.getElem_set_ne n.isLt k.isLt fun h => e (Fin.ext h)

section
variable {s t : State} {i : Slot} {q : SlotRecord} {dest : Destination}

theorem matchDropped_of_unuse (own : (t.ctx i).matched = none) (directory : t.directory = s.directory.unuse (s.ctx i).matched) :
    MatchDropped i s t := ⟨own, entry_of_unuse directory⟩

/-- The end of a withdrawal to the destination `dest`. -/
theorem withdrawalEnded_of_slot (own : t.slot i = q.unmatched.withdrawn s.longSettleUs)
    (destination : q.ctx.destination = some dest) (directory : t.directory = s.directory.unuse (s.ctx i).matched) :
    WithdrawalEnded i s t (endOf q.ctx.policy q.ctx.contact dest) := by
  have ends : q.unmatched.ctx.endState = endOf q.ctx.policy q.ctx.contact dest := by
    rw [Context.endState_eq]
    change endOf _ _ (q.ctx.destination.getD _) = _
    rw [destination]
    rfl
  have ctx : t.ctx i = (q.unmatched.withdrawn s.longSettleUs).ctx := congrArg SlotRecord.ctx own
  refine ⟨?_, ?_, ?_, ?_, matchDropped_of_unuse ?_ directory, fun settling => ?_⟩
  · rw [ctx, SlotRecord.withdrawn_state, ends]
  · rw [ctx, SlotRecord.withdrawn_ctx]
  · rw [ctx, SlotRecord.withdrawn_ctx]
  · rw [ctx, SlotRecord.withdrawn_ctx]
  · rw [ctx, SlotRecord.withdrawn_ctx]
    rfl
  · rw [ctx, SlotRecord.withdrawn_settling (ends.trans settling), SlotRecord.settleFor_ctx]
    rfl

end

/-! ## The work that is aborted (R88, R151, R166) -/

/-- A slot leaves an identify queue in which no slot stands twice, wherever it stands (R88). -/
theorem Lane.remove_queue {l : Lane} {i : Slot} (nodup : l.queue.Nodup) : (l.remove i).queue = l.queue.filter (· ≠ i) := by
  unfold Lane.remove
  cases queue : l.queue with
  | nil => rw [List.filter_nil]; exact queue
  | cons h rest =>
    rw [queue, List.nodup_cons] at nodup
    by_cases e : h = i
    · subst e
      have gone : (h :: rest).filter (· ≠ h) = rest := by
        rw [List.filter_cons_of_neg (by simp), List.filter_eq_self]
        intro j hj
        exact decide_eq_true fun e => nodup.1 (e ▸ hj)
      rw [gone]
      dsimp only
      rw [if_neg (not_not.mpr rfl)]
      split
      · split <;> rfl
      · rfl
    · dsimp only
      rw [if_pos e, List.filter_cons_of_pos (by exact decide_eq_true e)]

/-- A withdrawal orphans the open transaction of its head (R88). -/
theorem Lane.remove_head {l : Lane} {i : Slot} {p : LanePhase} {rest : List Slot} (queue : l.queue = i :: rest)
    (transaction : l.transaction = some ⟨i, p, false⟩) : l.remove i
      = { l with queue := rest, readBegun := false, transaction := some ⟨i, p, true⟩ } := by
  simp [Lane.remove, queue, transaction]

theorem Lane.tryOpen_of_state {l : Lane} (h : l.state ≠ .idle) : l.tryOpen = l := by
  rcases l.tryOpen_cases with ⟨_, _, -, idle, -⟩ | ⟨-, e⟩
  · exact absurd idle h
  · exact e

section
variable {s t : State} {i : Slot} {q : SlotRecord} {reason : Reason} {dest : Destination} {data : List Byte}

/-- A slot whose windows have gone back to the images. -/
theorem windowsReleased_of_give (ctx : (t.ctx i).inWindow = none ∧ (t.ctx i).outWindow = none ∧ (t.ctx i).inputQuality = none)
    (imageIn : t.imageIn = s.imageIn.give (s.ctx i).inWindow) (imageOut : t.imageOut = s.imageOut.give (s.ctx i).outWindow) :
    WindowsReleased i s t := by
  obtain ⟨inWindow, outWindow, quality⟩ := ctx
  refine ⟨inWindow, outWindow, quality, ?_, ?_, ?_, ?_⟩
  · rw [imageIn, Image.give_mem]
  · rw [imageOut, Image.give_mem]
  · rw [imageIn, Image.give_freeTotal]
  · rw [imageOut, Image.give_freeTotal]

/-- What is left of the record's work after step 1 of a withdrawal from the state of `q`: the parts that no later step of the
event changes. -/
structure SlotRecord.WorkLeft (q r : SlotRecord) : Prop where
  settle : q.ctx.state = .settling → r.ctx.settleTimer = none
  queued : r.rail.queued = (q.aborted q.ctx.state).rail.queued
  detector : r.detector = (q.aborted q.ctx.state).detector
  scan : r.scan = (q.aborted q.ctx.state).scan
  inWindow : r.ctx.inWindow = (q.aborted q.ctx.state).ctx.inWindow
  outWindow : r.ctx.outWindow = (q.aborted q.ctx.state).ctx.outWindow
  inputQuality : r.ctx.inputQuality = (q.aborted q.ctx.state).ctx.inputQuality

/-- The blocks as the work of slot `i` is aborted, from a record and a state that its event has not touched there. -/
theorem workAborted_of_slot (state : q.ctx.state = (s.ctx i).state) (inWindow : q.ctx.inWindow = (s.ctx i).inWindow)
    (outWindow : q.ctx.outWindow = (s.ctx i).outWindow) (left : q.WorkLeft (t.slot i))
    (lane : t.lane = (s.work.aborted i q.ctx.state q.ctx).lane)
    (imageIn : t.imageIn = (s.work.aborted i q.ctx.state q.ctx).imageIn)
    (imageOut : t.imageOut = (s.work.aborted i q.ctx.state q.ctx).imageOut) : WorkAborted i s t := by
  obtain ⟨settle, queued, detector, scan, win, wout, quality⟩ := left
  rw [state] at settle queued detector scan win wout quality lane imageIn imageOut
  refine ⟨settle, fun h => ?_, fun h => ?_, fun h => ?_, fun h nodup => ?_, fun h p rest queue busy transaction => ?_,
    fun h => ?_, fun h => ?_⟩
  · rw [h] at queued
    exact queued
  · rw [h] at detector
    rw [State.det_eq, detector]
    exact ⟨rfl, rfl, rfl⟩
  · rw [lane]
    cases st : (s.ctx i).state <;> first | rfl | exact absurd st h
  · rw [lane, h]
    exact (Lane.tryOpen_queue _).trans (Lane.remove_queue nodup)
  · have left : t.lane = { s.lane with queue := rest, readBegun := false, transaction := some ⟨i, p, true⟩ } := by
      rw [lane, h]
      change (s.lane.remove i).tryOpen = _
      rw [Lane.remove_head queue transaction, Lane.tryOpen_of_state (by rw [busy]; decide)]
    rw [left]
    exact ⟨rfl, busy⟩
  · rw [imageIn, imageOut]
    cases st : (s.ctx i).state <;> first | exact ⟨rfl, rfl⟩ | exact absurd st h
  · rw [h] at scan win wout quality imageIn imageOut
    rw [State.scanOf_eq, scan]
    refine ⟨rfl, rfl, windowsReleased_of_give ⟨win, wout, quality⟩ ?_ ?_⟩
    · rw [imageIn, ← inWindow]
      rfl
    · rw [imageOut, ← outWindow]
      rfl

end

end Sys2Proof.Machine

/-! Withdrawals that begin or end with an event of one slot: the discharge, the faults, and the host's requests (2.8, 2.9, 3.7
and Section 9). -/

namespace Sys2Proof.Machine

open Sys2Proof Sys2Proof.Safety

set_option Elab.async false

/-! ## The end of a discharge (R49, R50, R72, R165) -/

/-- A change of one slot with a user less of an entry and other notices. -/
theorem onlySlotAndMatch_worked {s : State} {i : Slot} {f : SlotRecord → SlotRecord} {m : Option EntryIndex} {q : Notices} :
    OnlySlotAndMatch i s (s.worked i f { s.work with directory := s.directory.unuse m, notices := q }) :=
  ⟨fun _ hj => State.slot_worked_ne hj, rfl, Directory.unuse_ageTimer _ _⟩

/-- A slot's record as its discharge ends. -/
def SlotRecord.discharged (r : SlotRecord) : SlotRecord := { r with rail := { r.rail with dischargeTimer := none } }

section
variable {s : State} {i : Slot} {us : Nat} (running : (s.railOf i).dischargeTimer = some us)
include running

theorem exec_dischargeTimerExpiry :
    exec (.dischargeTimerExpiry i) s = .next ((s.modSlot i SlotRecord.discharged).endIfDone i) :=
  congrArg Host.Outcome.next (if_pos (by rw [running]; rfl))

theorem exec_dischargeTimerExpiry_of_done (state : (s.ctx i).state = .withdrawing) (out : s.inRoster i = false) :
    exec (.dischargeTimerExpiry i) s = .next (s.worked i (fun r => r.discharged.unmatched.withdrawn s.longSettleUs)
      { s.work with
        directory := s.directory.unuse (s.ctx i).matched, notices := s.notices.offer ((s.ctx i).withdrawnNotice i) }) := by
  have own : (s.modSlot i SlotRecord.discharged).slot i = (s.slot i).discharged := State.slot_modSlot_self s i _
  have ctx : (s.modSlot i SlotRecord.discharged).ctx i = s.ctx i := (congrArg SlotRecord.ctx own :)
  rw [exec_dischargeTimerExpiry running, State.endIfDone_of_done, State.endWithdrawal_worked, State.modSlot_worked, ctx]
  · rfl
  · rw [ctx]
    exact state
  · rw [State.inRoster, State.scanOf_eq, own]
    exact out
  · rw [State.railOf_eq, own]
    rfl

theorem exec_dischargeTimerExpiry_of_not_done (h : (s.ctx i).state ≠ .withdrawing ∨ s.inRoster i = true) :
    exec (.dischargeTimerExpiry i) s = .next (s.modSlot i SlotRecord.discharged) := by
  have own : (s.modSlot i SlotRecord.discharged).slot i = (s.slot i).discharged := State.slot_modSlot_self s i _
  rw [exec_dischargeTimerExpiry running]
  refine congrArg Host.Outcome.next (if_neg fun done => ?_)
  rw [State.withdrawalDone, Bool.and_eq_true, Bool.and_eq_true, decide_eq_true_eq, Bool.not_eq_true', State.inRoster,
    State.ctx_eq, State.scanOf_eq, own] at done
  rcases h with other | roster
  · exact other done.1.1
  · exact absurd (roster.symm.trans done.1.2) (by decide)

end

/-- Settles O45: with the slot out of the roster the end of the discharge ends the withdrawal, in the state of R49 and with
that state's entry effects; else the timer alone goes. -/
theorem dischargeEndsTheWithdrawal : Obligations.DischargeEndsTheWithdrawal := by
  intro i us reason dest s running
  refine ⟨fun state out why where_ => ?_, fun h => ?_⟩
  · have ends : (s.slot i).discharged.unmatched.ctx.endState = if (s.ctx i).policy = .off then .disabled
        else if (s.ctx i).contact ≠ .seated then .vacant else dest.slotState := by
      change (s.ctx i).endState = _
      unfold Context.endState
      rw [where_]
      rfl
    have reasonCode : optionCode ((s.ctx i).reason.map Reason.code) = reason.code := by
      rw [why]
      rfl
    generalize hr : (s.slot i).discharged.unmatched = r at ends
    have from_ : r.ctx.identity = (s.ctx i).identity ∧ r.ctx.verdict = (s.ctx i).verdict
        ∧ r.ctx.attempts = (s.ctx i).attempts ∧ r.monitor.seatedClass = (s.mon i).seatedClass
        ∧ r.ctx.faultRecord = (s.ctx i).faultRecord ∧ r.rail.dischargeTimer = none ∧ r.ctx.matched = none := by
      rw [← hr]
      exact ⟨rfl, rfl, rfl, rfl, rfl, rfl, rfl⟩
    obtain ⟨identity, verdict, attempts, seated, record, discharge, matched⟩ := from_
    refine ⟨_, exec_dischargeTimerExpiry_of_done running state out, onlySlotAndMatch_worked,
      matchDropped_of_unuse ?_ rfl, ?_⟩
    · rw [State.ctx_worked_self, hr, SlotRecord.withdrawn_ctx]
      exact matched
    · rw [State.ctx_worked_self, State.railOf_worked_self, hr, SlotRecord.withdrawn_state, SlotRecord.withdrawn_rail, ends]
      refine ⟨rfl, ?_, ?_, ?_, discharge, ?_, fun settling => ?_, fun held => ?_, fun empty => ?_, ?_⟩
      · rw [SlotRecord.withdrawn_ctx]
      · rw [SlotRecord.withdrawn_ctx]
      · rw [SlotRecord.withdrawn_ctx]
      · rw [← ends, ← hr, ← reasonCode]
        rfl
      · rw [SlotRecord.withdrawn_settling (ends.trans settling), SlotRecord.settleFor_ctx]
        exact ⟨seated, rfl, attempts, rfl⟩
      · rw [← ends] at held
        rw [SlotRecord.withdrawn_held held, SlotRecord.enter_ctx]
        exact ⟨identity, verdict, attempts⟩
      · rw [← ends] at empty
        rw [SlotRecord.withdrawn_empty empty]
        exact ⟨rfl, rfl, rfl, rfl⟩
      · rw [SlotRecord.withdrawn_ctx]
        exact record
  · exact slotWritten_of_eq (exec_dischargeTimerExpiry_of_not_done running h)

end Sys2Proof.Machine

/-! The withdrawals of a slot whose evaluations change nothing or do not happen, as one replacement of its record; faults and the
departures that wait for the scan (2.8, 8.4 and Section 9). -/

namespace Sys2Proof.Machine

open Sys2Proof Sys2Proof.Safety

set_option Elab.async false

/-! ## One slot's record and the blocks replaced -/

/-- The state with one slot's record and the blocks of its withdrawal replaced. -/
def State.put (s : State) (i : Slot) (r : SlotRecord) (w : Work) : State := s.worked i (fun _ => r) w

section
variable {s : State} {i : Slot} {r : SlotRecord} {w : Work}

@[simp] theorem State.slot_put_self : (s.put i r w).slot i = r := State.slot_worked_self

theorem State.slot_put_ne {j : Slot} (h : j ≠ i) : (s.put i r w).slot j = s.slot j := State.slot_worked_ne h

theorem State.ctx_put_self : (s.put i r w).ctx i = r.ctx := congrArg SlotRecord.ctx State.slot_put_self
theorem State.railOf_put_self : (s.put i r w).railOf i = r.rail := congrArg SlotRecord.rail State.slot_put_self
theorem State.scanOf_put_self : (s.put i r w).scanOf i = r.scan := congrArg SlotRecord.scan State.slot_put_self
theorem State.inRoster_put_self : (s.put i r w).inRoster i = r.scan.skip.isSome := by
  rw [State.inRoster, State.scanOf_put_self]

@[simp] theorem State.put_params : (s.put i r w).params = s.params := rfl
@[simp] theorem State.put_scan : (s.put i r w).scan = s.scan := rfl
@[simp] theorem State.work_put : (s.put i r w).work = w := rfl

theorem State.modSlot_eq_put (f : SlotRecord → SlotRecord) : s.modSlot i f = s.put i (f (s.slot i)) s.work := rfl

theorem State.put_worked (f : SlotRecord → SlotRecord) (v : Work) : (s.put i r w).worked i f v = s.put i (f r) v :=
  State.worked_worked

theorem State.put_modSlot (f : SlotRecord → SlotRecord) : (s.put i r w).modSlot i f = s.put i (f r) w :=
  State.worked_modSlot

theorem State.put_post (n : Notice) : (s.put i r w).post n = s.put i r { w with notices := w.notices.offer n } := rfl

theorem State.reaches_put : State.Reaches i r w s (s.put i r w) := (State.Reaches.refl s i).worked (fun _ => r) w

variable {reason : Reason} {dest : Destination} {data : List Byte}

theorem State.put_begun : (s.put i r w).begun i reason dest data = s.put i (r.begun reason dest) (w.begun i reason data r.ctx) := by
  unfold State.begun
  rw [State.put_worked, State.work_put, State.ctx_put_self]

theorem State.put_endWithdrawal : (s.put i r w).endWithdrawal i = s.put i (r.unmatched.withdrawn s.longSettleUs)
    { w with directory := w.directory.unuse r.ctx.matched, notices := w.notices.offer (r.ctx.withdrawnNotice i) } := by
  rw [State.endWithdrawal_worked, State.put_worked, State.ctx_put_self]
  rfl

/-- A withdrawal that ends within its event, of a slot that is not waiting in the ramp queue. -/
theorem State.put_beginWithdrawal_open (early : Bool) (out : r.scan.skip = none) (closed : r.rail.closed = false)
    (discharge : r.rail.dischargeTimer = none) (queued : r.ctx.state = .rampWait → r.rail.queued = false) :
    (s.put i r w).beginWithdrawal i reason dest early data
      = s.put i ((r.begun reason dest).unmatched.withdrawn s.longSettleUs)
        { w.begun i reason data r.ctx with
          directory := (w.begun i reason data r.ctx).directory.unuse r.ctx.matched
          notices := (w.begun i reason data r.ctx).notices.offer ((r.begun reason dest).ctx.withdrawnNotice i) } := by
  have matched : (r.begun reason dest).ctx.matched = r.ctx.matched := by rw [SlotRecord.begun_ctx]
  rw [State.beginWithdrawal_of_open, State.put_begun, State.put_endWithdrawal, matched]
  · rw [State.inRoster_put_self, out]
    rfl
  · rw [State.railOf_put_self]
    exact closed
  · rw [State.railOf_put_self]
    exact discharge
  · rw [State.ctx_put_self, State.railOf_put_self]
    exact queued

end

/-! ## The departure that is asked of the scan (R151, R154, R167) -/

/-- A slot's record as its LEAVE is taken into the splice list (R151). -/
def SlotRecord.leaveQueued (r : SlotRecord) : SlotRecord :=
  { r with ctx := { r.ctx with leaving := some .leavePending }, scan := { r.scan with splice := some .leave } }

/-- A slot's record as it waits for its RELEASE exchange (R159, R167). -/
def SlotRecord.releaseAwaited (r : SlotRecord) : SlotRecord := { r with ctx := { r.ctx with leaving := some .releasePending } }

section
variable {s t : State} {i : Slot}

theorem State.requestDeparture_of_release (running : t.scan.state = .running) (host : (t.ctx i).reason = some .host)
    (capable : (t.ctx i).identity.any Identity.releaseCapable = true) :
    t.requestDeparture i = t.modSlot i SlotRecord.releaseAwaited := by
  unfold State.requestDeparture
  rw [running]
  exact if_pos ⟨host, capable⟩

theorem State.requestDeparture_of_queue (state : t.scan.state ≠ .stopped)
    (other : ¬ (t.scan.state = .running ∧ (t.ctx i).reason = some .host
      ∧ (t.ctx i).identity.any Identity.releaseCapable = true)) :
    t.requestDeparture i = t.modSlot i SlotRecord.leaveQueued := by
  unfold State.requestDeparture
  split
  · rename_i running
    exact if_neg fun both => other ⟨running, both⟩
  · rfl
  · rename_i stopped
    exact absurd stopped state

theorem State.requestDeparture_of_stopped (state : t.scan.state = .stopped) :
    t.requestDeparture i = (t.modSlot i SlotRecord.leaveQueued).depart i := by
  unfold State.requestDeparture
  rw [state]
  rfl

end

section
variable {s : State} {i : Slot} {r : SlotRecord} {w : Work} {reason : Reason} {dest : Destination} {data : List Byte}

/-- A withdrawal of an ONLINE slot for a reason other than the host's, while the scan is not STOPPED: its LEAVE waits. -/
theorem State.put_beginWithdrawal_leave (state : r.ctx.state = .online) (roster : r.scan.skip.isSome = true)
    (scan : s.scan.state ≠ .stopped) (why : reason ≠ .host) : (s.put i r w).beginWithdrawal i reason dest false data
      = s.put i (r.begun reason dest).leaveQueued (w.begun i reason data r.ctx) := by
  rw [State.beginWithdrawal_of_roster false (by rw [State.inRoster_put_self]; exact roster)
    (fun waits => by rw [State.ctx_put_self, state] at waits; cases waits) (fun h => by cases h),
    if_neg Bool.false_ne_true, State.put_begun, State.requestDeparture_of_queue (by exact scan), State.put_modSlot]
  rintro ⟨-, host, -⟩
  rw [State.ctx_put_self, SlotRecord.begun_ctx] at host
  exact why (Option.some.inj host)

/-- A withdrawal of an ONLINE slot in a STOPPED scan is followed by its departure within the event. -/
theorem State.beginWithdrawal_stopped (state : (s.ctx i).state ≠ .rampWait) (roster : s.inRoster i = true)
    (scan : s.scan.state = .stopped) : s.beginWithdrawal i reason dest false data
      = ((s.begun i reason dest data).modSlot i SlotRecord.leaveQueued).depart i := by
  rw [State.beginWithdrawal_of_roster false roster (fun waits => absurd waits state) (fun h => by cases h),
    if_neg Bool.false_ne_true, State.requestDeparture_of_stopped]
  exact scan

/-- The blocks are left by a withdrawal that is not a refusal, from a state with no work in the lane or the images. -/
theorem Work.begun_of_plain {c : Context} (identifying : c.state ≠ .identifying) (spliceWait : c.state ≠ .spliceWait)
    (why : reason ≠ .refused) : w.begun i reason data c = w := by
  unfold Work.begun Work.aborted Notices.began
  rw [if_neg why]
  split
  · rename_i h; exact absurd h identifying
  · rename_i h; exact absurd h spliceWait
  · rfl

/-- A refusal of a slot with no work in the lane or the images posts its notice. -/
theorem Work.begun_of_refusal {c : Context} {v : Verdict} (identifying : c.state ≠ .identifying)
    (spliceWait : c.state ≠ .spliceWait) (verdict : c.verdict = some v) :
    w.begun i .refused data c = { w with notices := w.notices.offer ⟨.refused, some i, v.code, data⟩ } := by
  unfold Work.begun Work.aborted Notices.began
  rw [if_pos rfl, verdict]
  split
  · rename_i h; exact absurd h identifying
  · rename_i h; exact absurd h spliceWait
  · rfl

/-- The directory and, where the reason is not REFUSED, the notices are left by step 1. -/
theorem Work.begun_directory (c : Context) : (w.begun i reason data c).directory = w.directory := by
  unfold Work.begun Work.aborted
  split <;> rfl

theorem Work.begun_notices (c : Context) :
    (w.begun i reason data c).notices = w.notices.began i reason c.verdict data := by
  unfold Work.begun Work.aborted
  split <;> rfl

/-! ## The switch that opens ahead of the withdrawal (R69) -/

theorem SlotRecord.enter_openSwitch (us : Nat) (st : SlotState) (r : SlotRecord) :
    (r.openSwitch us).enter st = (r.enter st).openSwitch us := by
  unfold SlotRecord.openSwitch SlotRecord.enter
  dsimp only
  split <;> rfl

theorem SlotRecord.begun_openSwitch (us : Nat) (r : SlotRecord) :
    (r.openSwitch us).begun reason dest = (r.begun reason dest).openSwitch us := by
  have marked : (r.openSwitch us).marked reason dest = (r.marked reason dest).openSwitch us := by
    unfold SlotRecord.marked
    rw [SlotRecord.enter_openSwitch]
    rfl
  unfold SlotRecord.begun
  rw [marked]
  change ((r.marked reason dest).openSwitch us).aborted r.ctx.state = _
  cases r.ctx.state <;> rfl

end

/-- A slot whose switch has just opened waits for its discharge. -/
theorem State.Reaches.beginWithdrawal_discharging {s t : State} {i : Slot} {r : SlotRecord} {w : Work} {reason : Reason}
    {dest : Destination} {data : List Byte} (h : Reaches i r w s t) (out : r.scan.skip = none)
    (closed : r.rail.closed = false) (discharge : r.rail.dischargeTimer ≠ none)
    (queued : r.ctx.state = .rampWait → r.rail.queued = false) :
    Reaches i (r.begun reason dest) (w.begun i reason data r.ctx) s (t.beginWithdrawal i reason dest false data) := by
  have begun := h.begun reason dest data
  have ends : t.beginWithdrawal i reason dest false data = t.begun i reason dest data := by
    unfold State.beginWithdrawal
    dsimp only
    rw [State.abortWork_begun (by rw [h.ctx, h.railOf]; exact queued), if_neg Bool.false_ne_true, State.inRoster_begun,
      h.inRoster, out, Option.isSome_none, if_neg Bool.false_ne_true, State.powerStep_of_open, State.endIfDone_of_discharge]
    · rw [begun.railOf, SlotRecord.begun_rail]
      exact discharge
    · rw [begun.railOf, SlotRecord.begun_rail]
      exact closed
  rw [ends]
  exact begun

/-! ## Faults (R39 to R44) -/

/-- A slot's record as a cause enters its fault record (R171). -/
def SlotRecord.faulted (c : Cause) (r : SlotRecord) : SlotRecord :=
  { r with ctx := { r.ctx with faultRecord := r.ctx.faultRecord.add c } }

/-- A slot's record as a soft fault counts an attempt (R41). -/
def SlotRecord.counted (r : SlotRecord) : SlotRecord := { r with ctx := { r.ctx with attempts := min (r.ctx.attempts + 1) 3 } }

/-- The blocks after FAULT is posted (R39). -/
def Work.faulted (i : Slot) (c : Cause) (w : Work) : Work :=
  { w with notices := w.notices.offer ⟨.fault, some i, c.code, []⟩ }

/-- The destination of a soft fault of a record (R41). -/
def SlotRecord.softDestination (maxAttempts : Nat) (r : SlotRecord) : Destination :=
  if r.ctx.attempts + 1 < maxAttempts then .settling else .quarantined

section
variable {s : State} {i : Slot} {r : SlotRecord} {w : Work} {c : Cause}

theorem State.put_recordFault : (s.put i r w).recordFault i c = s.put i (r.faulted c) (w.faulted i c) := by
  unfold State.recordFault
  rw [State.modCtx_eq, State.put_modSlot, State.postSlot_eq, State.put_post]
  rfl

theorem State.put_reportFault_hard (active : r.ctx.state.active = true) (hard : c.hard = true) :
    (s.put i r w).reportFault i c
      = (s.put i (r.faulted c) (w.faulted i c)).beginWithdrawal i .fault .quarantined false [] := by
  unfold State.reportFault
  rw [State.put_recordFault]
  dsimp only
  rw [State.ctx_put_self, hard, if_pos (show (r.faulted c).ctx.state.active = true from active), if_pos rfl]

theorem State.put_reportFault_soft (active : r.ctx.state.active = true) (soft : c.hard = false) :
    (s.put i r w).reportFault i c = (s.put i (r.faulted c).counted (w.faulted i c)).beginWithdrawal i .fault
      (r.softDestination s.params.maxAttempts) false [] := by
  unfold State.reportFault
  rw [State.put_recordFault]
  dsimp only
  rw [State.ctx_put_self, soft, if_pos (show (r.faulted c).ctx.state.active = true from active),
    if_neg Bool.false_ne_true, State.softFault, State.modCtx_eq, State.put_modSlot, State.ctx_put_self]
  rfl

/-- A hard fault in WITHDRAWING raises the destination (R44). -/
theorem State.put_reportFault_withdrawing (state : r.ctx.state = .withdrawing) (hard : c.hard = true) :
    (s.put i r w).reportFault i c = s.put i { r.faulted c with
      ctx := { (r.faulted c).ctx with destination := some .quarantined } } (w.faulted i c) := by
  unfold State.reportFault
  rw [State.put_recordFault]
  dsimp only
  have same : (r.faulted c).ctx.state = .withdrawing := state
  rw [State.ctx_put_self, same, if_neg (by decide), if_pos ⟨rfl, hard⟩, State.modCtx_eq, State.put_modSlot, same]

end

end Sys2Proof.Machine

/-! Faults of a card (2.8, 3.7, 3.8 and Section 9): what each of their events makes of the slot, by its place in the bring-up, in
the roster or in its withdrawal. -/

namespace Sys2Proof.Machine

open Sys2Proof Sys2Proof.Safety

set_option Elab.async false

section
variable {s t : State} {i : Slot} {r q : SlotRecord} {w : Work} {c : Cause} {reason : Reason} {dest : Destination}

/-! ## A fault in the bring-up -/

theorem active_of_bringUp (h : PoweredBringUp i s) : (s.ctx i).state.active = true := by
  obtain ⟨state | state | state, -⟩ := h <;> rw [state] <;> rfl

theorem no_work_of_bringUp (h : PoweredBringUp i s) :
    (s.ctx i).state ≠ .identifying ∧ (s.ctx i).state ≠ .spliceWait := by
  obtain ⟨state | state | state, -⟩ := h <;> rw [state] <;> decide

theorem skip_of_inRoster (h : s.inRoster i = false) : (s.scanOf i).skip = none := by
  rw [State.inRoster, Option.isSome_eq_false_iff, Option.isNone_iff_eq_none] at h
  exact h

/-- A soft fault of a powered card in the bring-up, after a change of its record outside its context, switch and place. -/
theorem reaches_softFault (up : PoweredBringUp i s) (ctx : r.ctx = s.ctx i) (closed : r.rail.closed = (s.railOf i).closed)
    (queued : r.rail.queued = (s.railOf i).queued) (skip : r.scan.skip = (s.scanOf i).skip) (soft : c.hard = false) :
    State.Reaches i (((r.faulted c).counted.begun .fault (softDestination i s)).openSwitch s.dischargeUs)
      (s.work.faulted i c) s ((s.put i r s.work).reportFault i c) := by
  have active := active_of_bringUp up
  obtain ⟨notLane, notSplice⟩ := no_work_of_bringUp up
  obtain ⟨-, isClosed, notQueued, out⟩ := up
  have target : r.softDestination s.params.maxAttempts = softDestination i s := by
    rw [SlotRecord.softDestination, ctx]
    rfl
  rw [State.put_reportFault_soft (by rw [ctx]; exact active) soft, target]
  have down := (State.reaches_put (s := s) (i := i) (r := (r.faulted c).counted) (w := s.work.faulted i c)).beginWithdrawal_closed
    (reason := .fault) (dest := softDestination i s) (data := []) false (skip.trans (skip_of_inRoster out))
    (closed.trans isClosed) (queued.trans notQueued)
  rwa [Work.begun_of_plain (by rw [← ctx] at notLane; exact notLane) (by rw [← ctx] at notSplice; exact notSplice)
    (by decide)] at down

/-- A hard fault of a powered card in the bring-up. -/
theorem reaches_hardFault (up : PoweredBringUp i s) (ctx : r.ctx = s.ctx i) (closed : r.rail.closed = (s.railOf i).closed)
    (queued : r.rail.queued = (s.railOf i).queued) (skip : r.scan.skip = (s.scanOf i).skip) (hard : c.hard = true) :
    State.Reaches i (((r.faulted c).begun .fault .quarantined).openSwitch s.dischargeUs)
      (s.work.faulted i c) s ((s.put i r s.work).reportFault i c) := by
  have active := active_of_bringUp up
  obtain ⟨notLane, notSplice⟩ := no_work_of_bringUp up
  obtain ⟨-, isClosed, notQueued, out⟩ := up
  rw [State.put_reportFault_hard (by rw [ctx]; exact active) hard]
  have down := (State.reaches_put (s := s) (i := i) (r := r.faulted c) (w := s.work.faulted i c)).beginWithdrawal_closed
    (reason := .fault) (dest := .quarantined) (data := []) false (skip.trans (skip_of_inRoster out))
    (closed.trans isClosed) (queued.trans notQueued)
  rwa [Work.begun_of_plain (by rw [← ctx] at notLane; exact notLane) (by rw [← ctx] at notSplice; exact notSplice)
    (by decide)] at down

/-- The frame of a fault that powers the card down. -/
theorem faultedDown_of_reaches (h : State.Reaches i ((q.begun .fault dest).openSwitch s.dischargeUs) (s.work.faulted i c) s t)
    (identity : q.ctx.identity = (s.ctx i).identity) (matched : q.ctx.matched = (s.ctx i).matched)
    (policy : q.ctx.policy = (s.ctx i).policy) (contact : q.ctx.contact = (s.ctx i).contact) :
    OnlySlotAndGrants i s t ∧ PoweredDown i s t .fault dest ∧ (t.ctx i).attempts = q.ctx.attempts
      ∧ (t.ctx i).faultRecord = q.ctx.faultRecord ∧ t.notices = s.notices.offer ⟨.fault, some i, c.code, []⟩ := by
  refine ⟨h.onlySlotAndGrants rfl rfl rfl rfl, poweredDown_of_slot h.own identity matched policy contact, ?_, ?_, h.notices⟩
  · rw [h.ctx, SlotRecord.openSwitch, SlotRecord.begun_ctx]
  · rw [h.ctx, SlotRecord.openSwitch, SlotRecord.begun_ctx]

theorem softFaultedDown (up : PoweredBringUp i s) (ctx : r.ctx = s.ctx i) (closed : r.rail.closed = (s.railOf i).closed)
    (queued : r.rail.queued = (s.railOf i).queued) (skip : r.scan.skip = (s.scanOf i).skip) (soft : c.hard = false)
    (made : t = (s.put i r s.work).reportFault i c) :
    OnlySlotAndGrants i s t ∧ PoweredDown i s t .fault (softDestination i s)
      ∧ (t.ctx i).attempts = min ((s.ctx i).attempts + 1) 3 ∧ (t.ctx i).faultRecord = (s.ctx i).faultRecord.add c
      ∧ t.notices = s.notices.offer ⟨.fault, some i, c.code, []⟩ := by
  rw [made, ← ctx]
  exact faultedDown_of_reaches (reaches_softFault up ctx closed queued skip soft) (by rw [← ctx]; rfl) (by rw [← ctx]; rfl)
    (by rw [← ctx]; rfl) (by rw [← ctx]; rfl)

theorem hardFaultedDown (up : PoweredBringUp i s) (ctx : r.ctx = s.ctx i) (closed : r.rail.closed = (s.railOf i).closed)
    (queued : r.rail.queued = (s.railOf i).queued) (skip : r.scan.skip = (s.scanOf i).skip) (hard : c.hard = true)
    (made : t = (s.put i r s.work).reportFault i c) :
    OnlySlotAndGrants i s t ∧ PoweredDown i s t .fault .quarantined
      ∧ (t.ctx i).attempts = (s.ctx i).attempts ∧ (t.ctx i).faultRecord = (s.ctx i).faultRecord.add c
      ∧ t.notices = s.notices.offer ⟨.fault, some i, c.code, []⟩ := by
  rw [made, ← ctx]
  exact faultedDown_of_reaches (reaches_hardFault up ctx closed queued skip hard) (by rw [← ctx]; rfl) (by rw [← ctx]; rfl)
    (by rw [← ctx]; rfl) (by rw [← ctx]; rfl)

/-! ## The events -/

/-- A slot's record as its ramp timer ends. -/
def SlotRecord.rampExpired (r : SlotRecord) : SlotRecord := { r with rail := { r.rail with rampTimer := none } }

theorem exec_rampTimerExpiry {us : Nat} (state : (s.ctx i).state = .ramping) (timer : (s.railOf i).rampTimer = some us) :
    exec (.rampTimerExpiry i) s = .next ((s.put i (s.slot i).rampExpired s.work).reportFault i .powerGoodTimeout) :=
  congrArg Host.Outcome.next (if_pos ⟨state, by rw [timer]; rfl⟩)

/-- A slot's record as its qualification timer ends. -/
def SlotRecord.qualExpired (r : SlotRecord) : SlotRecord :=
  { r with detector := { r.detector with qualTimer := .idle } }

theorem exec_qualificationTimerExpiry {us : Nat} (timer : (s.det i).qualTimer = .running us) :
    exec (.qualificationTimerExpiry i) s
      = .next ((s.put i (s.slot i).qualExpired s.work).reportFault i .qualTimeout) := by
  change execQualificationTimerExpiry i s = _
  unfold execQualificationTimerExpiry
  rw [timer]
  rfl

theorem Detector.dueCount_of_due {d : Detector} {p : Checkpoint} {n : Nat} (run : d.run = .running)
    (due : d.due = some ⟨p, n⟩) : d.dueCount p = some n := by
  unfold Detector.dueCount
  rw [run, due]
  exact if_pos rfl

/-- A slot's record as a checkpoint of its detector is judged. -/
def SlotRecord.checkpointJudged (r : SlotRecord) : SlotRecord := { r with detector := r.detector.judged }

theorem exec_lockCheckpoint16_of_no_clock (run : (s.det i).run = .running) (due : (s.det i).due = some ⟨.after16, 0⟩)
    (duty : (s.det i).duty = some .qualify) : exec (.lockCheckpoint16 i) s
      = .next ((s.put i (s.slot i).checkpointJudged s.work).reportFault i .qualNoClock) := by
  change execLockCheckpoint16 i s = _
  unfold execLockCheckpoint16
  rw [Detector.dueCount_of_due run due]
  dsimp only
  unfold State.checkpoint16
  rw [duty]
  rfl

/-- A slot's record as the loss of its power-good is reported (R68). -/
def SlotRecord.lossReported (r : SlotRecord) : SlotRecord := { r with rail := { r.rail with lossReported := true } }

theorem exec_pwrGoodDeassert (closed : (s.railOf i).closed = true) (seen : (s.railOf i).powerSeen = true)
    (fresh : (s.railOf i).lossReported = false) : exec (.pwrGoodDeassert i) s
      = .next ((s.put i (s.slot i).lossReported s.work).reportFault i .powerLost) :=
  congrArg Host.Outcome.next (if_pos (by rw [RailSlot.losesPower, closed, seen, fresh]; rfl))

theorem exec_pwrTrip (closed : (s.railOf i).closed = true) : exec (.pwrTrip i) s
    = .next ((s.put i ((s.slot i).openSwitch s.dischargeUs) s.work).reportFault i .overcurrent).arbitrate :=
  congrArg Host.Outcome.next (if_pos closed)

/-! ## A trip (R69) -/

/-- Step 1 reads the slot's state, windows and verdict alone. -/
theorem Work.begun_congr {a b : Context} {data : List Byte} (state : a.state = b.state) (inWindow : a.inWindow = b.inWindow)
    (outWindow : a.outWindow = b.outWindow) (verdict : a.verdict = b.verdict) :
    w.begun i reason data a = w.begun i reason data b := by
  unfold Work.begun Work.aborted
  rw [state, inWindow, outWindow, verdict]

theorem ne_rampWait_of_active {st : SlotState} (h : st.active = true) : st ≠ .rampWait := by
  rintro rfl
  cases h

/-- A trip of a card outside the roster: the switch opens, and a hard fault begins the withdrawal (R69). -/
theorem reaches_trip (active : (s.ctx i).state.active = true) (closed : (s.railOf i).closed = true)
    (queued : (s.railOf i).queued = false) (out : s.inRoster i = false) (ran : exec (.pwrTrip i) s = .next t) :
    State.Reaches i ((((s.slot i).faulted .overcurrent).begun .fault .quarantined).openSwitch s.dischargeUs)
      ((s.work.faulted i .overcurrent).begun i .fault [] (s.ctx i)) s t := by
  rw [exec_pwrTrip closed] at ran
  obtain rfl := Host.Outcome.next.inj ran
  rw [State.put_reportFault_hard (by exact active) rfl, ← SlotRecord.begun_openSwitch]
  refine State.Reaches.arbitrate ?_ (SlotRecord.begun_queued queued)
  have down := (State.reaches_put (s := s) (i := i) (r := ((s.slot i).openSwitch s.dischargeUs).faulted .overcurrent)
    (w := s.work.faulted i .overcurrent)).beginWithdrawal_discharging (reason := .fault) (dest := .quarantined) (data := [])
    (skip_of_inRoster out) rfl (Option.some_ne_none _) (fun waits => absurd waits (ne_rampWait_of_active active))
  have blocks : (s.work.faulted i .overcurrent).begun i .fault [] (((s.slot i).openSwitch s.dischargeUs).faulted .overcurrent).ctx
      = (s.work.faulted i .overcurrent).begun i .fault [] (s.ctx i) := Work.begun_congr rfl rfl rfl rfl
  rw [blocks] at down
  exact down

/-- A trip of an ONLINE card, whose LEAVE waits while the scan is not STOPPED. -/
theorem reaches_trip_online (state : (s.ctx i).state = .online) (closed : (s.railOf i).closed = true)
    (queued : (s.railOf i).queued = false) (roster : s.inRoster i = true) (scan : s.scan.state ≠ .stopped)
    (ran : exec (.pwrTrip i) s = .next t) :
    State.Reaches i ((((s.slot i).faulted .overcurrent).begun .fault .quarantined).leaveQueued.openSwitch s.dischargeUs)
      (s.work.faulted i .overcurrent) s t := by
  rw [exec_pwrTrip closed] at ran
  obtain rfl := Host.Outcome.next.inj ran
  have active : (s.ctx i).state.active = true := by rw [state]; rfl
  rw [State.put_reportFault_hard (by exact active) rfl, State.put_beginWithdrawal_leave (by exact state) (by exact roster) scan (by decide),
    Work.begun_of_plain (by exact state ▸ (by decide : SlotState.online ≠ .identifying))
      (by exact state ▸ (by decide : SlotState.online ≠ .spliceWait)) (by decide)]
  refine State.Reaches.arbitrate ?_ ?_
  · have same : (((s.slot i).openSwitch s.dischargeUs).faulted .overcurrent).begun .fault .quarantined
        = (((s.slot i).faulted .overcurrent).begun .fault .quarantined).openSwitch s.dischargeUs :=
      SlotRecord.begun_openSwitch s.dischargeUs ((s.slot i).faulted .overcurrent)
    rw [same]
    exact State.reaches_put
  · exact SlotRecord.begun_queued queued

/-- A hard fault in WITHDRAWING, with the switch opened by a trip (R44, R69). -/
theorem reaches_trip_withdrawing (state : (s.ctx i).state = .withdrawing) (closed : (s.railOf i).closed = true)
    (queued : (s.railOf i).queued = false) (ran : exec (.pwrTrip i) s = .next t) :
    State.Reaches i { (s.slot i).openSwitch s.dischargeUs with ctx := { ((s.slot i).openSwitch s.dischargeUs).ctx with
        destination := some .quarantined, faultRecord := (s.ctx i).faultRecord.add .overcurrent } }
      (s.work.faulted i .overcurrent) s t := by
  rw [exec_pwrTrip closed] at ran
  obtain rfl := Host.Outcome.next.inj ran
  rw [State.put_reportFault_withdrawing (by exact state) rfl]
  exact State.reaches_put.arbitrate queued

/-! ## A slot's work after step 1 -/

theorem SlotRecord.workLeft_begun (q : SlotRecord) : q.WorkLeft (q.begun reason dest) := by
  have ctx := q.marked_ctx (reason := reason) (dest := dest)
  unfold SlotRecord.begun
  refine ⟨fun h => by rw [h]; rfl, ?_, ?_, ?_, ?_, ?_, ?_⟩ <;> cases q.ctx.state <;>
    simp [SlotRecord.aborted, ctx, Context.dropWindows]

/-- What a later step of the event must leave of a record for its work to stay aborted. -/
theorem SlotRecord.WorkLeft.of_eq {a b : SlotRecord} (h : q.WorkLeft a)
    (settle : q.ctx.state = .settling → a.ctx.settleTimer = none → b.ctx.settleTimer = none)
    (queued : b.rail.queued = a.rail.queued) (detector : b.detector = a.detector) (scan : b.scan = a.scan)
    (inWindow : b.ctx.inWindow = a.ctx.inWindow) (outWindow : b.ctx.outWindow = a.ctx.outWindow)
    (inputQuality : b.ctx.inputQuality = a.ctx.inputQuality) : q.WorkLeft b where
  settle h' := settle h' (h.settle h')
  queued := queued.trans h.queued
  detector := detector.trans h.detector
  scan := scan.trans h.scan
  inWindow := inWindow.trans h.inWindow
  outWindow := outWindow.trans h.outWindow
  inputQuality := inputQuality.trans h.inputQuality

theorem SlotRecord.workLeft_openSwitch (q : SlotRecord) (us : Nat) : q.WorkLeft ((q.begun reason dest).openSwitch us) :=
  q.workLeft_begun.of_eq (fun _ => id) rfl rfl rfl rfl rfl rfl

theorem SlotRecord.workLeft_withdrawn (q : SlotRecord) (us : Nat)
    (ends : (q.begun reason dest).ctx.endState ≠ .settling) :
    q.WorkLeft ((q.begun reason dest).unmatched.withdrawn us) :=
  q.workLeft_begun.of_eq
    (fun _ none_ => SlotRecord.enterAt_settleTimer (r := (q.begun reason dest).unmatched.unleaving) none_ ends)
    (by rw [SlotRecord.withdrawn_rail]; rfl) (by rw [SlotRecord.withdrawn_detector]; rfl)
    (by rw [SlotRecord.withdrawn_scan]; rfl) (by rw [SlotRecord.withdrawn_ctx]; rfl) (by rw [SlotRecord.withdrawn_ctx]; rfl)
    (by rw [SlotRecord.withdrawn_ctx]; rfl)

end

end Sys2Proof.Machine

/-! The obligation on faults, put together from the cases of its events. -/

namespace Sys2Proof.Machine

open Sys2Proof Sys2Proof.Safety

set_option Elab.async false

section
variable {s t : State} {i : Slot} {r : SlotRecord} {w : Work} {c : Cause}

/-- A record that began its withdrawal in QUALIFYING has its detector stopped, whatever the event did next. -/
theorem det_begun_of_qualifying {reason : Reason} {dest : Destination} (state : r.ctx.state = .qualifying) :
    (r.begun reason dest).detector = r.detector.stop := by
  unfold SlotRecord.begun
  rw [state]
  exact congrArg Detector.stop SlotRecord.marked_detector

/-- The withdrawal of a class 0 card that the qualification timer ends (R101, R168). -/
theorem exec_qualificationTimerExpiry_open {us : Nat} (state : (s.ctx i).state = .qualifying) (out : s.inRoster i = false)
    (closed : (s.railOf i).closed = false) (discharge : (s.railOf i).dischargeTimer = none)
    (timer : (s.det i).qualTimer = .running us) :
    exec (.qualificationTimerExpiry i) s = .next (s.put i
      (((((s.slot i).qualExpired.faulted .qualTimeout).counted).begun .fault (softDestination i s)).unmatched.withdrawn
        s.longSettleUs)
      { s.work with
        directory := s.directory.unuse (s.ctx i).matched
        notices := (s.notices.offer ⟨.fault, some i, 6, []⟩).offer (((((s.slot i).qualExpired.faulted
          .qualTimeout).counted).begun .fault (softDestination i s)).ctx.withdrawnNotice i) }) := by
  have active : (s.slot i).qualExpired.ctx.state.active = true := by
    rw [show (s.slot i).qualExpired.ctx.state = .qualifying from state]
    rfl
  have plain : (s.work.faulted i .qualTimeout).begun i .fault [] ((s.slot i).qualExpired.faulted .qualTimeout).counted.ctx
      = s.work.faulted i .qualTimeout := by
    refine Work.begun_of_plain ?_ ?_ (by decide)
    · exact state ▸ (by decide : SlotState.qualifying ≠ .identifying)
    · exact state ▸ (by decide : SlotState.qualifying ≠ .spliceWait)
  rw [exec_qualificationTimerExpiry timer, State.put_reportFault_soft active rfl, State.put_beginWithdrawal_open, plain]
  · rfl
  · exact skip_of_inRoster out
  · exact closed
  · exact discharge
  · intro waits
    exact absurd ((show (s.ctx i).state = .rampWait from waits).symm.trans state) (by decide)

theorem qualificationTimerExpiry_open {us : Nat} (state : (s.ctx i).state = .qualifying) (out : s.inRoster i = false)
    (closed : (s.railOf i).closed = false) (discharge : (s.railOf i).dischargeTimer = none)
    (timer : (s.det i).qualTimer = .running us) :
    ∃ t, exec (.qualificationTimerExpiry i) s = .next t ∧ OnlySlotAndMatch i s t
      ∧ WithdrawalEnded i s t (endOf (s.ctx i).policy (s.ctx i).contact (softDestination i s))
      ∧ ((t.ctx i).state = .settling ∨ (t.ctx i).state = .quarantined →
          (t.ctx i).attempts = min ((s.ctx i).attempts + 1) 3)
      ∧ (t.ctx i).faultRecord = (s.ctx i).faultRecord.add .qualTimeout ∧ (t.det i).run = .stopped
      ∧ t.notices = (s.notices.offer ⟨.fault, some i, 6, []⟩).offer
          ⟨.withdrawn, some i, 4, [(t.ctx i).state.code]⟩ := by
  refine ⟨_, exec_qualificationTimerExpiry_open state out closed discharge timer, onlySlotAndMatch_worked, ?_⟩
  have stopped := det_begun_of_qualifying (r := ((s.slot i).qualExpired.faulted .qualTimeout).counted) (reason := .fault)
    (dest := softDestination i s) state
  have ctx := SlotRecord.begun_ctx (r := ((s.slot i).qualExpired.faulted .qualTimeout).counted) (reason := .fault)
    (dest := softDestination i s)
  generalize (((s.slot i).qualExpired.faulted .qualTimeout).counted).begun .fault (softDestination i s) = q at stopped ctx ⊢
  have policy : q.ctx.policy = (s.ctx i).policy := by rw [ctx]; rfl
  have contact : q.ctx.contact = (s.ctx i).contact := by rw [ctx]; rfl
  have attempts : q.ctx.attempts = min ((s.ctx i).attempts + 1) 3 := by rw [ctx]; rfl
  have record : q.ctx.faultRecord = (s.ctx i).faultRecord.add .qualTimeout := by rw [ctx]; rfl
  have reason : q.ctx.reason = some .fault := by rw [ctx]
  rw [State.ctx_put_self, State.det_eq, State.slot_put_self, SlotRecord.withdrawn_state, SlotRecord.withdrawn_detector]
  refine ⟨?_, fun ends => ?_, ?_, ?_, ?_⟩
  · rw [← policy, ← contact]
    exact withdrawalEnded_of_slot State.slot_put_self (by rw [ctx]) rfl
  · rcases ends with settling | held
    · rw [SlotRecord.withdrawn_settling settling, SlotRecord.settleFor_ctx]
      exact attempts
    · rw [SlotRecord.withdrawn_held (.inr held), SlotRecord.enter_ctx]
      exact attempts
  · rw [SlotRecord.withdrawn_ctx]
    exact record
  · change q.detector.run = _
    rw [stopped]
    rfl
  · have posted : q.ctx.withdrawnNotice i = ⟨.withdrawn, some i, 4, [q.ctx.endState.code]⟩ := by
      unfold Context.withdrawnNotice
      rw [reason]
      rfl
    exact congrArg (s.notices.offer ⟨.fault, some i, 6, []⟩).offer posted

/-- A trip of a powered card whose bring-up waits in the lane or for its splice. -/
theorem trip_of_work (up : InBringUp i s) (state : (s.ctx i).state = .identifying ∨ (s.ctx i).state = .spliceWait)
    (closed : (s.railOf i).closed = true) (queued : (s.railOf i).queued = false) (ran : exec (.pwrTrip i) s = .next t) :
    OnlySlotAndWork i s t ∧ WorkAborted i s t
      ∧ PoweredDown i s t .fault .quarantined ∧ (t.ctx i).attempts = (s.ctx i).attempts
      ∧ (t.ctx i).faultRecord = (s.ctx i).faultRecord.add .overcurrent ∧ t.directory = s.directory
      ∧ t.notices = s.notices.offer ⟨.fault, some i, 9, []⟩ := by
  have active : (s.ctx i).state.active = true := by
    rcases state with h | h <;> rw [h] <;> rfl
  have reached := reaches_trip active closed queued up.2 ran
  have directory : t.directory = s.directory := by
    rw [reached.directory, Work.begun_directory]
    rfl
  refine ⟨reached.onlySlotAndWork (by rw [← reached.directory, directory]), ?_,
    poweredDown_of_slot reached.own rfl rfl rfl rfl, ?_, ?_, directory, ?_⟩
  · refine workAborted_of_slot (q := (s.slot i).faulted .overcurrent) rfl rfl rfl
      (by rw [reached.own]; exact SlotRecord.workLeft_openSwitch _ _) ?_ ?_ ?_
    · rw [reached.lane]
      unfold Work.begun Work.aborted
      rcases state with h | h <;> rw [h, show ((s.slot i).faulted .overcurrent).ctx.state = _ from h] <;> rfl
    · rw [reached.imageIn]
      unfold Work.begun Work.aborted
      rcases state with h | h <;> rw [h, show ((s.slot i).faulted .overcurrent).ctx.state = _ from h] <;> rfl
    · rw [reached.imageOut]
      unfold Work.begun Work.aborted
      rcases state with h | h <;> rw [h, show ((s.slot i).faulted .overcurrent).ctx.state = _ from h] <;> rfl
  · rw [reached.ctx, SlotRecord.openSwitch, SlotRecord.begun_ctx]
    rfl
  · rw [reached.ctx, SlotRecord.openSwitch, SlotRecord.begun_ctx]
    rfl
  · rw [reached.notices, Work.begun_notices]
    rfl

/-- What step 1 of a withdrawal leaves of an ONLINE slot's record. -/
theorem begun_of_online {reason : Reason} {dest : Destination} (state : r.ctx.state = .online) :
    r.begun reason dest = { r.marked reason dest with detector := r.detector.stop } := by
  unfold SlotRecord.begun
  rw [state]
  exact congrArg (fun d : Detector => { r.marked reason dest with detector := d.stop }) SlotRecord.marked_detector

theorem trip_online (h : OnlineInRoster i s) (scan : s.scan.state ≠ .stopped) :
    ∃ t, exec (.pwrTrip i) s = .next t ∧ OnlySlotAndGrants i s t ∧ PowerStepTaken i s t
      ∧ (t.ctx i).state = .withdrawing ∧ (t.ctx i).reason = some .fault
      ∧ (t.ctx i).destination = some .quarantined ∧ (t.ctx i).leaving = some .leavePending
      ∧ (t.scanOf i).splice = some .leave ∧ (t.scanOf i).skip = (s.scanOf i).skip
      ∧ (t.ctx i).inWindow = (s.ctx i).inWindow ∧ (t.ctx i).attempts = (s.ctx i).attempts
      ∧ (t.ctx i).faultRecord = (s.ctx i).faultRecord.add .overcurrent
      ∧ t.notices = s.notices.offer ⟨.fault, some i, 9, []⟩ := by
  obtain ⟨state, roster, closed, queued⟩ := h
  have ran := exec_pwrTrip closed (i := i)
  have reached := reaches_trip_online state closed queued roster scan ran
  refine ⟨_, ran, reached.onlySlotAndGrants rfl rfl rfl rfl, powerStepTaken_of_slot reached.own, ?_⟩
  have begun := begun_of_online (r := (s.slot i).faulted .overcurrent) (reason := .fault) (dest := .quarantined) state
  rw [reached.ctx, reached.scanOf, reached.notices, begun]
  unfold SlotRecord.leaveQueued SlotRecord.openSwitch
  rw [SlotRecord.marked_ctx, SlotRecord.marked_scan]
  exact ⟨rfl, rfl, rfl, rfl, rfl, rfl, rfl, rfl, rfl, rfl⟩

theorem powerLost_online (h : OnlineInRoster i s) (scan : s.scan.state ≠ .stopped) (seen : (s.railOf i).powerSeen = true)
    (fresh : (s.railOf i).lossReported = false) :
    ∃ t, exec (.pwrGoodDeassert i) s = .next t ∧ OnlySlotAndNotices i s t
      ∧ t.railOf i = { s.railOf i with lossReported := true }
      ∧ (t.ctx i).state = .withdrawing ∧ (t.ctx i).reason = some .fault
      ∧ (t.ctx i).destination = some .quarantined ∧ (t.ctx i).leaving = some .leavePending
      ∧ (t.scanOf i).splice = some .leave ∧ (t.ctx i).steadyCommitted = (s.ctx i).steadyCommitted
      ∧ (t.ctx i).faultRecord = (s.ctx i).faultRecord.add .powerLost
      ∧ t.notices = s.notices.offer ⟨.fault, some i, 10, []⟩ := by
  obtain ⟨state, roster, closed, queued⟩ := h
  have active : (s.slot i).lossReported.ctx.state.active = true := by
    rw [show (s.slot i).lossReported.ctx.state = .online from state]
    rfl
  have plain : (s.work.faulted i .powerLost).begun i .fault [] ((s.slot i).lossReported.faulted .powerLost).ctx
      = s.work.faulted i .powerLost := by
    refine Work.begun_of_plain ?_ ?_ (by decide)
    · exact state ▸ (by decide : SlotState.online ≠ .identifying)
    · exact state ▸ (by decide : SlotState.online ≠ .spliceWait)
  have ran := exec_pwrGoodDeassert closed seen fresh (i := i)
  rw [State.put_reportFault_hard active rfl, State.put_beginWithdrawal_leave (by exact state) (by exact roster) scan
    (by decide), plain, begun_of_online (by exact state)] at ran
  refine ⟨_, ran, ⟨fun j hj => State.slot_put_ne hj, rfl⟩, ?_⟩
  rw [State.railOf_put_self, State.ctx_put_self, State.scanOf_put_self]
  unfold SlotRecord.leaveQueued
  rw [SlotRecord.marked_ctx, SlotRecord.marked_scan, SlotRecord.marked_rail]
  exact ⟨rfl, rfl, rfl, rfl, rfl, rfl, rfl, rfl, rfl⟩

theorem trip_withdrawing (state : (s.ctx i).state = .withdrawing) (closed : (s.railOf i).closed = true)
    (queued : (s.railOf i).queued = false) :
    ∃ t, exec (.pwrTrip i) s = .next t ∧ OnlySlotAndGrants i s t ∧ PowerStepTaken i s t
      ∧ { t.ctx i with
          inrushCommitted := (s.ctx i).inrushCommitted, steadyCommitted := (s.ctx i).steadyCommitted }
        = { s.ctx i with
          destination := some .quarantined, faultRecord := (s.ctx i).faultRecord.add .overcurrent }
      ∧ t.notices = s.notices.offer ⟨.fault, some i, 9, []⟩ := by
  have ran := exec_pwrTrip closed (i := i)
  have reached := reaches_trip_withdrawing state closed queued ran
  refine ⟨_, ran, reached.onlySlotAndGrants rfl rfl rfl rfl, ?_, ?_, reached.notices⟩
  · unfold PowerStepTaken
    rw [reached.railOf, reached.ctx]
    exact ⟨rfl, rfl, rfl, rfl, rfl⟩
  · rw [reached.ctx]
    rfl

theorem powerLost_withdrawing (state : (s.ctx i).state = .withdrawing) (closed : (s.railOf i).closed = true)
    (seen : (s.railOf i).powerSeen = true) (fresh : (s.railOf i).lossReported = false) :
    ∃ t, exec (.pwrGoodDeassert i) s = .next t ∧ OnlySlotAndNotices i s t
      ∧ t.railOf i = { s.railOf i with lossReported := true }
      ∧ t.ctx i = { s.ctx i with
          destination := some .quarantined, faultRecord := (s.ctx i).faultRecord.add .powerLost }
      ∧ t.notices = s.notices.offer ⟨.fault, some i, 10, []⟩ := by
  have ran := exec_pwrGoodDeassert closed seen fresh (i := i)
  rw [State.put_reportFault_withdrawing (by exact state) rfl] at ran
  exact ⟨_, ran, ⟨fun j hj => State.slot_put_ne hj, rfl⟩, State.railOf_put_self, State.ctx_put_self, rfl⟩

end

/-- Settles O43: each event changes the slot's record and reports its cause, and the place of the card decides how the
withdrawal goes on. -/
theorem faultsPowerTheCardDown : Obligations.FaultsPowerTheCardDown := by
  intro i s
  refine ⟨fun up us state timer => ⟨_, exec_rampTimerExpiry state timer,
      softFaultedDown (r := (s.slot i).rampExpired) up rfl rfl rfl rfl rfl rfl⟩,
    fun up us timer => ⟨_, exec_qualificationTimerExpiry timer,
      softFaultedDown (r := (s.slot i).qualExpired) up rfl rfl rfl rfl rfl rfl⟩,
    fun state out closed discharge us timer => qualificationTimerExpiry_open state out closed discharge timer,
    fun up run due duty state => ?_, fun up seen fresh => ?_, fun up => ?_, fun up state closed queued => ?_,
    fun online scan => ⟨trip_online online scan, powerLost_online online scan⟩,
    fun state closed queued => ⟨trip_withdrawing state closed queued, powerLost_withdrawing state closed⟩⟩
  · have reached := reaches_softFault (r := (s.slot i).checkpointJudged) (c := .qualNoClock) up rfl rfl rfl rfl rfl
    obtain ⟨only, down, attempts, record, notices⟩ :=
      softFaultedDown (r := (s.slot i).checkpointJudged) (c := .qualNoClock) up rfl rfl rfl rfl rfl rfl
    refine ⟨_, exec_lockCheckpoint16_of_no_clock run due duty, only, down, attempts, record, ?_, notices⟩
    rw [reached.det, SlotRecord.openSwitch, det_begun_of_qualifying (by exact state)]
    rfl
  · have reached := reaches_hardFault (r := (s.slot i).lossReported) (c := .powerLost) up rfl rfl rfl rfl rfl
    obtain ⟨only, down, attempts, record, notices⟩ :=
      hardFaultedDown (r := (s.slot i).lossReported) (c := .powerLost) up rfl rfl rfl rfl rfl rfl
    refine ⟨_, exec_pwrGoodDeassert up.2.1 seen fresh, only, down, attempts, ?_, record, notices⟩
    rw [reached.railOf, SlotRecord.openSwitch, SlotRecord.begun_rail]
    rfl
  · have ran := exec_pwrTrip up.2.1 (i := i)
    obtain ⟨notLane, notSplice⟩ := no_work_of_bringUp up
    have reached := reaches_trip (active_of_bringUp up) up.2.1 up.2.2.1 up.2.2.2 ran
    rw [Work.begun_of_plain notLane notSplice (by decide)] at reached
    exact ⟨_, ran, faultedDown_of_reaches reached rfl rfl rfl rfl⟩
  · have ran := exec_pwrTrip closed (i := i)
    exact ⟨_, ran, trip_of_work up state closed queued ran⟩

end Sys2Proof.Machine

/-! The withdrawals that the host asks for: WITHDRAW, REFUSE and a policy of OFF (2.2, 2.6, 2.8 and Section 9). -/

namespace Sys2Proof.Machine

open Sys2Proof Sys2Proof.Safety

set_option Elab.async false

/-! ## What the requests make of the slot's record before its withdrawal begins -/

/-- A slot's record as the host refuses its card (R36, R45). -/
def SlotRecord.hostRefused (r : SlotRecord) : SlotRecord := { r with ctx := { r.ctx with verdict := some .hostRefused } }

/-- A slot's record as the five fields of SET SLOT POLICY are written (R19). -/
def SlotRecord.policyWritten (f : PolicyFields) (r : SlotRecord) : SlotRecord :=
  { r with
    ctx := { r.ctx with policy := f.policy, priority := f.priority, inputPolicy := f.inputPolicy }
    monitor := { r.monitor with triggerMode := f.triggerMode, alertNotices := f.alertNotices } }

theorem policy_of_code_zero {q ip tm an : Byte} {f : PolicyFields} (h : policyFieldsOf 0 q ip tm an = some f) :
    f.policy = .off := by
  simp only [policyFieldsOf, bind, Option.bind_eq_some_iff] at h
  obtain ⟨p, code, _, -, _, -, _, -, fields⟩ := h
  have off : p = .off := (Option.some.inj code).symm
  split at fields
  · rw [← Option.some.inj fields]
    exact off
  · cases fields

/-- The states in which a WITHDRAW is taken (R45). -/
def SlotState.withdrawable (st : SlotState) : Bool := st.active || decide (st = .settling) || decide (st = .rampWait)

section
variable {s : State} {i : Slot} {tag : Byte} (on : s.safeOff = false)
include on

theorem exec_withdraw (h : (s.ctx i).state.withdrawable = true) : exec (.withdraw tag (byteOf i.val)) s
    = .next (((s.put i (s.slot i).hostRefused s.work).beginWithdrawal i .host .refused false []).reply 0x14 tag .ok []) := by
  change Host.Outcome.next (requestWithdraw tag (byteOf i.val) s) = _
  unfold requestWithdraw
  rw [slotOf_byteOf]
  dsimp only
  rw [on, if_neg Bool.false_ne_true]
  cases state : (s.ctx i).state <;> first | rfl | (rw [state] at h; cases h)

theorem exec_withdraw_of_withdrawing (h : (s.ctx i).state = .withdrawing) :
    exec (.withdraw tag (byteOf i.val)) s = .next (s.reply 0x14 tag .already []) := by
  change Host.Outcome.next (requestWithdraw tag (byteOf i.val) s) = _
  simp only [requestWithdraw, slotOf_byteOf, on, h, Bool.false_eq_true, if_false]

theorem exec_withdraw_of_rest (h : (s.ctx i).state = .disabled ∨ (s.ctx i).state = .vacant ∨ (s.ctx i).state = .refused
    ∨ (s.ctx i).state = .quarantined) : exec (.withdraw tag (byteOf i.val)) s = .next (s.reply 0x14 tag .wrongState []) := by
  change Host.Outcome.next (requestWithdraw tag (byteOf i.val) s) = _
  rcases h with h | h | h | h <;> simp only [requestWithdraw, slotOf_byteOf, on, h, Bool.false_eq_true, if_false]

theorem exec_refuse (h : (s.ctx i).state = .parked) : exec (.refuse tag (byteOf i.val)) s
    = .next (((s.put i (s.slot i).hostRefused s.work).beginWithdrawal i .refused .refused false []).reply 0x12 tag .ok []) := by
  change Host.Outcome.next (requestRefuse tag (byteOf i.val) s) = _
  simp only [requestRefuse, slotOf_byteOf, on, h, Bool.false_eq_true, if_true, if_false]
  rfl

theorem exec_refuse_of_ne_parked (h : (s.ctx i).state ≠ .parked) :
    exec (.refuse tag (byteOf i.val)) s = .next (s.reply 0x12 tag .wrongState []) := by
  change Host.Outcome.next (requestRefuse tag (byteOf i.val) s) = _
  simp only [requestRefuse, slotOf_byteOf, on, h, Bool.false_eq_true, if_false]

theorem exec_setSlotPolicy {policy priority ip tm an : Byte} {f : PolicyFields}
    (fields : policyFieldsOf policy priority ip tm an = some f) :
    exec (.setSlotPolicy tag (byteOf i.val) policy priority ip tm an) s = .next ((s.takePolicy i f).reply 0x10 tag .ok []) := by
  change Host.Outcome.next (requestSetSlotPolicy tag (byteOf i.val) policy priority ip tm an s) = _
  simp only [requestSetSlotPolicy, slotOf_byteOf, on, fields, Bool.false_eq_true, if_false]

end

/-- A policy of OFF begins a withdrawal in a state in which the card is under work, and the arbiter evaluates where the slot
was in the ramp queue (R47, R64). -/
theorem State.takePolicy_off {s : State} {i : Slot} {f : PolicyFields} (off : f.policy = .off)
    (state : (s.ctx i).state.withdrawable = true) (ne : (s.ctx i).state ≠ .settling) :
    s.takePolicy i f = if (s.railOf i).queued = true
      then ((s.put i ((s.slot i).policyWritten f) s.work).beginWithdrawal i .policyOff .settling false []).arbitrate
      else (s.put i ((s.slot i).policyWritten f) s.work).beginWithdrawal i .policyOff .settling false [] := by
  have written : s.writePolicy i f = s.put i ((s.slot i).policyWritten f) s.work := rfl
  have same : ((s.put i ((s.slot i).policyWritten f) s.work).ctx i).state = (s.ctx i).state := by
    rw [State.ctx_put_self]
    rfl
  have begins : (s.put i ((s.slot i).policyWritten f) s.work).policyOff i
      = (s.put i ((s.slot i).policyWritten f) s.work).beginWithdrawal i .policyOff .settling false [] := by
    unfold State.policyOff
    rw [same]
    cases h : (s.ctx i).state <;> first | rfl | exact absurd h ne | (rw [h] at state; cases state)
  unfold State.takePolicy
  dsimp only
  rw [written, if_pos off, begins]

/-! ## What step 1 leaves of the monitor, the lane and the images -/

section
variable {i : Slot} {r q : SlotRecord} {w : Work} {reason : Reason} {dest : Destination} {data : List Byte}

theorem SlotRecord.begun_monitor : (r.begun reason dest).monitor = (r.enter .withdrawing).monitor := by
  unfold SlotRecord.begun
  rw [SlotRecord.aborted_monitor]
  rfl

/-- Entering a state leaves the alert settings. -/
theorem SlotRecord.enter_alertSettings (st : SlotState) (r : SlotRecord) :
    (r.enter st).monitor.triggerMode = r.monitor.triggerMode
      ∧ (r.enter st).monitor.alertNotices = r.monitor.alertNotices := by
  rw [SlotRecord.enter_monitor]
  exact ⟨rfl, rfl⟩

theorem Work.begun_images (c : Context) : (w.begun i reason data c).lane = (w.aborted i c.state c).lane
    ∧ (w.begun i reason data c).imageIn = (w.aborted i c.state c).imageIn
    ∧ (w.begun i reason data c).imageOut = (w.aborted i c.state c).imageOut := by
  unfold Work.begun Work.aborted
  split <;> exact ⟨rfl, rfl, rfl⟩

/-- A reason other than REFUSED posts nothing. -/
theorem Notices.began_of_ne (n : Notices) (v : Option Verdict) (why : reason ≠ .refused) : n.began i reason v data = n :=
  if_neg why

end

/-! ## The frames of an answered request -/

section
variable {s t : State} {i : Slot} {r q : SlotRecord} {w : Work} {reason : Reason} {dest : Destination} {data : List Byte}
  {code tag : Byte} {st : Status} {body : List Byte}

theorem State.Reaches.answers (h : Reaches i r w s t) : Answers s (t.reply code tag st body) code tag st body :=
  congrArg (fun l : Link => l.take ⟨code, tag, st, body, none⟩) h.link

theorem State.Reaches.onlySlotAndWork_reply (h : Reaches i r w s t) (age : w.directory.ageTimer = s.directory.ageTimer) :
    OnlySlotAndWork i s (t.reply code tag st body) := by
  obtain ⟨others, rest, timer⟩ := h.onlySlotAndWork age
  exact ⟨others, rest, timer⟩

theorem State.Reaches.onlySlotAndGrants_reply (h : Reaches i r w s t) (lane : w.lane = s.lane)
    (imageIn : w.imageIn = s.imageIn) (imageOut : w.imageOut = s.imageOut) (directory : w.directory = s.directory) :
    OnlySlotAndGrants i s (t.reply code tag st body) := by
  obtain ⟨others, rest⟩ := h.onlySlotAndGrants lane imageIn imageOut directory
  exact ⟨others, rest⟩

/-- The work of a slot has been aborted by the withdrawal that reaches `t`. -/
theorem State.Reaches.workAborted (h : Reaches i r w s t) (state : q.ctx.state = (s.ctx i).state)
    (inWindow : q.ctx.inWindow = (s.ctx i).inWindow) (outWindow : q.ctx.outWindow = (s.ctx i).outWindow)
    (left : q.WorkLeft r) (lane : w.lane = (s.work.aborted i q.ctx.state q.ctx).lane)
    (imageIn : w.imageIn = (s.work.aborted i q.ctx.state q.ctx).imageIn)
    (imageOut : w.imageOut = (s.work.aborted i q.ctx.state q.ctx).imageOut) : WorkAborted i s t :=
  workAborted_of_slot state inWindow outWindow (by rw [h.own]; exact left) (by rw [h.lane, lane])
    (by rw [h.imageIn, imageIn]) (by rw [h.imageOut, imageOut])

/-! ## A powered card -/

/-- A withdrawal of a powered card outside the roster, after a change of its record. -/
theorem reaches_put_closed (skip : q.scan.skip = none) (closed : q.rail.closed = true) (queued : q.rail.queued = false) :
    State.Reaches i ((q.begun reason dest).openSwitch s.dischargeUs) (s.work.begun i reason data q.ctx) s
      ((s.put i q s.work).beginWithdrawal i reason dest false data) :=
  State.reaches_put.beginWithdrawal_closed false skip closed queued

/-- The withdrawal of a card whose switch is open, with no discharge, after a change of its record. -/
theorem reaches_put_open (skip : q.scan.skip = none) (closed : q.rail.closed = false)
    (discharge : q.rail.dischargeTimer = none) :
    State.Reaches i ((q.begun reason dest).unmatched.withdrawn s.longSettleUs)
      { s.work.begun i reason data q.ctx with
        directory := s.directory.unuse q.ctx.matched
        notices := (s.notices.began i reason q.ctx.verdict data).offer ((q.begun reason dest).ctx.withdrawnNotice i) } s
      ((s.put i q s.work).beginWithdrawal i reason dest false data) := by
  have ended := (State.reaches_put (s := s) (i := i) (r := q) (w := s.work)).beginWithdrawal_open (reason := reason)
    (dest := dest) (data := data) false skip closed discharge
  rw [Work.begun_directory, Work.begun_notices] at ended
  exact ended

/-- What a powered-down card keeps of its record. -/
theorem SlotRecord.poweredDown_keeps (us : Nat) :
    ((q.begun reason dest).openSwitch us).ctx.verdict = q.ctx.verdict
      ∧ ((q.begun reason dest).openSwitch us).ctx.policy = q.ctx.policy
      ∧ ((q.begun reason dest).openSwitch us).ctx.priority = q.ctx.priority
      ∧ ((q.begun reason dest).openSwitch us).ctx.inputPolicy = q.ctx.inputPolicy
      ∧ ((q.begun reason dest).openSwitch us).monitor.triggerMode = q.monitor.triggerMode
      ∧ ((q.begun reason dest).openSwitch us).monitor.alertNotices = q.monitor.alertNotices := by
  unfold SlotRecord.openSwitch
  rw [SlotRecord.begun_ctx, SlotRecord.begun_monitor]
  exact ⟨rfl, rfl, rfl, rfl, q.enter_alertSettings _⟩

/-- What the record keeps as its withdrawal ends: the fields that no entry effect reaches. -/
theorem SlotRecord.withdrawn_keeps (us : Nat) :
    ((q.begun reason dest).unmatched.withdrawn us).ctx.policy = q.ctx.policy
      ∧ ((q.begun reason dest).unmatched.withdrawn us).ctx.priority = q.ctx.priority
      ∧ ((q.begun reason dest).unmatched.withdrawn us).ctx.inputPolicy = q.ctx.inputPolicy := by
  rw [SlotRecord.withdrawn_ctx]
  unfold SlotRecord.unmatched
  rw [SlotRecord.begun_ctx]
  exact ⟨rfl, rfl, rfl⟩

theorem SlotRecord.withdrawn_alertSettings (us : Nat) :
    ((q.begun reason dest).unmatched.withdrawn us).monitor.triggerMode = q.monitor.triggerMode
      ∧ ((q.begun reason dest).unmatched.withdrawn us).monitor.alertNotices = q.monitor.alertNotices := by
  have begun : (q.begun reason dest).monitor.triggerMode = q.monitor.triggerMode
      ∧ (q.begun reason dest).monitor.alertNotices = q.monitor.alertNotices := by
    rw [SlotRecord.begun_monitor]
    exact q.enter_alertSettings _
  refine SlotRecord.enterAt_induct (P := fun p => p.monitor.triggerMode = q.monitor.triggerMode
    ∧ p.monitor.alertNotices = q.monitor.alertNotices) (fun _ => ?_) (fun _ => ?_) ?_
  · obtain ⟨mode, notices⟩ := SlotRecord.enter_alertSettings (q.begun reason dest).unmatched.ctx.endState
      (q.begun reason dest).unmatched.unleaving
    exact ⟨mode.trans begun.1, notices.trans begun.2⟩
  · obtain ⟨mode, notices⟩ := SlotRecord.enter_alertSettings .settling (q.begun reason dest).unmatched.unleaving
    exact ⟨mode.trans begun.1, notices.trans begun.2⟩
  · obtain ⟨mode, notices⟩ := SlotRecord.enter_alertSettings (q.begun reason dest).unmatched.ctx.endState
      (q.begun reason dest).unmatched.unleaving
    exact ⟨mode.trans begun.1, notices.trans begun.2⟩

/-- A record that ends its withdrawal in REFUSED keeps its verdict. -/
theorem SlotRecord.withdrawn_verdict {us : Nat} (h : ((q.begun reason dest).unmatched.withdrawn us).ctx.state = .refused) :
    ((q.begun reason dest).unmatched.withdrawn us).ctx.verdict = q.ctx.verdict := by
  rw [SlotRecord.withdrawn_state] at h
  rw [SlotRecord.withdrawn_held (.inl h), SlotRecord.enter_ctx_verdict]
  change (q.begun reason dest).ctx.verdict = _
  rw [SlotRecord.begun_ctx]

theorem endState_begun : (q.begun reason dest).ctx.endState = endOf q.ctx.policy q.ctx.contact dest := by
  rw [Context.endState_eq, SlotRecord.begun_ctx]
  rfl

theorem withdrawnNotice_begun : (q.begun reason dest).ctx.withdrawnNotice i
    = ⟨.withdrawn, some i, reason.code, [(endOf q.ctx.policy q.ctx.contact dest).code]⟩ := by
  unfold Context.withdrawnNotice
  rw [endState_begun, SlotRecord.begun_ctx]
  rfl

theorem withdrawalEnded_of_begun (own : t.slot i = (q.begun reason dest).unmatched.withdrawn s.longSettleUs)
    (directory : t.directory = s.directory.unuse (s.ctx i).matched) :
    WithdrawalEnded i s t (endOf q.ctx.policy q.ctx.contact dest) := by
  have ctx := SlotRecord.begun_ctx (r := q) (reason := reason) (dest := dest)
  have ended := withdrawalEnded_of_slot own (by rw [ctx]) directory
  rw [ctx] at ended
  exact ended

theorem endOf_ne_settling (p : Policy) (c : ContactState) : endOf p c .refused ≠ .settling := by
  unfold endOf
  split
  · decide
  · split <;> decide

end

end Sys2Proof.Machine

/-! WITHDRAW, REFUSE and a policy of OFF in the bring-up: the card is powered down, or its withdrawal ends within the event
(2.2, 2.6, 2.8). -/

namespace Sys2Proof.Machine

open Sys2Proof Sys2Proof.Safety

set_option Elab.async false

section
variable {s t : State} {i : Slot} {q : SlotRecord} {reason : Reason} {dest : Destination} {data : List Byte}
  {tag : Byte} {f : PolicyFields}

theorem withdrawable_of_bringUp (h : InBringUp i s) : (s.ctx i).state.withdrawable = true := by
  obtain ⟨state | state | state | state | state | state | state, -⟩ := h <;> rw [state] <;> rfl

theorem inBringUp_of_powered (h : PoweredBringUp i s) : InBringUp i s := by
  obtain ⟨state | state | state, -, -, out⟩ := h <;> exact ⟨by tauto, out⟩

theorem settling_ne_of_powered (h : PoweredBringUp i s) : (s.ctx i).state ≠ .settling := by
  obtain ⟨state | state | state, -⟩ := h <;> rw [state] <;> decide

/-! ## A card that is powered down -/

/-- A WITHDRAW of a powered card in the bring-up. -/
theorem withdraw_powered (on : s.safeOff = false) (up : PoweredBringUp i s) :
    ∃ t, exec (.withdraw tag (byteOf i.val)) s = .next t
      ∧ OnlySlotAndGrants i s t ∧ PoweredDown i s t .host .refused ∧ (t.ctx i).verdict = some .hostRefused
      ∧ t.notices = s.notices ∧ Answers s t 0x14 tag .ok []
      ∧ ((s.ctx i).state = .qualifying → (t.det i).run = .stopped ∧ (t.det i).qualTimer = .idle) := by
  obtain ⟨notLane, notSplice⟩ := no_work_of_bringUp up
  have down := reaches_put_closed (s := s) (i := i) (q := (s.slot i).hostRefused) (reason := .host) (dest := .refused)
    (data := []) (skip_of_inRoster up.2.2.2) up.2.1 up.2.2.1
  have plain : s.work.begun i .host [] (s.slot i).hostRefused.ctx = s.work :=
    Work.begun_of_plain notLane notSplice (by decide)
  rw [plain] at down
  refine ⟨_, exec_withdraw on (withdrawable_of_bringUp (inBringUp_of_powered up)),
    down.onlySlotAndGrants_reply rfl rfl rfl rfl, poweredDown_of_slot down.own rfl rfl rfl rfl, ?_, down.notices, down.answers,
    fun qualifying => ?_⟩
  · exact (congrArg Context.verdict down.ctx).trans (SlotRecord.poweredDown_keeps _).1
  · have stopped := down.det.trans (det_begun_of_qualifying (r := (s.slot i).hostRefused) qualifying)
    exact ⟨congrArg Detector.run stopped, congrArg Detector.qualTimer stopped⟩

/-- A REFUSE of a powered PARKED card. -/
theorem refuse_powered (on : s.safeOff = false) (up : PoweredBringUp i s) (parked : (s.ctx i).state = .parked) :
    ∃ t, exec (.refuse tag (byteOf i.val)) s = .next t
      ∧ OnlySlotAndGrants i s t ∧ PoweredDown i s t .refused .refused ∧ (t.ctx i).verdict = some .hostRefused
      ∧ t.notices = s.notices.offer ⟨.refused, some i, 11, []⟩ ∧ Answers s t 0x12 tag .ok [] := by
  obtain ⟨notLane, notSplice⟩ := no_work_of_bringUp up
  have down := reaches_put_closed (s := s) (i := i) (q := (s.slot i).hostRefused) (reason := .refused) (dest := .refused)
    (data := []) (skip_of_inRoster up.2.2.2) up.2.1 up.2.2.1
  rw [Work.begun_of_refusal (v := .hostRefused) (by exact notLane) (by exact notSplice) rfl] at down
  exact ⟨_, exec_refuse on parked, down.onlySlotAndGrants_reply rfl rfl rfl rfl,
    poweredDown_of_slot down.own rfl rfl rfl rfl,
    (congrArg Context.verdict down.ctx).trans (SlotRecord.poweredDown_keeps _).1, down.notices, down.answers⟩

/-- The five fields stand in a record that a policy of OFF has powered down. -/
theorem fieldsWritten_closed (own : t.slot i = (((s.slot i).policyWritten f).begun reason dest).openSwitch s.dischargeUs) :
    FieldsWritten i f t := by
  obtain ⟨-, policy, priority, input, mode, notices⟩ :=
    ((s.slot i).policyWritten f).poweredDown_keeps (reason := reason) (dest := dest) s.dischargeUs
  unfold FieldsWritten
  rw [State.ctx_eq, State.mon_eq, own]
  exact ⟨policy, priority, input, mode, notices⟩

theorem fieldsWritten_open
    (own : t.slot i = (((s.slot i).policyWritten f).begun reason dest).unmatched.withdrawn s.longSettleUs) :
    FieldsWritten i f t := by
  obtain ⟨policy, priority, input⟩ :=
    ((s.slot i).policyWritten f).withdrawn_keeps (reason := reason) (dest := dest) s.longSettleUs
  obtain ⟨mode, notices⟩ :=
    ((s.slot i).policyWritten f).withdrawn_alertSettings (reason := reason) (dest := dest) s.longSettleUs
  unfold FieldsWritten
  rw [State.ctx_eq, State.mon_eq, own]
  exact ⟨policy, priority, input, mode, notices⟩

/-- A card that a policy of OFF powers down. -/
theorem poweredDown_policyOff (off : f.policy = .off)
    (own : t.slot i = (((s.slot i).policyWritten f).begun reason dest).openSwitch s.dischargeUs) :
    PoweredDown i (s.modCtx i fun c => { c with policy := .off }) t reason dest := by
  have ctx : (s.modCtx i fun c => { c with policy := .off }).ctx i = { s.ctx i with policy := .off } := by
    rw [State.ctx_eq, State.modCtx_eq, State.slot_modSlot_self]
    rfl
  refine poweredDown_of_slot (s := s.modCtx i _) own ?_ ?_ ?_ ?_ <;> rw [ctx]
  · rfl
  · rfl
  · exact off
  · rfl

theorem policyOff_powered (on : s.safeOff = false) (up : PoweredBringUp i s) {q ip tm an : Byte}
    (fields : policyFieldsOf 0 q ip tm an = some f) :
    ∃ t, exec (.setSlotPolicy tag (byteOf i.val) 0 q ip tm an) s = .next t
      ∧ OnlySlotAndGrants i s t ∧ FieldsWritten i f t
      ∧ PoweredDown i (s.modCtx i fun c => { c with policy := .off }) t .policyOff .settling
      ∧ (t.ctx i).verdict = (s.ctx i).verdict ∧ t.notices = s.notices ∧ Answers s t 0x10 tag .ok [] := by
  obtain ⟨notLane, notSplice⟩ := no_work_of_bringUp up
  have off := policy_of_code_zero fields
  have down := reaches_put_closed (s := s) (i := i) (q := (s.slot i).policyWritten f) (reason := .policyOff)
    (dest := .settling) (data := []) (skip_of_inRoster up.2.2.2) up.2.1 up.2.2.1
  have plain : s.work.begun i .policyOff [] ((s.slot i).policyWritten f).ctx = s.work :=
    Work.begun_of_plain notLane notSplice (by decide)
  rw [plain] at down
  have ran := exec_setSlotPolicy (tag := tag) on fields (i := i)
  rw [State.takePolicy_off off (withdrawable_of_bringUp (inBringUp_of_powered up)) (settling_ne_of_powered up),
    if_neg (by rw [up.2.2.1]; exact Bool.false_ne_true)] at ran
  exact ⟨_, ran, down.onlySlotAndGrants_reply rfl rfl rfl rfl, fieldsWritten_closed down.own,
    poweredDown_policyOff off down.own, (congrArg Context.verdict down.ctx).trans (SlotRecord.poweredDown_keeps _).1,
    down.notices, down.answers⟩

/-! ## A powered card whose work is in the lane or in the splice list -/

/-- The frame of a withdrawal of a powered card that posts nothing. -/
theorem workAborted_closed (state : q.ctx.state = (s.ctx i).state) (inWindow : q.ctx.inWindow = (s.ctx i).inWindow)
    (outWindow : q.ctx.outWindow = (s.ctx i).outWindow)
    (h : State.Reaches i ((q.begun reason dest).openSwitch s.dischargeUs) (s.work.begun i reason data q.ctx) s t) :
    WorkAborted i s t := by
  obtain ⟨lane, imageIn, imageOut⟩ := Work.begun_images (w := s.work) (i := i) (reason := reason) (data := data) q.ctx
  exact h.workAborted state inWindow outWindow (q.workLeft_openSwitch _) lane imageIn imageOut

theorem begun_age (c : Context) : (s.work.begun i reason data c).directory.ageTimer = s.directory.ageTimer := by
  rw [Work.begun_directory]
  rfl

theorem withdraw_working (on : s.safeOff = false) (up : InBringUp i s) (closed : (s.railOf i).closed = true)
    (queued : (s.railOf i).queued = false) :
    ∃ t, exec (.withdraw tag (byteOf i.val)) s = .next t ∧ OnlySlotAndWork i s t ∧ WorkAborted i s t
      ∧ PoweredDown i s t .host .refused ∧ (t.ctx i).verdict = some .hostRefused
      ∧ t.directory = s.directory ∧ t.notices = s.notices ∧ Answers s t 0x14 tag .ok [] := by
  have down := reaches_put_closed (s := s) (i := i) (q := (s.slot i).hostRefused) (reason := .host) (dest := .refused)
    (data := []) (skip_of_inRoster up.2) closed queued
  have aborted := workAborted_closed (q := (s.slot i).hostRefused) rfl rfl rfl down
  refine ⟨_, exec_withdraw on (withdrawable_of_bringUp up), down.onlySlotAndWork_reply (begun_age _), aborted, poweredDown_of_slot down.own rfl rfl rfl rfl,
    (congrArg Context.verdict down.ctx).trans (SlotRecord.poweredDown_keeps _).1, ?_, ?_, down.answers⟩
  · exact down.directory.trans (Work.begun_directory _)
  · exact down.notices.trans (Work.begun_notices _)

theorem policyOff_working (on : s.safeOff = false) (up : InBringUp i s)
    (state : (s.ctx i).state = .identifying ∨ (s.ctx i).state = .spliceWait) (closed : (s.railOf i).closed = true)
    (queued : (s.railOf i).queued = false) {q ip tm an : Byte} (fields : policyFieldsOf 0 q ip tm an = some f) :
    ∃ t, exec (.setSlotPolicy tag (byteOf i.val) 0 q ip tm an) s = .next t ∧ OnlySlotAndWork i s t
      ∧ FieldsWritten i f t ∧ WorkAborted i s t
      ∧ PoweredDown i (s.modCtx i fun c => { c with policy := .off }) t .policyOff .settling
      ∧ (t.ctx i).verdict = (s.ctx i).verdict ∧ t.directory = s.directory ∧ t.notices = s.notices
      ∧ Answers s t 0x10 tag .ok [] := by
  have off := policy_of_code_zero fields
  have down := reaches_put_closed (s := s) (i := i) (q := (s.slot i).policyWritten f) (reason := .policyOff)
    (dest := .settling) (data := []) (skip_of_inRoster up.2) closed queued
  have ran := exec_setSlotPolicy (tag := tag) on fields (i := i)
  rw [State.takePolicy_off off (withdrawable_of_bringUp up) (by rcases state with h | h <;> rw [h] <;> decide),
    if_neg (by rw [queued]; exact Bool.false_ne_true)] at ran
  have aborted := workAborted_closed (q := (s.slot i).policyWritten f) rfl rfl rfl down
  refine ⟨_, ran, down.onlySlotAndWork_reply (begun_age _), fieldsWritten_closed down.own, aborted, poweredDown_policyOff off down.own,
    (congrArg Context.verdict down.ctx).trans (SlotRecord.poweredDown_keeps _).1, ?_, ?_, down.answers⟩
  · exact down.directory.trans (Work.begun_directory _)
  · exact down.notices.trans (Work.begun_notices _)

/-! ## A card whose switch is open -/

/-- The frame of a withdrawal that ends within its event. -/
theorem workAborted_open (state : q.ctx.state = (s.ctx i).state) (inWindow : q.ctx.inWindow = (s.ctx i).inWindow)
    (outWindow : q.ctx.outWindow = (s.ctx i).outWindow) {d : Directory} {n : Notices}
    (ends : endOf q.ctx.policy q.ctx.contact dest ≠ .settling)
    (h : State.Reaches i ((q.begun reason dest).unmatched.withdrawn s.longSettleUs)
      { s.work.begun i reason data q.ctx with directory := d, notices := n } s t) : WorkAborted i s t := by
  obtain ⟨lane, imageIn, imageOut⟩ := Work.begun_images (w := s.work) (i := i) (reason := reason) (data := data) q.ctx
  refine h.workAborted state inWindow outWindow (q.workLeft_withdrawn _ ?_) lane imageIn imageOut
  rw [endState_begun]
  exact ends

theorem withdraw_open (on : s.safeOff = false) (up : InBringUp i s) (closed : (s.railOf i).closed = false)
    (discharge : (s.railOf i).dischargeTimer = none) :
    ∃ t, exec (.withdraw tag (byteOf i.val)) s = .next t ∧ OnlySlotAndWork i s t ∧ WorkAborted i s t
      ∧ WithdrawalEnded i s t (endOf (s.ctx i).policy (s.ctx i).contact .refused)
      ∧ ((t.ctx i).state = .refused → (t.ctx i).verdict = some .hostRefused)
      ∧ t.notices = s.notices.offer ⟨.withdrawn, some i, 0, [(t.ctx i).state.code]⟩ ∧ Answers s t 0x14 tag .ok [] := by
  have ended := reaches_put_open (s := s) (i := i) (q := (s.slot i).hostRefused) (reason := .host) (dest := .refused)
    (data := []) (skip_of_inRoster up.2) closed discharge
  have finished := withdrawalEnded_of_begun (q := (s.slot i).hostRefused) ended.own ended.directory
  have aborted := workAborted_open (q := (s.slot i).hostRefused) rfl rfl rfl (endOf_ne_settling _ _) ended
  refine ⟨_, exec_withdraw on (withdrawable_of_bringUp up), ended.onlySlotAndWork_reply (Directory.unuse_ageTimer _ _),
    aborted, finished, ?_, ?_, ended.answers⟩
  · intro refused
    exact (congrArg Context.verdict ended.ctx).trans
      (SlotRecord.withdrawn_verdict ((congrArg Context.state ended.ctx).symm.trans refused))
  · refine ended.notices.trans ?_
    rw [withdrawnNotice_begun, Notices.began_of_ne _ _ (by decide), ← finished.1]
    rfl

theorem policyOff_open (on : s.safeOff = false) (up : InBringUp i s) (closed : (s.railOf i).closed = false)
    (discharge : (s.railOf i).dischargeTimer = none) (state : (s.ctx i).state ≠ .settling)
    (waits : (s.railOf i).queued = true → (s.ctx i).state = .rampWait) {q ip tm an : Byte}
    (fields : policyFieldsOf 0 q ip tm an = some f) :
    ∃ t, exec (.setSlotPolicy tag (byteOf i.val) 0 q ip tm an) s = .next t ∧ OnlySlotAndWork i s t
      ∧ FieldsWritten i f t ∧ WorkAborted i s t ∧ WithdrawalEnded i s t .disabled
      ∧ t.notices = s.notices.offer ⟨.withdrawn, some i, 1, [0]⟩ ∧ Answers s t 0x10 tag .ok [] := by
  have off := policy_of_code_zero fields
  have ends : endOf ((s.slot i).policyWritten f).ctx.policy ((s.slot i).policyWritten f).ctx.contact .settling = .disabled :=
    if_pos off
  have ended := reaches_put_open (s := s) (i := i) (q := (s.slot i).policyWritten f) (reason := .policyOff)
    (dest := .settling) (data := []) (skip_of_inRoster up.2) closed discharge
  have ran := exec_setSlotPolicy (tag := tag) on fields (i := i)
  rw [State.takePolicy_off off (withdrawable_of_bringUp up) state] at ran
  have reached : ∃ u, exec (.setSlotPolicy tag (byteOf i.val) 0 q ip tm an) s = .next (u.reply 0x10 tag .ok [])
      ∧ State.Reaches i ((((s.slot i).policyWritten f).begun .policyOff .settling).unmatched.withdrawn s.longSettleUs)
        { s.work.begun i .policyOff [] ((s.slot i).policyWritten f).ctx with
          directory := s.directory.unuse (s.ctx i).matched
          notices := (s.notices.began i .policyOff (s.ctx i).verdict []).offer
            ((((s.slot i).policyWritten f).begun .policyOff .settling).ctx.withdrawnNotice i) } s u := by
    by_cases queued : (s.railOf i).queued = true
    · rw [if_pos queued] at ran
      refine ⟨_, ran, ended.arbitrate ?_⟩
      rw [SlotRecord.withdrawn_rail]
      change ((((s.slot i).policyWritten f)).begun .policyOff .settling).rail.queued = false
      unfold SlotRecord.begun
      rw [show ((s.slot i).policyWritten f).ctx.state = .rampWait from waits queued]
      rfl
    · rw [if_neg queued] at ran
      exact ⟨_, ran, ended⟩
  obtain ⟨u, taken, reaches⟩ := reached
  have finished := withdrawalEnded_of_begun (q := (s.slot i).policyWritten f) reaches.own reaches.directory
  rw [ends] at finished
  have aborted := workAborted_open (q := (s.slot i).policyWritten f) rfl rfl rfl (by rw [ends]; decide) reaches
  refine ⟨_, taken, reaches.onlySlotAndWork_reply (Directory.unuse_ageTimer _ _), fieldsWritten_open reaches.own, aborted,
    finished, ?_,
    reaches.answers⟩
  refine reaches.notices.trans ?_
  rw [withdrawnNotice_begun, Notices.began_of_ne _ _ (by decide), ends]
  rfl

theorem refuse_open (on : s.safeOff = false) (up : InBringUp i s) (closed : (s.railOf i).closed = false)
    (discharge : (s.railOf i).dischargeTimer = none) (parked : (s.ctx i).state = .parked) :
    ∃ t, exec (.refuse tag (byteOf i.val)) s = .next t ∧ OnlySlotAndWork i s t
      ∧ WithdrawalEnded i s t (endOf (s.ctx i).policy (s.ctx i).contact .refused)
      ∧ t.notices = (s.notices.offer ⟨.refused, some i, 11, []⟩).offer
          ⟨.withdrawn, some i, 5, [(t.ctx i).state.code]⟩
      ∧ Answers s t 0x12 tag .ok [] := by
  have ended := reaches_put_open (s := s) (i := i) (q := (s.slot i).hostRefused) (reason := .refused) (dest := .refused)
    (data := []) (skip_of_inRoster up.2) closed discharge
  have finished := withdrawalEnded_of_begun (q := (s.slot i).hostRefused) ended.own ended.directory
  refine ⟨_, exec_refuse on parked, ended.onlySlotAndWork_reply (Directory.unuse_ageTimer _ _), finished, ?_, ended.answers⟩
  refine ended.notices.trans ?_
  rw [withdrawnNotice_begun, ← finished.1]
  rfl

end

/-- Settles O21: a withdrawal whose switch is closed reaches the power step and waits for its discharge; one whose switch is
open ends within the event; and a policy of OFF is the same after its fields are written. -/
theorem withdrawalsPowerTheCardDown : Obligations.WithdrawalsPowerTheCardDown := by
  intro tag i s on
  refine ⟨withdraw_powered on, refuse_powered on, fun ne => answered_of_eq_reply (exec_refuse_of_ne_parked on ne),
    fun up q ip tm an f => policyOff_powered on up,
    fun up state closed queued => ⟨withdraw_working on up closed queued,
      fun q ip tm an f => policyOff_working on up state closed queued⟩,
    fun up closed discharge => ⟨withdraw_open on up closed discharge,
      fun state waits q ip tm an f => policyOff_open on up closed discharge state waits, refuse_open on up closed discharge⟩⟩

end Sys2Proof.Machine

/-! Departures of ONLINE cards: a WITHDRAW and a loss of lock, which wait for the scan or depart within the event where it is
STOPPED (2.8, 5.2, 5.4, 8.4, 9.1). -/

namespace Sys2Proof.Machine

open Sys2Proof Sys2Proof.Safety

set_option Elab.async false

section
variable {s t : State} {i : Slot} {q r : SlotRecord} {w : Work} {reason : Reason} {dest : Destination} {data : List Byte}

/-! ## What leaving ONLINE does to the record (R9, R14, R18) -/

theorem SlotRecord.enter_of_online (state : r.ctx.state = .online) {st : SlotState} (ne : st ≠ .online) :
    r.enter st = { r with
      monitor := (r.monitor.leaveOnline).showPattern st.pattern
      ctx := { r.ctx with state := st, missCount := none } } := if_pos ⟨state, ne⟩

/-- A slot that leaves ONLINE has no sticky flag and no dark pulse. -/
theorem Monitor.leaveOnline_flags (m : Monitor) (p : LedPattern) :
    (m.leaveOnline.showPattern p).sticky = false ∧ (m.leaveOnline.showPattern p).darkPulse = none := by
  unfold Monitor.showPattern
  split <;> exact ⟨rfl, rfl⟩

theorem SlotRecord.marked_of_online (state : r.ctx.state = .online) : (r.marked reason dest).ctx = { r.ctx with
    state := .withdrawing, missCount := none, leaving := some .none, destination := some dest, reason := some reason } := by
  unfold SlotRecord.marked
  rw [SlotRecord.enter_of_online state (by decide)]

theorem SlotRecord.marked_flags (state : r.ctx.state = .online) :
    (r.marked reason dest).monitor.sticky = false ∧ (r.marked reason dest).monitor.darkPulse = none := by
  change (r.enter .withdrawing).monitor.sticky = false ∧ (r.enter .withdrawing).monitor.darkPulse = none
  rw [SlotRecord.enter_of_online state (by decide)]
  exact r.monitor.leaveOnline_flags _

theorem online_work {st : SlotState} (state : st = .online) : st ≠ .identifying ∧ st ≠ .spliceWait := by
  rw [state]
  decide

/-! ## A card that leaves a STOPPED scan (R152, R154) -/

/-- A slot's record as its withdrawal begins in a STOPPED scan and its LEAVE is applied, its power step aside. -/
def SlotRecord.leftScan (reason : Reason) (dest : Destination) (q : SlotRecord) : SlotRecord :=
  { (q.begun reason dest).leaveQueued.windowless with scan := ScanSlot.reset }

theorem SlotRecord.leftScan_eq (state : q.ctx.state = .online) : q.leftScan reason dest = { q with
    monitor := (q.marked reason dest).monitor
    ctx := { q.ctx with
      state := .withdrawing, missCount := none, leaving := some .leavePending, destination := some dest
      reason := some reason, inWindow := none, outWindow := none, inputQuality := none }
    detector := q.detector.stop, scan := ScanSlot.reset } := by
  have rail := q.marked_rail (reason := reason) (dest := dest)
  unfold SlotRecord.leftScan
  rw [begun_of_online state]
  unfold SlotRecord.leaveQueued SlotRecord.windowless Context.dropWindows
  rw [SlotRecord.marked_of_online state, rail]

/-- The images as a slot's windows go back to them. -/
def Work.windowless (c : Context) (w : Work) : Work :=
  { w with imageIn := w.imageIn.give c.inWindow, imageOut := w.imageOut.give c.outWindow }

/-- The state on the way to the departure, for a reason that posts nothing. -/
theorem reaches_leaveQueued (state : q.ctx.state = .online) (why : reason ≠ .refused) :
    State.Reaches i (q.begun reason dest).leaveQueued w s
      (((s.put i q w).begun i reason dest data).modSlot i SlotRecord.leaveQueued) := by
  obtain ⟨notLane, notSplice⟩ := online_work state
  have begun := (State.reaches_put (s := s) (i := i) (r := q) (w := w)).begun reason dest data
  rw [Work.begun_of_plain notLane notSplice why] at begun
  exact begun.modSlot _

theorem leaveQueued_windows (state : q.ctx.state = .online) :
    (q.begun reason dest).leaveQueued.ctx.inWindow = q.ctx.inWindow
      ∧ (q.begun reason dest).leaveQueued.ctx.outWindow = q.ctx.outWindow
      ∧ (q.begun reason dest).leaveQueued.ctx.matched = q.ctx.matched := by
  rw [begun_of_online state]
  unfold SlotRecord.leaveQueued
  rw [SlotRecord.marked_ctx]
  exact ⟨rfl, rfl, rfl⟩

theorem reaches_leftScan_closed (state : q.ctx.state = .online) (roster : q.scan.skip.isSome = true)
    (scan : s.scan.state = .stopped) (why : reason ≠ .refused) (closed : q.rail.closed = true)
    (queued : q.rail.queued = false) :
    State.Reaches i ((q.leftScan reason dest).openSwitch s.dischargeUs) (w.windowless q.ctx) s
      ((s.put i q w).beginWithdrawal i reason dest false data) := by
  obtain ⟨inWindow, outWindow, -⟩ := leaveQueued_windows (q := q) (reason := reason) (dest := dest) state
  rw [State.beginWithdrawal_stopped (s := s.put i q w) (by rw [State.ctx_put_self, state]; decide)
    (by rw [State.inRoster_put_self]; exact roster) scan]
  have left := (reaches_leaveQueued (s := s) (i := i) (w := w) (data := data) (dest := dest) state why).depart_closed
    (by change (q.begun reason dest).rail.closed = true; rw [SlotRecord.begun_rail]; exact closed)
    (SlotRecord.begun_queued (r := q) queued)
  rw [inWindow, outWindow] at left
  exact left

theorem reaches_leftScan_open (state : q.ctx.state = .online) (roster : q.scan.skip.isSome = true)
    (scan : s.scan.state = .stopped) (why : reason ≠ .refused) (closed : q.rail.closed = false)
    (discharge : q.rail.dischargeTimer = none) :
    State.Reaches i ((q.leftScan reason dest).unmatched.withdrawn s.longSettleUs)
      { w.windowless q.ctx with
        directory := w.directory.unuse q.ctx.matched
        notices := w.notices.offer ((q.leftScan reason dest).ctx.withdrawnNotice i) } s
      ((s.put i q w).beginWithdrawal i reason dest false data) := by
  obtain ⟨inWindow, outWindow, matched⟩ := leaveQueued_windows (q := q) (reason := reason) (dest := dest) state
  rw [State.beginWithdrawal_stopped (s := s.put i q w) (by rw [State.ctx_put_self, state]; decide)
    (by rw [State.inRoster_put_self]; exact roster) scan]
  have left := (reaches_leaveQueued (s := s) (i := i) (w := w) (data := data) (dest := dest) state why).depart_open
    (by change (q.begun reason dest).ctx.state = .withdrawing; rw [SlotRecord.begun_ctx])
    (by change (q.begun reason dest).rail.closed = false; rw [SlotRecord.begun_rail]; exact closed)
    (by change (q.begun reason dest).rail.dischargeTimer = none; rw [SlotRecord.begun_rail]; exact discharge)
  rw [inWindow, outWindow, matched] at left
  exact left

/-- The slot has left the roster without its windows. -/
theorem departed_of_slot (scan : (t.slot i).scan = ScanSlot.reset) (windows : (t.ctx i).inWindow = none
    ∧ (t.ctx i).outWindow = none ∧ (t.ctx i).inputQuality = none) : Departed i t := ⟨scan, windows⟩

/-! ## WITHDRAW of an ONLINE card (R45, R167) -/

variable {tag : Byte}

/-- The record of a roster slot whose withdrawal waits for the scan. -/
def SlotRecord.departureAsked (release : Bool) (r : SlotRecord) : SlotRecord :=
  if release then r.releaseAwaited else r.leaveQueued

theorem withdraw_waits (on : s.safeOff = false) (state : (s.ctx i).state = .online) (roster : s.inRoster i = true)
    (scan : s.scan.state ≠ .stopped) : exec (.withdraw tag (byteOf i.val)) s = .next ((s.put i
      (((s.slot i).hostRefused.begun .host .refused).departureAsked
        (decide (s.scan.state = .running ∧ (s.ctx i).identity.any Identity.releaseCapable = true))) s.work).reply
      0x14 tag .ok []) := by
  obtain ⟨notLane, notSplice⟩ := online_work state
  have begun := (s.slot i).hostRefused.begun_ctx (reason := .host) (dest := .refused)
  have host : ((s.put i ((s.slot i).hostRefused.begun .host .refused) s.work).ctx i).reason = some .host := by
    rw [State.ctx_put_self, begun]
  have identity : ((s.put i ((s.slot i).hostRefused.begun .host .refused) s.work).ctx i).identity = (s.ctx i).identity := by
    rw [State.ctx_put_self, begun]
    rfl
  rw [exec_withdraw on (by rw [state]; rfl), State.beginWithdrawal_of_roster (s := s.put i (s.slot i).hostRefused s.work) false
    (by rw [State.inRoster_put_self]; exact roster)
    (fun waits => absurd (waits.symm.trans ((congrArg Context.state State.ctx_put_self).trans state)) (by decide))
    (fun h => by cases h), if_neg Bool.false_ne_true, State.put_begun,
    Work.begun_of_plain (c := (s.slot i).hostRefused.ctx) notLane notSplice (by decide)]
  congr 2
  by_cases release : s.scan.state = .running ∧ (s.ctx i).identity.any Identity.releaseCapable = true
  · rw [State.requestDeparture_of_release (by exact release.1) host (by rw [identity]; exact release.2), State.put_modSlot,
      decide_eq_true release]
    rfl
  · rw [State.requestDeparture_of_queue (by exact scan) (by rw [identity]; exact fun h => release ⟨h.1, h.2.2⟩),
      State.put_modSlot, decide_eq_false release]
    rfl

end

/-- Settles O22: step 1 leaves an ONLINE card powered and in the roster, and the scan's state decides whether it waits for
RELEASE, for its LEAVE, or departs and takes its power step. -/
theorem withdrawFromTheRosterWaitsForTheScan : Obligations.WithdrawFromTheRosterWaitsForTheScan := by
  intro tag i s on
  refine ⟨fun state roster scan => ?_, fun ⟨state, roster, closed, queued⟩ scan => ?_,
    fun state => answered_of_eq_reply (exec_withdraw_of_withdrawing on state),
    fun state => answered_of_eq_reply (exec_withdraw_of_rest on state)⟩
  · refine ⟨_, withdraw_waits on state roster scan, ⟨fun j hj => State.slot_put_ne (w := s.work) hj, rfl⟩, rfl, ?_⟩
    have own : ∀ r : SlotRecord, ((s.put i r s.work).reply 0x14 tag .ok []).slot i = r :=
      fun r => State.slot_put_self (w := s.work)
    obtain ⟨sticky, pulse⟩ := SlotRecord.marked_flags (r := (s.slot i).hostRefused) (reason := .host) (dest := .refused) state
    rw [State.ctx_eq, State.railOf_eq, State.mon_eq, State.det_eq, State.scanOf_eq, own,
      begun_of_online (r := (s.slot i).hostRefused) state]
    by_cases release : s.scan.state = .running ∧ (s.ctx i).identity.any Identity.releaseCapable = true
    · rw [if_pos release, decide_eq_true release]
      unfold SlotRecord.departureAsked SlotRecord.releaseAwaited
      rw [if_pos rfl, SlotRecord.marked_of_online (by exact state), SlotRecord.marked_rail, SlotRecord.marked_scan]
      exact ⟨rfl, rfl, rfl, rfl, rfl, rfl, rfl, rfl, rfl, sticky, pulse, rfl, rfl, rfl, rfl, rfl, rfl⟩
    · rw [if_neg release, decide_eq_false release]
      unfold SlotRecord.departureAsked SlotRecord.leaveQueued
      rw [if_neg Bool.false_ne_true, SlotRecord.marked_of_online (by exact state), SlotRecord.marked_rail,
        SlotRecord.marked_scan]
      exact ⟨rfl, rfl, rfl, rfl, rfl, rfl, rfl, rfl, rfl, sticky, pulse, rfl, rfl, rfl, rfl, rfl, rfl⟩
  · have left := reaches_leftScan_closed (s := s) (i := i) (q := (s.slot i).hostRefused) (w := s.work) (reason := .host)
      (dest := .refused) (data := []) state roster scan (by decide) closed queued
    have own := left.own
    rw [SlotRecord.leftScan_eq (by exact state)] at own
    have ctx := congrArg SlotRecord.ctx own
    refine ⟨_, exec_withdraw on (by rw [state]; rfl), left.onlySlotAndWork_reply rfl, left.lane, left.directory, left.notices,
      left.answers, congrArg Context.state ctx, congrArg Context.reason ctx, congrArg Context.destination ctx,
      congrArg Context.leaving ctx, congrArg Context.verdict ctx, ?_, ?_, powerStepTaken_of_slot left.own, ?_⟩
    · exact departed_of_slot (congrArg SlotRecord.scan own)
        ⟨congrArg Context.inWindow ctx, congrArg Context.outWindow ctx, congrArg Context.inputQuality ctx⟩
    · exact windowsReleased_of_give
        ⟨congrArg Context.inWindow ctx, congrArg Context.outWindow ctx, congrArg Context.inputQuality ctx⟩
        left.imageIn left.imageOut
    · exact (congrArg (fun r : SlotRecord => r.detector.run) own :)

section
variable {s t : State} {i : Slot} {c : Instr}

/-! ## Loss of lock (R41, R97, R98, R107) -/

/-- A slot's record with another detector. -/
def SlotRecord.withDetector (d : Detector) (r : SlotRecord) : SlotRecord := { r with detector := d }

/-- A slot's record as its loss of lock is recorded and counted. -/
def SlotRecord.lockLost (d : Detector) (r : SlotRecord) : SlotRecord := ((r.withDetector d).faulted .lockLost).counted

theorem countMatches_eq_false {tolerance n e : Nat} (h : n + tolerance < e ∨ e + tolerance < n) :
    countMatches tolerance n e = false := by
  unfold countMatches
  rw [decide_eq_false_iff_not]
  omega

/-- Each event that loses the lock changes the detector and reports LOCK_LOST. -/
theorem exec_of_losesLock (state : (s.ctx i).state = .online) (lost : LosesLock i c s) : ∃ d, exec c s
    = .next ((s.put i ((s.slot i).lockLost d) (s.work.faulted i .lockLost)).beginWithdrawal i .fault
        (softDestination i s) false []) := by
  have reported : ∀ d : Detector, (s.put i ((s.slot i).withDetector d) s.work).reportFault i .lockLost
      = (s.put i ((s.slot i).lockLost d) (s.work.faulted i .lockLost)).beginWithdrawal i .fault
        (softDestination i s) false [] := fun d =>
    State.put_reportFault_soft (by rw [show ((s.slot i).withDetector d).ctx.state = .online from state]; rfl) rfl
  rcases lost with ⟨rfl, timer⟩ | ⟨run, duty, ⟨rfl, due⟩ | ⟨rfl, grace, n, e, due, expected, off⟩⟩
  · refine ⟨{ s.det i with graceTimer := none }, ?_⟩
    rw [← reported]
    exact congrArg Host.Outcome.next (if_pos (Option.isSome_iff_ne_none.mpr timer))
  · refine ⟨(s.det i).judged, ?_⟩
    rw [← reported]
    change execLockCheckpoint16 i s = _
    unfold execLockCheckpoint16 State.checkpoint16
    rw [Detector.dueCount_of_due run due, duty]
    rfl
  · refine ⟨(s.det i).coarseResult false, ?_⟩
    rw [← reported]
    change execLockCheckpoint32 i s = _
    unfold execLockCheckpoint32 State.checkpoint32
    rw [Detector.dueCount_of_due run due]
    dsimp only
    rw [expected, Option.getD_some, countMatches_eq_false off, if_pos ⟨rfl, duty, grace⟩]
    rfl

theorem lockLost_waits (state : (s.ctx i).state = .online) (roster : s.inRoster i = true) (lost : LosesLock i c s)
    (scan : s.scan.state ≠ .stopped) :
    ∃ t, exec c s = .next t ∧ OnlySlotAndNotices i s t ∧ (t.ctx i).state = .withdrawing
      ∧ (t.ctx i).reason = some .fault ∧ (t.ctx i).leaving = some .leavePending
      ∧ (t.ctx i).destination = some (softDestination i s)
      ∧ (t.ctx i).attempts = min ((s.ctx i).attempts + 1) 3
      ∧ (t.ctx i).faultRecord = (s.ctx i).faultRecord.add .lockLost ∧ (t.scanOf i).splice = some .leave
      ∧ (t.scanOf i).skip = (s.scanOf i).skip ∧ t.railOf i = s.railOf i ∧ (t.det i).run = .stopped
      ∧ t.notices = s.notices.offer ⟨.fault, some i, 7, []⟩ := by
  obtain ⟨d, ran⟩ := exec_of_losesLock state lost
  obtain ⟨notLane, notSplice⟩ := online_work state
  have same : ((s.slot i).lockLost d).ctx.state = .online := state
  rw [State.put_beginWithdrawal_leave same roster scan (by decide),
    Work.begun_of_plain (by exact notLane) (by exact notSplice) (by decide), begun_of_online same] at ran
  refine ⟨_, ran, ⟨fun j hj => State.slot_put_ne hj, rfl⟩, ?_⟩
  rw [State.ctx_put_self, State.railOf_put_self, State.scanOf_put_self, State.det_eq, State.slot_put_self]
  unfold SlotRecord.leaveQueued
  rw [SlotRecord.marked_of_online same, SlotRecord.marked_scan, SlotRecord.marked_rail]
  exact ⟨rfl, rfl, rfl, rfl, rfl, rfl, rfl, rfl, rfl, rfl, rfl⟩

/-- The event of a card that leaves a STOPPED scan, its power step or its end aside. -/
theorem leftStoppedScan_of_reaches {q r : SlotRecord} {w : Work} {reason : Reason} {dest : Destination}
    (h : State.Reaches i r w s t) (scan : r.scan = ScanSlot.reset)
    (monitor : r.monitor.sticky = false) (detector : r.detector = q.detector.stop)
    (ctx : r.ctx.inWindow = none ∧ r.ctx.outWindow = none ∧ r.ctx.inputQuality = none) (miss : r.ctx.missCount = none)
    (lane : w.lane = s.lane) (imageIn : w.imageIn = s.imageIn.give (s.ctx i).inWindow)
    (imageOut : w.imageOut = s.imageOut.give (s.ctx i).outWindow) (age : w.directory.ageTimer = s.directory.ageTimer)
    (down : (s.railOf i).closed = true → PowerStepTaken i s t ∧ (t.ctx i).state = .withdrawing
      ∧ (t.ctx i).reason = some reason ∧ (t.ctx i).destination = some dest
      ∧ (t.ctx i).leaving = some .leavePending ∧ t.directory = s.directory)
    (ended : (s.railOf i).closed = false → WithdrawalEnded i s t (endOf (s.ctx i).policy (s.ctx i).contact dest)
      ∧ t.railOf i = s.railOf i) : LeftStoppedScan i s t reason dest := by
  refine ⟨h.onlySlotAndWork age, h.lane.trans lane, h.link, departed_of_slot (by rw [h.own]; exact scan)
    (by rw [h.ctx]; exact ctx), windowsReleased_of_give (by rw [h.ctx]; exact ctx) (h.imageIn.trans imageIn)
    (h.imageOut.trans imageOut), ?_, ?_, ?_, down, ended⟩
  · rw [h.det, detector]
    rfl
  · rw [h.mon]
    exact monitor
  · rw [h.ctx]
    exact miss

/-- A flag that is CLEAR and a miss count that is absent stay so as a slot enters a state (R9, R18). -/
theorem SlotRecord.enter_quiet {r : SlotRecord} (st : SlotState) (sticky : r.monitor.sticky = false)
    (miss : r.ctx.missCount = none) :
    (r.enter st).monitor.sticky = false ∧ (r.enter st).ctx.missCount = none := by
  unfold SlotRecord.enter
  split
  · exact ⟨(r.monitor.leaveOnline_flags _).1, rfl⟩
  · refine ⟨?_, miss⟩
    change (r.monitor.showPattern st.pattern).sticky = false
    unfold Monitor.showPattern
    split <;> exact sticky

theorem SlotRecord.withdrawn_quiet {r : SlotRecord} (us : Nat) (sticky : r.monitor.sticky = false)
    (miss : r.ctx.missCount = none) :
    (r.unmatched.withdrawn us).monitor.sticky = false ∧ (r.unmatched.withdrawn us).ctx.missCount = none :=
  have entered := fun st => SlotRecord.enter_quiet (r := r.unmatched.unleaving) st sticky miss
  SlotRecord.enterAt_induct (P := fun p => p.monitor.sticky = false ∧ p.ctx.missCount = none) (fun _ => entered _)
    (fun _ => entered .settling) (entered _)

/-- A slot that ends its withdrawal with its card still under work keeps its attempts count (R22 to R24). -/
theorem SlotRecord.withdrawn_attempts {r : SlotRecord} {us : Nat} (vacant : (r.withdrawn us).ctx.state ≠ .vacant)
    (disabled : (r.withdrawn us).ctx.state ≠ .disabled) : (r.withdrawn us).ctx.attempts = r.ctx.attempts := by
  rw [SlotRecord.withdrawn_state] at vacant disabled
  unfold SlotRecord.withdrawn
  refine SlotRecord.enterAt_induct (P := fun p => p.ctx.attempts = r.ctx.attempts)
    (fun empty => (empty.elim disabled vacant).elim) (fun _ => ?_) ?_
  · rw [SlotRecord.settleFor_ctx]
    rfl
  · rw [SlotRecord.enter_ctx_attempts]
    rfl

theorem lockLost_stopped (state : (s.ctx i).state = .online) (roster : s.inRoster i = true) (lost : LosesLock i c s)
    (scan : s.scan.state = .stopped) (queued : (s.railOf i).queued = false)
    (ready : (s.railOf i).closed = true ∨ (s.railOf i).dischargeTimer = none) :
    ∃ t, exec c s = .next t ∧ LeftStoppedScan i s t .fault (softDestination i s)
      ∧ (t.ctx i).faultRecord = (s.ctx i).faultRecord.add .lockLost
      ∧ ((t.ctx i).state ≠ .vacant → (t.ctx i).state ≠ .disabled →
          (t.ctx i).attempts = min ((s.ctx i).attempts + 1) 3)
      ∧ t.notices = (if (s.railOf i).closed = true then s.notices.offer ⟨.fault, some i, 7, []⟩
        else (s.notices.offer ⟨.fault, some i, 7, []⟩).offer ⟨.withdrawn, some i, 4, [(t.ctx i).state.code]⟩) := by
  obtain ⟨d, ran⟩ := exec_of_losesLock state lost
  have same : ((s.slot i).lockLost d).ctx.state = .online := state
  have left := SlotRecord.leftScan_eq (reason := .fault) (dest := softDestination i s) same
  obtain ⟨sticky, -⟩ := SlotRecord.marked_flags (r := (s.slot i).lockLost d) (reason := .fault)
    (dest := softDestination i s) same
  refine ⟨_, ran, ?_⟩
  cases closed : (s.railOf i).closed with
  | true =>
    have reached := reaches_leftScan_closed (s := s) (i := i) (w := s.work.faulted i .lockLost) (reason := .fault)
      (dest := softDestination i s) (data := []) same roster scan (by decide) closed queued
    have own := reached.own
    rw [left] at own
    have ctx := congrArg SlotRecord.ctx own
    rw [left] at reached
    refine ⟨leftStoppedScan_of_reaches (q := (s.slot i).lockLost d) reached rfl sticky rfl ⟨rfl, rfl, rfl⟩ rfl rfl rfl rfl rfl
      (fun _ => ⟨powerStepTaken_of_slot reached.own, congrArg Context.state ctx, congrArg Context.reason ctx,
        congrArg Context.destination ctx, congrArg Context.leaving ctx, reached.directory⟩)
      (fun open_ => absurd (closed.symm.trans open_) (by decide)), congrArg Context.faultRecord ctx,
      fun _ _ => congrArg Context.attempts ctx, ?_⟩
    rw [if_pos rfl]
    exact reached.notices
  | false =>
    have discharge := ready.resolve_left (by rw [closed]; exact Bool.false_ne_true)
    have reached := reaches_leftScan_open (s := s) (i := i) (w := s.work.faulted i .lockLost) (reason := .fault)
      (dest := softDestination i s) (data := []) same roster scan (by decide) closed discharge
    rw [left] at reached
    have finished := withdrawalEnded_of_slot reached.own rfl reached.directory
    obtain ⟨quiet, miss⟩ := SlotRecord.withdrawn_quiet (r := { (s.slot i).lockLost d with
      monitor := (((s.slot i).lockLost d).marked .fault (softDestination i s)).monitor
      ctx := { ((s.slot i).lockLost d).ctx with
        state := .withdrawing, missCount := none, leaving := some .leavePending, destination := some (softDestination i s)
        reason := some .fault, inWindow := none, outWindow := none, inputQuality := none }
      detector := ((s.slot i).lockLost d).detector.stop, scan := ScanSlot.reset }) s.longSettleUs sticky rfl
    have ctx := reached.ctx
    refine ⟨leftStoppedScan_of_reaches (q := (s.slot i).lockLost d) reached SlotRecord.withdrawn_scan quiet SlotRecord.withdrawn_detector
      (by rw [SlotRecord.withdrawn_ctx]; exact ⟨rfl, rfl, rfl⟩) miss rfl rfl rfl (Directory.unuse_ageTimer _ _)
      (fun shut => absurd (shut.symm.trans closed) (by decide))
      (fun _ => ⟨finished, reached.railOf.trans SlotRecord.withdrawn_rail⟩), ?_, fun vacant disabled => ?_, ?_⟩
    · rw [ctx, SlotRecord.withdrawn_ctx]
      rfl
    · rw [ctx] at vacant disabled ⊢
      exact SlotRecord.withdrawn_attempts vacant disabled
    · rw [if_neg Bool.false_ne_true, reached.notices, ctx, SlotRecord.withdrawn_state]
      rfl

end

/-- Settles O51: the three events are one report of LOCK_LOST, after which an ONLINE card's withdrawal waits for its LEAVE, or
leaves a STOPPED scan at once. -/
theorem lossOfLockWithdrawsTheCard : Obligations.LossOfLockWithdrawsTheCard := fun _ _ _ state roster lost =>
  ⟨lockLost_waits state roster lost, lockLost_stopped state roster lost⟩

end Sys2Proof.Machine

/-! The clock qualifier (Section 5): checkpoints without a fault or a pass, and the reference watch. -/

namespace Sys2Proof.Machine

open Sys2Proof Sys2Proof.Safety

set_option Elab.async false

/-! ## Checkpoints (R96 to R99, R102) -/

section
variable {s : State} {i : Slot} {n : Nat} {e : Expected} {duty : Duty}

theorem countMatches_eq_true {tolerance n e : Nat} (h : n ≤ e + tolerance ∧ e ≤ n + tolerance) :
    countMatches tolerance n e = true := decide_eq_true h

/-- A change of the slot's detector alone. -/
theorem detectorChanged {o : Host.Outcome State Fault Refusal} {f : Detector → Detector} (h : o = .next (s.modDet i f)) :
    ∃ t, o = .next t ∧ OnlySlot i s t ∧ t.slot i = { s.slot i with detector := f (s.det i) } := slotWritten_of_eq h

theorem exec_lockCheckpoint16_of_edges (run : (s.det i).run = .running) (due : (s.det i).due = some ⟨.after16, n⟩)
    (edges : n ≠ 0) : exec (.lockCheckpoint16 i) s = .next (s.modDet i Detector.judged) := by
  change execLockCheckpoint16 i s = _
  unfold execLockCheckpoint16 State.checkpoint16
  rw [Detector.dueCount_of_due run due]
  dsimp only
  rw [if_neg edges]

theorem exec_lockCheckpoint32_of_quiet (run : (s.det i).run = .running) (expected : (s.det i).expected = some e)
    (due : (s.det i).due = some ⟨.after32, n⟩)
    (quiet : ¬ (countMatches s.params.lockTolerance n e.e32 = false ∧ (s.det i).duty = some .watch
      ∧ (s.det i).graceTimer = none)) : exec (.lockCheckpoint32 i) s
        = .next (s.modDet i fun d => d.coarseResult (countMatches s.params.lockTolerance n e.e32)) := by
  change execLockCheckpoint32 i s = _
  unfold execLockCheckpoint32 State.checkpoint32
  rw [Detector.dueCount_of_due run due]
  dsimp only
  rw [expected, Option.getD_some, if_neg quiet]

/-- What the checkpoint after 64 periods makes of a detector with a duty (R99, R100, R102). -/
def State.fineFollowed (s : State) (i : Slot) (n e64 : Nat) (ok : Bool) : Duty → State
  | .qualify => if s.params.qualRun ≤ ((s.det i).fineResult ok).fineRun
      then (s.modDet i fun d => d.fineResult ok).qualificationPass i else s.modDet i fun d => d.fineResult ok
  | .watch => if ok = false ∧ (s.det i).coarse = true
      then (s.modDet i fun d => d.fineResult ok).postSlot .lockWarn i 0 (be16 n ++ be16 e64)
      else s.modDet i fun d => d.fineResult ok

/-- Without a pass and without a warning the checkpoint changes the detector alone. -/
theorem State.fineFollowed_of_quiet {e64 : Nat} {ok : Bool}
    (pass : duty = .qualify → ¬ s.params.qualRun ≤ ((s.det i).fineResult ok).fineRun)
    (warn : duty = .watch → ¬ (ok = false ∧ (s.det i).coarse = true)) :
    s.fineFollowed i n e64 ok duty = s.modDet i fun d => d.fineResult ok := by
  cases duty with
  | qualify => exact if_neg (pass rfl)
  | watch => exact if_neg (warn rfl)

theorem exec_lockCheckpoint64 (run : (s.det i).run = .running) (expected : (s.det i).expected = some e)
    (duties : (s.det i).duty = some duty) (due : (s.det i).due = some ⟨.after64, n⟩) {ok : Bool}
    (compared : countMatches s.params.lockTolerance n e.e64 = ok) :
    exec (.lockCheckpoint64 i) s = .next (s.fineFollowed i n e.e64 ok duty) := by
  have run' : ((s.modDet i fun d => d.fineResult ok).det i).fineRun = ((s.det i).fineResult ok).fineRun := by
    rw [State.det_eq, State.modDet_eq, State.slot_modSlot_self]
    rfl
  change execLockCheckpoint64 i s = _
  unfold execLockCheckpoint64 State.checkpoint64
  rw [Detector.dueCount_of_due run due]
  dsimp only
  rw [expected, Option.getD_some, compared, duties]
  cases duty with
  | qualify =>
    dsimp only
    rw [run']
    rfl
  | watch => rfl

end

/-- Settles O49: without a fault or a pass a checkpoint is one change of the detector, and the third offers LOCK_WARN. -/
theorem checkpointsJudgeTheLock : Obligations.CheckpointsJudgeTheLock := by
  intro i n e duty s run expected duties
  refine ⟨fun due edges => detectorChanged (exec_lockCheckpoint16_of_edges run due edges), fun due quiet => ?_, fun due =>
    ⟨fun fits quiet => ?_, fun off runs => ?_⟩⟩
  · have kept : ¬ (countMatches s.params.lockTolerance n e.e32 = false ∧ (s.det i).duty = some .watch
        ∧ (s.det i).graceTimer = none) := by
      rintro ⟨off, watch, grace⟩
      rcases quiet with rfl | running | fits
      · rw [duties] at watch
        cases watch
      · exact running grace
      · rw [countMatches_eq_true fits] at off
        cases off
    obtain ⟨t, ran, only, own⟩ := detectorChanged (exec_lockCheckpoint32_of_quiet run expected due kept)
    refine ⟨t, ran, only, own.trans ?_⟩
    unfold Detector.coarseResult Detector.judged countMatches
    by_cases fits : n ≤ e.e32 + s.params.lockTolerance ∧ e.e32 ≤ n + s.params.lockTolerance
    · rw [decide_eq_true fits, if_pos fits, if_pos rfl]
    · rw [decide_eq_false fits, if_neg fits, if_neg Bool.false_ne_true]
  · have ran := exec_lockCheckpoint64 run expected duties due (countMatches_eq_true fits)
    have short : duty = .qualify → ¬ s.params.qualRun ≤ ((s.det i).fineResult true).fineRun := fun qualify =>
      Nat.not_le_of_lt (quiet.resolve_left (by rw [qualify]; decide))
    rw [State.fineFollowed_of_quiet short fun _ h => Bool.false_ne_true h.1.symm] at ran
    exact detectorChanged ran
  · have ran := exec_lockCheckpoint64 run expected duties due (countMatches_eq_false off)
    by_cases warns : duty = .watch ∧ (s.det i).coarse = true
    · obtain ⟨rfl, coarse⟩ := warns
      have warned : s.fineFollowed i n e.e64 false .watch
          = (s.modDet i fun d => d.fineResult false).postSlot .lockWarn i 0 (be16 n ++ be16 e.e64) := if_pos ⟨rfl, coarse⟩
      rw [warned] at ran
      refine ⟨_, ran, ⟨fun j hj => ?_, rfl⟩, ?_, (if_pos ⟨rfl, coarse⟩).symm⟩
      · rw [State.postSlot_eq, State.slot_post]
        exact State.slot_modSlot_ne s _ hj
      · rw [State.postSlot_eq, State.slot_post]
        exact State.slot_modSlot_self s i _
    · have short : ¬ s.params.qualRun ≤ ((s.det i).fineResult false).fineRun := Nat.not_le_of_lt runs
      rw [State.fineFollowed_of_quiet (fun _ => short) fun watch h => warns ⟨watch, h.2⟩] at ran
      exact ⟨_, ran, ⟨fun j hj => State.slot_modSlot_ne s _ hj, rfl⟩, State.slot_modSlot_self s i _, (if_neg warns).symm⟩

/-! ## The reference watch (R95, R104 to R106) -/

section
variable {d : Detector}

theorem Detector.refEdge_of_not_running (h : d.run ≠ .running) : d.refEdge = d := if_pos h

theorem Detector.refEdge_of_awaiting (run : d.run = .running) (waits : d.awaitingEdge = true) :
    d.refEdge = { d with awaitingEdge := false, spanPosition := 0, edgeCount := 0, due := none } := by
  unfold Detector.refEdge
  rw [if_neg (not_not.mpr run), if_pos waits]

theorem Detector.refEdge_of_counting (run : d.run = .running) (counts : d.awaitingEdge = false) :
    d.refEdge = if d.spanPosition + 1 = 64
      then { d with spanPosition := 0, edgeCount := 0, due := some ⟨.after64, d.edgeCount⟩ }
      else { d with
        spanPosition := d.spanPosition + 1
        due := ((checkpointAt (d.spanPosition + 1)).map fun c => ⟨c, d.edgeCount⟩).or d.due } := by
  unfold Detector.refEdge
  rw [if_neg (not_not.mpr run), counts, if_neg Bool.false_ne_true]
  by_cases last : d.spanPosition + 1 = 64
  · rw [last]
    rfl
  · dsimp only
    rw [if_neg last, if_neg last]
    cases checkpointAt (d.spanPosition + 1) <;> rfl

theorem Detector.clkEdge_eq (d : Detector) : d.clkEdge = { d with
    edgeCount := if d.run = .running ∧ d.awaitingEdge = false then min 1023 (d.edgeCount + 1) else d.edgeCount } := by
  unfold Detector.clkEdge
  split <;> rfl

/-- What the loss of the reference leaves of a detector, and what it pauses (R105). -/
theorem Detector.loseReference_spec (d : Detector) : d.loseReference.graceTimer = none
    ∧ d.loseReference.run = (if d.run = .running then .paused else d.run) ∧ d.loseReference.coarse = d.coarse
    ∧ d.loseReference.fine = d.fine ∧ d.loseReference.fineRun = d.fineRun
    ∧ ∀ us, d.qualTimer = .running us → d.loseReference.qualTimer = .paused us := by
  have paused : ∀ us, d.qualTimer = .running us → d.qualTimer.pause = .paused us := fun us h => by rw [h]; rfl
  unfold Detector.loseReference
  dsimp only
  cases h : d.run with
  | running => exact ⟨rfl, rfl, rfl, rfl, rfl, paused⟩
  | stopped | paused => exact ⟨rfl, rfl, rfl, rfl, rfl, paused⟩

/-- What the return of the reference makes of a detector (R106). -/
theorem Detector.regainReference_spec (us : Nat) (d : Detector) : (d.regainReference us).duty = d.duty
    ∧ (d.regainReference us).expected = d.expected
    ∧ (d.run = .paused → (d.regainReference us).run = .running ∧ (d.regainReference us).awaitingEdge = true
        ∧ (d.regainReference us).coarse = false ∧ (d.regainReference us).fine = false
        ∧ (d.regainReference us).fineRun = 0)
    ∧ (∀ left, d.qualTimer = .paused left → (d.regainReference us).qualTimer = .running left)
    ∧ (d.duty = some .watch → (d.regainReference us).graceTimer = some us) := by
  have resumed : ∀ left, d.qualTimer = .paused left → d.qualTimer.resume = .running left := fun left h => by rw [h]; rfl
  have grace : d.duty = some .watch → (if d.duty = some Duty.watch then some us else d.graceTimer) = some us :=
    fun h => if_pos h
  unfold Detector.regainReference
  dsimp only
  cases d.run with
  | running | stopped =>
    refine ⟨rfl, rfl, fun other => ?_, resumed, grace⟩
    cases other
  | paused => exact ⟨rfl, rfl, fun _ => ⟨rfl, rfl, rfl, rfl, rfl⟩, resumed, grace⟩

end

/-- Every detector changed in the same way, with another clock, marks and notices. -/
theorem slot_mapDetectors {s t : State} {f : Detector → Detector}
    (h : t.slots = (s.mapSlots fun r => { r with detector := f r.detector }).slots) (i : Slot) :
    t.slot i = { s.slot i with detector := f (s.det i) } := by
  unfold State.slot
  rw [h]
  exact State.slot_mapSlots s (fun r => { r with detector := f r.detector }) i

/-- Settles O52: each event changes every detector in the same way, and the clock. -/
theorem referenceWatchLosesAndRegains : Obligations.ReferenceWatchLosesAndRegains := by
  intro s
  refine ⟨fun c edge => ?_, fun i => ?_, fun watch has => ?_, fun watch lost => ?_, fun timer => ?_⟩
  · have ran : exec c s = .next s.refEdge := by rcases edge with rfl | rfl <;> rfl
    refine ⟨_, ran, rfl, rfl, fun i => ?_⟩
    have own : s.refEdge.slot i = { s.slot i with detector := (s.det i).refEdge } := slot_mapDetectors rfl i
    rw [show s.refEdge.det i = (s.det i).refEdge from congrArg SlotRecord.detector own, own]
    refine ⟨rfl, Detector.refEdge_of_not_running, fun run waits => ?_, fun run counts last => ?_,
      fun run counts other => ?_⟩
    · rw [Detector.refEdge_of_awaiting run waits]
      exact ⟨rfl, rfl, rfl⟩
    · rw [Detector.refEdge_of_counting run counts, if_pos last]
      exact ⟨rfl, rfl, rfl⟩
    · rw [Detector.refEdge_of_counting run counts, if_neg other]
      refine ⟨rfl, rfl, fun first => ?_, fun second => ?_⟩
      · rw [first]
        rfl
      · rw [second]
        rfl
  · obtain ⟨t, ran, only, own⟩ := detectorChanged (s := s) (i := i) (o := exec (.clkRetEdge i) s) (f := Detector.clkEdge) rfl
    refine ⟨t, ran, only, own.trans ?_⟩
    rw [Detector.clkEdge_eq]
  · have ran : exec .watchTimerExpiry s
        = .next { s with clock := { s.clock with watchTimer := none } }.loseReference := by
      refine congrArg Host.Outcome.next ((if_pos (Option.isSome_iff_ne_none.mpr watch)).trans (if_neg ?_))
      change ¬ s.clock.refLost = true
      rw [has]
      exact Bool.false_ne_true
    refine ⟨_, ran, rfl, rfl, ?_, rfl, rfl, fun i => ?_⟩
    · rw [State.faultLine_iff]
      exact .inr (.inl rfl)
    · have own : ({ s with clock := { s.clock with watchTimer := none } }.loseReference).slot i
          = { s.slot i with detector := (s.det i).loseReference } :=
        slot_mapDetectors (s := s) (f := Detector.loseReference) rfl i
      have det := congrArg SlotRecord.detector own
      rw [← State.det_eq] at det
      rw [det, own]
      exact ⟨rfl, (s.det i).loseReference_spec⟩
  · exact congrArg Host.Outcome.next ((if_pos (Option.isSome_iff_ne_none.mpr watch)).trans (if_pos lost))
  · have ran : exec .returnTimerExpiry s = .next s.regainReference :=
      congrArg Host.Outcome.next (if_pos (Option.isSome_iff_ne_none.mpr timer))
    refine ⟨_, ran, rfl, rfl, rfl, fun i => ?_⟩
    have own : s.regainReference.slot i = { s.slot i with detector := (s.det i).regainReference s.qualUs } :=
      slot_mapDetectors (s := s) (f := Detector.regainReference s.qualUs) rfl i
    rw [show s.regainReference.det i = (s.det i).regainReference s.qualUs from congrArg SlotRecord.detector own, own]
    exact ⟨rfl, (s.det i).regainReference_spec s.qualUs⟩

end Sys2Proof.Machine

/-! The settle timer's expiry (R30, R59) and the alert line of a sample (R8, R9). -/

namespace Sys2Proof.Machine

open Sys2Proof Sys2Proof.Safety

set_option Elab.async false

section
variable {s : State} {i : Slot} {q : SlotRecord} {w : Work}

/-! ## The replaced record and the other operations -/

theorem State.put_arbitrate_of_frozen (frozen : s.clock.frozen = true) : (s.put i q w).arbitrate = s.put i q w :=
  State.arbitrate_of_frozen frozen

/-- The identify queue takes the slot at its tail, and the lane tests R80 (R79). -/
theorem State.put_identify : (s.put i q w).identify i
    = s.put i (q.enter .identifying) { w with lane := ({ w.lane with queue := w.lane.queue ++ [i] } : Lane).tryOpen } := by
  rw [State.identify_eq, State.put_modSlot]
  rfl

/-- A slot's record with a verdict (R34). -/
def SlotRecord.judged (v : Verdict) (r : SlotRecord) : SlotRecord := { r with ctx := { r.ctx with verdict := some v } }

theorem State.put_setVerdict (v : Verdict) : (s.put i q w).setVerdict i v = s.put i (q.judged v) w :=
  State.put_modSlot (SlotRecord.judged v)

/-- A refusal of a slot with no work in the lane or the images whose switch is open ends within its event. -/
theorem State.put_refuseWith_open {v : Verdict} {data : List Byte} (identifying : q.ctx.state ≠ .identifying)
    (spliceWait : q.ctx.state ≠ .spliceWait) (out : q.scan.skip = none) (closed : q.rail.closed = false)
    (discharge : q.rail.dischargeTimer = none) (queued : q.ctx.state = .rampWait → q.rail.queued = false) :
    (s.put i q w).refuseWith i v data
      = s.put i (((q.judged v).begun .refused .refused).unmatched.withdrawn s.longSettleUs)
        { w with
          directory := w.directory.unuse q.ctx.matched
          notices := (w.notices.offer ⟨.refused, some i, v.code, data⟩).offer
            ⟨.withdrawn, some i, 5, [(endOf q.ctx.policy q.ctx.contact .refused).code]⟩ } := by
  unfold State.refuseWith
  rw [State.put_setVerdict, State.put_beginWithdrawal_open (r := q.judged v) false out closed discharge queued,
    Work.begun_of_refusal (c := (q.judged v).ctx) identifying spliceWait rfl, withdrawnNotice_begun]
  rfl

/-! ## The settle timer (R30, R59) -/

/-- A slot's record as its settle timer ends. -/
def SlotRecord.settled (r : SlotRecord) : SlotRecord := { r with ctx := { r.ctx with settleTimer := none } }

/-- A slot's record as it joins the ramp queue (R59). -/
def SlotRecord.joined (r : SlotRecord) : SlotRecord := ({ r with rail := { r.rail with queued := true } } : SlotRecord).enter .rampWait

variable {c : InrushClass} {us : Nat} (state : (s.ctx i).state = .settling) (timer : (s.ctx i).settleTimer = some us)
  (class_ : (s.ctx i).inrushClass = some c)
include state timer class_

theorem exec_settleTimerExpiry : exec (.settleTimerExpiry i) s = .next (if c = 0 then (s.put i (s.slot i).settled s.work).identify i
    else if s.params.inrushBudget < s.params.classTable[c].inrush ∨ s.params.steadyBudget < s.params.classTable[c].provisional
      then (s.put i (s.slot i).settled s.work).refuseWith i .noPower []
    else (s.put i (s.slot i).joined.settled s.work).arbitrate) := by
  have own : ((s.put i (s.slot i).settled s.work).ctx i).inrushClass = some c := by
    rw [State.ctx_put_self]
    exact class_
  have class' : ((s.put i (s.slot i).settled s.work).ctx i).inrushClass.getD 0 = c := by
    rw [own]
    rfl
  have never : (s.put i (s.slot i).settled s.work).neverFits i
      = (decide (s.params.inrushBudget < s.params.classTable[c].inrush)
        || decide (s.params.steadyBudget < s.params.classTable[c].provisional)) := by
    have row : (s.put i (s.slot i).settled s.work).classRow i = s.params.classTable[c] := by
      unfold State.classRow
      simp only [own, Option.getD_some]
      rfl
    unfold State.neverFits
    rw [row]
    rfl
  have joins : (s.put i (s.slot i).settled s.work).joinRampQueue i
      = (s.put i (s.slot i).joined.settled s.work).arbitrate := by
    unfold State.joinRampQueue
    rw [State.modRail_eq, State.setState_eq, State.put_modSlot, State.put_modSlot]
    unfold SlotRecord.joined
    rw [SlotRecord.enter_of_ne_online, SlotRecord.enter_of_ne_online]
    · rfl
    · exact state ▸ (by decide : SlotState.settling ≠ .online)
    · exact state ▸ (by decide : SlotState.settling ≠ .online)
  have expired : exec (.settleTimerExpiry i) s = .next (s.settleExpired i) :=
    congrArg Host.Outcome.next (if_pos ⟨state, by rw [timer]; rfl⟩)
  rw [expired]
  congr 1
  by_cases zero : c = 0
  · rw [if_pos zero]
    exact if_pos (class'.trans zero)
  · rw [if_neg zero]
    refine (if_neg fun h => zero (class'.symm.trans h)).trans ?_
    by_cases never' : s.params.inrushBudget < s.params.classTable[c].inrush
        ∨ s.params.steadyBudget < s.params.classTable[c].provisional
    · rw [if_pos never']
      refine if_pos (never.trans ?_)
      rw [Bool.or_eq_true, decide_eq_true_eq, decide_eq_true_eq]
      exact never'
    · rw [if_neg never']
      refine (if_neg fun fits => never' ?_).trans joins
      rw [← decide_eq_true_eq (p := s.params.inrushBudget < _), ← decide_eq_true_eq (p := s.params.steadyBudget < _),
        ← Bool.or_eq_true]
      exact never.symm.trans fits

omit timer class_

theorem joined_ctx : (s.slot i).joined.settled.ctx = { s.ctx i with state := .rampWait, settleTimer := none } := by
  unfold SlotRecord.joined
  rw [SlotRecord.enter_of_ne_online (by exact state ▸ (by decide : SlotState.settling ≠ .online))]
  rfl

omit state in
theorem joined_rail : (s.slot i).joined.settled.rail = { s.railOf i with queued := true } :=
  SlotRecord.enter_rail _ _

omit state in
/-- The only slot that waits is the head of the ramp queue. -/
theorem rampOrder_of_alone {t : State} (alone : ∀ j, j ≠ i → (t.slot j).rail.queued = false)
    (queued : (t.slot i).rail.queued = true) (priority : (t.slot i).ctx.priority ≤ 3) :
    ∃ rest, t.rampOrder = i :: rest := by
  have member := State.mem_rampOrder_of_queued queued priority
  cases order : t.rampOrder with
  | nil => rw [order] at member; cases member
  | cons j rest =>
    have waits : (t.slot j).rail.queued = true := State.queued_of_mem_rampOrder (by rw [order]; exact List.mem_cons_self)
    by_cases e : j = i
    · exact ⟨rest, by rw [e]⟩
    · rw [alone j e] at waits
      cases waits

/-- The accounts and the number of ramps are as they were as a settled slot joins the queue. -/
theorem joined_accounts : (s.put i (s.slot i).joined.settled s.work).ci = s.ci
    ∧ (s.put i (s.slot i).joined.settled s.work).cs = s.cs
    ∧ (s.put i (s.slot i).joined.settled s.work).rampingCount = s.rampingCount := by
  have ctx := joined_ctx state
  have keeps : ∀ f : SlotRecord → Nat, f (s.slot i).joined.settled = f (s.slot i) →
      (s.put i (s.slot i).joined.settled s.work).total f = s.total f := fun f same =>
    State.total_congr fun j => by
      by_cases e : j = i
      · subst e
        rw [State.slot_put_self]
        exact same
      · rw [State.slot_put_ne e]
  refine ⟨keeps _ (by rw [ctx]; rfl), keeps _ (by rw [ctx]; rfl), ?_⟩
  · rw [State.rampingCount_eq_total, State.rampingCount_eq_total]
    refine keeps _ ?_
    rw [ctx, show (s.slot i).ctx.state = .settling from state]
    rfl

end

/-- Settles O39: the class and the budgets decide between the identify queue, the refusal and the ramp queue, whose only slot
is granted where it fits. -/
theorem settleExpiryOffersThePower : Obligations.SettleExpiryOffersThePower := by
  intro i c us s state timer class_ queued discharge closed out
  have ran := exec_settleTimerExpiry state timer class_
  refine ⟨fun zero => ?_, fun nonzero never policy seated => ?_, fun nonzero inrush steady => ?_⟩
  · rw [if_pos zero, State.put_identify] at ran
    refine ⟨_, ran, ?_, ?_, Lane.tryOpen_queue _, fun j hj => State.slot_put_ne hj, ?_, rfl,
      fun empty idle gap fresh => ?_⟩
    · rw [State.ctx_put_self, SlotRecord.enter_state]
    · rw [State.ctx_put_self, SlotRecord.enter_ctx_settleTimer]
      rfl
    · rw [State.railOf_put_self, SlotRecord.enter_rail]
      rfl
    · have opened : ({ s.lane with queue := s.lane.queue ++ [i] } : Lane).tryOpen
          = ({ s.lane with queue := [i] } : Lane).openFor i := by
        rw [empty]
        exact if_pos ⟨idle, gap⟩
      have laneOpen : ({ s.lane with queue := [i] } : Lane).openFor i = { s.lane with
          queue := [i], state := .partBusy, transaction := some ⟨i, .start, false⟩, holdTimer := some 25000
          acknowledgeTimer := some 1000, tries := 0, lost := 0, checkUsed := false, readBegun := true } := by
        unfold Lane.openFor
        dsimp only
        rw [fresh, if_neg Bool.false_ne_true]
        rfl
      have lane : (s.put i ((s.slot i).settled.enter .identifying) { s.work with
          lane := ({ s.work.lane with queue := s.work.lane.queue ++ [i] } : Lane).tryOpen }).lane = _ :=
        opened.trans laneOpen
      unfold State.selLine
      rw [lane]
      exact ⟨rfl, rfl, rfl, rfl, rfl, rfl, by simp⟩
  · rw [if_neg nonzero, if_pos never, State.put_refuseWith_open (q := (s.slot i).settled)
      (by exact state ▸ (by decide : SlotState.settling ≠ .identifying))
      (by exact state ▸ (by decide : SlotState.settling ≠ .spliceWait)) (skip_of_inRoster out) closed discharge fun _ => queued]
      at ran
    have ends : endOf (s.ctx i).policy (s.ctx i).contact .refused = .refused := by
      unfold endOf
      rw [if_neg policy, if_neg (not_not.mpr seated)]
    have finished : (((s.slot i).settled.judged .noPower).begun .refused .refused).unmatched.ctx.endState = .refused :=
      (endState_begun (q := (s.slot i).settled.judged .noPower)).trans ends
    refine ⟨_, ran, onlySlotAndMatch_worked, matchDropped_of_unuse ?_ rfl, ?_⟩
    · rw [State.ctx_put_self, SlotRecord.withdrawn_ctx]
      rfl
    · rw [State.ctx_put_self, SlotRecord.withdrawn_state, finished, SlotRecord.withdrawn_held (.inl finished),
        SlotRecord.enter_ctx_verdict, SlotRecord.enter_ctx_settleTimer, SlotRecord.enter_ctx_attempts]
      refine ⟨rfl, ?_, ?_, ?_, ?_⟩
      · change (SlotRecord.begun _ _ _).ctx.verdict = _
        rw [SlotRecord.begun_ctx]
        rfl
      · exact (SlotRecord.workLeft_begun _).settle state
      · change (SlotRecord.begun _ _ _).ctx.attempts = _
        rw [SlotRecord.begun_ctx]
        rfl
      · change (s.notices.offer _).offer ⟨.withdrawn, some i, 5, [(endOf (s.ctx i).policy (s.ctx i).contact .refused).code]⟩ = _
        rw [ends]
        rfl
  · have fits : ¬ (s.params.inrushBudget < s.params.classTable[c].inrush
        ∨ s.params.steadyBudget < s.params.classTable[c].provisional) := by omega
    have rail := joined_rail (s := s) (i := i)
    have ctx := joined_ctx state
    rw [if_neg nonzero, if_neg fits] at ran
    refine ⟨_, ran, State.arbitrate_notices _, fun j hj out => ?_, fun frozen => ?_,
      fun alone priority thawed brownout ramps inrushFits steadyFits => ?_⟩
    · rw [State.arbitrate_slot_of_not_queued (by rw [State.slot_put_ne hj]; exact out), State.slot_put_ne hj]
    · rw [State.put_arbitrate_of_frozen frozen, State.ctx_put_self, State.railOf_put_self, ctx, rail]
      exact ⟨rfl, rfl, closed, fun j hj => State.slot_put_ne hj⟩
    · have own : (s.put i (s.slot i).joined.settled s.work).slot i = (s.slot i).joined.settled := State.slot_put_self
      have class' : ((s.put i (s.slot i).joined.settled s.work).ctx i).inrushClass = some c := by
        rw [State.ctx_put_self, ctx]
        exact class_
      obtain ⟨ci, cs, ramping⟩ := joined_accounts state
      obtain ⟨rest, order⟩ := rampOrder_of_alone (i := i) (t := s.put i (s.slot i).joined.settled s.work)
        (fun j hj => by rw [State.slot_put_ne hj]; exact alone j) (by rw [own, rail]) (by rw [own, ctx]; exact priority)
      have may : MayBeGranted i (s.put i (s.slot i).joined.settled s.work) := by
        unfold MayBeGranted
        simp only [ci, cs, ramping, class', Option.getD_some]
        exact ⟨inrushFits, steadyFits, ramps, brownout, thawed⟩
      have granted := granted_grant (s.put i (s.slot i).joined.settled s.work) i
      have emptied : ((s.put i (s.slot i).joined.settled s.work).grant i).arbitrate
          = (s.put i (s.slot i).joined.settled s.work).grant i := by
        refine State.arbitrate_of_empty fun j => ?_
        by_cases e : j = i
        · subst e
          obtain ⟨-, -, -, -, -, -, -, railOf, -⟩ := granted
          exact congrArg RailSlot.queued railOf
        · rw [granted.1 j e, State.slot_put_ne e]
          exact alone j
      rw [State.arbitrate_of_fits order may, emptied]
      obtain ⟨-, -, lastGranted, state', -, inrush', steady', railOf, -⟩ := granted
      unfold State.powerLine
      simp only [class', Option.getD_some] at inrush' steady'
      rw [railOf, lastGranted]
      exact ⟨state', rfl, rfl, inrush', steady', rfl, rfl, rfl, rfl, rfl⟩

/-! ## The alert line (R8, R9) -/

section
variable {s : State} {i : Slot} {q : SlotRecord} {w : Work} {alert : Level}

/-- A slot's record as a sample's alert level is recorded (R8). -/
def SlotRecord.heard (alert : Level) (r : SlotRecord) : SlotRecord :=
  { r with monitor := { r.monitor with lastAlert := alert } }

theorem State.sampleAlert_of_quiet {t : State} (h : ¬ ((t.ctx i).state = .online
    ∧ (t.mon i).triggerMode.met alert (t.mon i).lastAlert = true ∧ (t.mon i).sticky = false)) :
    t.sampleAlert i alert = t.modSlot i (SlotRecord.heard alert) := by
  unfold State.sampleAlert
  dsimp only
  rw [if_neg h]
  rfl

theorem State.put_sampleAlert_of_met (h : q.ctx.state = .online ∧ q.monitor.triggerMode.met alert q.monitor.lastAlert = true
    ∧ q.monitor.sticky = false) : (s.put i q w).sampleAlert i alert = s.put i (q.alerted.heard alert) { w with
      notices := if q.monitor.alertNotices = true then w.notices.offer ⟨.cardAlert, some i, 0, []⟩ else w.notices } := by
  have mon : (s.put i q w).mon i = q.monitor := congrArg SlotRecord.monitor State.slot_put_self
  unfold State.sampleAlert
  dsimp only
  rw [mon, State.ctx_put_self, if_pos h, State.setSticky_eq, State.alertNoticed, mon, State.put_modSlot, State.modMon_eq]
  exact State.put_modSlot (w := { w with
    notices := if q.monitor.alertNotices = true then w.notices.offer ⟨.cardAlert, some i, 0, []⟩ else w.notices }) _

end

theorem TriggerMode.met_iff (m : TriggerMode) (now last : Level) : m.met now last = true ↔ (match m with
    | .level => now = .low
    | .change => now ≠ last
    | .fall => now = .low ∧ last = .high
    | .rise => now = .high ∧ last = .low) := by
  cases m <;> simp [TriggerMode.met]

/-- Settles O37: a sample that leaves the contact state changes the monitor and reads the alert line. -/
theorem alertsSetTheStickyFlag : Obligations.AlertsSetTheStickyFlag := by
  intro i l x key alert s same
  have step := Monitor.debounce_of_eq (m := (s.mon i).countSample) same s.params.makeFilter key
  have counted : (s.modMon i Monitor.countSample).mon i = (s.mon i).countSample := State.mon_modMon_self s i _
  have sampled : s.sample i (rawContact l x) key alert
      = (s.put i { s.slot i with monitor := { (s.mon i).countSample with candidate := none, run := 0 } } s.work).sampleAlert i
        alert := by
    have step' : ((s.modMon i Monitor.countSample).mon i).debounce (s.modMon i Monitor.countSample).params.makeFilter
        (rawContact l x) key = _ := (congrArg (fun m => Monitor.debounce m s.params.makeFilter (rawContact l x) key) counted).trans step
    rw [State.sample, State.sampleContacts_of_eq (by rw [step', counted]), State.modMon_eq, State.modMon_eq, State.modSlot_modSlot]
    exact congrArg (fun m => (s.put i { s.slot i with monitor := m } s.work).sampleAlert i alert) step
  generalize hq : ({ s.slot i with monitor := { (s.mon i).countSample with candidate := none, run := 0 } } : SlotRecord) = q
    at sampled
  have fields : q.ctx = s.ctx i ∧ q.monitor.sticky = (s.mon i).sticky ∧ q.monitor.darkPulse = (s.mon i).darkPulse
      ∧ q.monitor.triggerMode = (s.mon i).triggerMode ∧ q.monitor.lastAlert = (s.mon i).lastAlert
      ∧ q.monitor.alertNotices = (s.mon i).alertNotices := by
    rw [← hq]
    exact ⟨rfl, rfl, rfl, rfl, rfl, rfl⟩
  obtain ⟨ctx, sticky, pulse, mode, last, notices⟩ := fields
  refine ⟨_, exec_slotSample i l x key alert s, ?_⟩
  rw [sampled]
  dsimp only
  by_cases met : q.ctx.state = .online ∧ q.monitor.triggerMode.met alert q.monitor.lastAlert = true
      ∧ q.monitor.sticky = false
  · rw [State.put_sampleAlert_of_met met]
    have mon := congrArg SlotRecord.monitor (State.slot_put_self (s := s) (i := i) (r := q.alerted.heard alert) (w := { s.work with
      notices := if q.monitor.alertNotices = true then s.notices.offer ⟨.cardAlert, some i, 0, []⟩ else s.notices }))
    rw [ctx, mode, last, sticky, TriggerMode.met_iff] at met
    refine ⟨⟨fun j hj => State.slot_put_ne hj, rfl⟩, fun _ => ⟨congrArg Monitor.sticky mon, congrArg Monitor.darkPulse mon, ?_⟩,
      fun other => ?_⟩
    · rw [← notices]
      rfl
    · obtain ⟨online, holds, clear⟩ := met
      rcases other with h | h | h
      · exact absurd online h
      · rw [clear] at h
        cases h
      · exact absurd holds h
  · have quiet : (s.put i q s.work).sampleAlert i alert = s.put i (q.heard alert) s.work := by
      rw [State.sampleAlert_of_quiet, State.put_modSlot]
      rw [State.ctx_put_self, State.mon_eq, State.slot_put_self]
      exact met
    rw [quiet]
    have mon := congrArg SlotRecord.monitor (State.slot_put_self (s := s) (i := i) (r := q.heard alert) (w := s.work))
    rw [ctx, mode, last, sticky, TriggerMode.met_iff] at met
    exact ⟨⟨fun j hj => State.slot_put_ne hj, rfl⟩, fun ⟨online, clear, holds⟩ => absurd ⟨online, holds, clear⟩ met,
      fun _ => ⟨(congrArg Monitor.sticky mon).trans sticky, (congrArg Monitor.darkPulse mon).trans pulse, rfl⟩⟩

end Sys2Proof.Machine

/-! The sample that completes a contact change (R3, R6, R25 to R28): what it makes of the slot, state by state. -/

namespace Sys2Proof.Machine

open Sys2Proof Sys2Proof.Safety

set_option Elab.async false

/-! ## The alert line of a slot that is not ONLINE -/

section
variable {s u t : State} {i : Slot} {q r : SlotRecord} {w : Work} {alert : Level} {reason : Reason} {dest : Destination}

/-- `t` differs from `u` in the monitor of slot `i` alone. -/
structure HeardFrom (i : Slot) (u t : State) : Prop where
  ctx : t.ctx i = u.ctx i
  railOf : t.railOf i = u.railOf i
  det : t.det i = u.det i
  scanOf : t.scanOf i = u.scanOf i
  work : t.work = u.work

theorem State.sampleAlert_of_ne_online (h : (u.ctx i).state ≠ .online) :
    u.sampleAlert i alert = u.modSlot i (SlotRecord.heard alert) :=
  State.sampleAlert_of_quiet fun met => h met.1

theorem heardFrom_sampleAlert (h : (u.ctx i).state ≠ .online) : HeardFrom i u (u.sampleAlert i alert) := by
  have own : (u.sampleAlert i alert).slot i = (u.slot i).heard alert := by
    rw [State.sampleAlert_of_ne_online h, State.slot_modSlot_self]
  exact ⟨(congrArg SlotRecord.ctx own :), (congrArg SlotRecord.rail own :), (congrArg SlotRecord.detector own :),
    (congrArg SlotRecord.scan own :), by rw [State.sampleAlert_of_ne_online h]; rfl⟩

theorem State.Reaches.sampleAlert (h : Reaches i r w s u) (state : r.ctx.state ≠ .online) :
    Reaches i (r.heard alert) w s (u.sampleAlert i alert) := by
  rw [State.sampleAlert_of_ne_online (by rw [h.ctx]; exact state)]
  exact h.modSlot _

theorem State.put_sampleAlert_of_ne_online (h : q.ctx.state ≠ .online) :
    (s.put i q w).sampleAlert i alert = s.put i (q.heard alert) w := by
  rw [State.sampleAlert_of_ne_online (by rw [State.ctx_put_self]; exact h), State.put_modSlot]

theorem poweredDown_heard (h : HeardFrom i u t) (down : PoweredDown i s u reason dest) : PoweredDown i s t reason dest := by
  unfold PoweredDown at down ⊢
  rw [h.ctx, h.railOf]
  exact down

theorem powerStepTaken_heard (h : HeardFrom i u t) (taken : PowerStepTaken i s u) : PowerStepTaken i s t := by
  unfold PowerStepTaken at taken ⊢
  rw [h.ctx, h.railOf]
  exact taken

theorem workAborted_heard (h : HeardFrom i u t) (aborted : WorkAborted i s u) : WorkAborted i s t := by
  have lane : t.lane = u.lane := congrArg Work.lane h.work
  have imageIn : t.imageIn = u.imageIn := congrArg Work.imageIn h.work
  have imageOut : t.imageOut = u.imageOut := congrArg Work.imageOut h.work
  unfold WorkAborted WindowsReleased at aborted ⊢
  rw [h.ctx, h.railOf, h.det, h.scanOf, lane, imageIn, imageOut]
  exact aborted

theorem withdrawalEnded_heard {st : SlotState} (h : HeardFrom i u t) (ended : WithdrawalEnded i s u st) :
    WithdrawalEnded i s t st := by
  have entries : ∀ k, t.entry k = u.entry k := fun k =>
    congrArg (fun w : Work => w.directory.entries[k]) h.work
  unfold WithdrawalEnded MatchDropped at ended ⊢
  simp only [h.ctx, entries]
  exact ended

end

/-! ## The debounce step that changes the contact state (R3, R7) -/

/-- A slot's record as its contact state has become `c` in the monitor `m` (R6). -/
def SlotRecord.recontacted (m : Monitor) (c : ContactState) (r : SlotRecord) : SlotRecord :=
  { r with monitor := m, ctx := { r.ctx with contact := c } }

/-- A slot's record with its skip mark set, where it has one (R158). -/
def SlotRecord.skipSet (r : SlotRecord) : SlotRecord := { r with scan := { r.scan with skip := r.scan.skip.map fun _ => true } }

section
variable {s : State} {i : Slot} {raw : ContactState} {key : BitVec 3} {alert : Level}

/-- The slot's record as the debounce step changes the contact state, before the sequencer hears of it. -/
def State.contacted (s : State) (i : Slot) (raw : ContactState) (key : BitVec 3) : SlotRecord :=
  (s.slot i).recontacted (s.debounced i raw key) raw

variable (differs : raw ≠ (s.mon i).contact)
  (full : debounceThreshold s.params.makeFilter (s.mon i).contact raw ≤ runAfter i raw s)
include differs full

theorem State.debounced_of_le :
    s.debounced i raw key = ({ (s.mon i).countSample with contact := raw, candidate := none, run := 0 } : Monitor).readKey key :=
  Monitor.debounce_of_le (m := (s.mon i).countSample) differs full key

theorem State.debounced_contact : (s.debounced i raw key).contact = raw := by
  rw [State.debounced_of_le differs full, Monitor.readKey_eq]

theorem State.sample_of_le : s.sample i raw key alert
    = ((s.modSlot i fun r => { r with monitor := s.debounced i raw key }).contactChange i (s.mon i).contact raw key).sampleAlert
        i alert := by
  have counted : (s.modMon i Monitor.countSample).mon i = (s.mon i).countSample := State.mon_modMon_self s i _
  have contact : (s.debounced i raw key).contact = raw := State.debounced_contact differs full
  have step : ((s.modMon i Monitor.countSample).mon i).debounce (s.modMon i Monitor.countSample).params.makeFilter raw key
      = s.debounced i raw key := congrArg (fun m => Monitor.debounce m s.params.makeFilter raw key) counted
  rw [State.sample, State.sampleContacts_of_ne (by rw [step, contact, counted]; exact differs), step, contact, counted,
    State.modMon_eq, State.modMon_eq, State.modSlot_modSlot]
  rfl

/-- The card has been seated. -/
theorem State.sample_seated (seated : raw = .seated) : s.sample i raw key alert
    = ((s.put i (s.contacted i raw key) s.work).seatCard i (classOfKey key)).sampleAlert i alert := by
  rw [State.sample_of_le differs full]
  subst seated
  unfold State.contactChange
  dsimp only
  rw [State.modCtx_eq, State.modSlot_modSlot]
  rfl

/-- The card has left SEATED. -/
theorem State.sample_removed (seated : (s.mon i).contact = .seated) : s.sample i raw key alert
    = ((s.put i (s.contacted i raw key) s.work).removeCard i raw).sampleAlert i alert := by
  rw [State.sample_of_le differs full, seated]
  unfold State.contactChange
  dsimp only
  rw [State.modCtx_eq, State.modSlot_modSlot]
  cases raw with
  | seated => exact absurd seated.symm differs
  | partway | opened => rfl

/-- The contacts have moved between PARTIAL and OPEN. -/
theorem State.sample_moved (old : (s.mon i).contact ≠ .seated) (new : raw ≠ .seated) : s.sample i raw key alert
    = (s.put i (s.contacted i raw key) s.work).sampleAlert i alert := by
  rw [State.sample_of_le differs full]
  unfold State.contactChange
  dsimp only
  rw [State.modCtx_eq, State.modSlot_modSlot]
  cases raw with
  | seated => exact absurd rfl new
  | partway | opened =>
    dsimp only
    rw [if_neg old]
    rfl

end

/-! ## The entry effects of a replaced record (R22, R23) -/

/-- A slot's record as it enters VACANT or DISABLED, its match aside (R22). -/
def SlotRecord.emptied (st : SlotState) (r : SlotRecord) : SlotRecord :=
  { r.enter st with ctx := (r.enter st).ctx.cleared }

section
variable {s : State} {i : Slot} {q : SlotRecord} {w : Work}

theorem State.put_enterSettling (us : Nat) : (s.put i q w).enterSettling i us
    = s.put i (q.unmatched.settleFor us) { w with directory := w.directory.unuse q.ctx.matched } := by
  rw [State.enterSettling_eq, State.dropMatch_eq, State.put_worked, State.put_modSlot, State.ctx_put_self]
  rfl

theorem State.put_enterEmpty (st : SlotState) : (s.put i q w).enterEmpty i st
    = s.put i (q.unmatched.emptied st) { w with directory := w.directory.unuse q.ctx.matched } := by
  rw [State.enterEmpty_eq, State.dropMatch_eq, State.put_worked, State.put_modSlot, State.ctx_put_self]
  rfl

theorem SlotRecord.emptied_ctx (st : SlotState) (r : SlotRecord) : (r.emptied st).ctx = { r.ctx with
    state := st, missCount := (r.enter st).ctx.missCount, inrushClass := none, identity := none, verdict := none
    attempts := 0, settleTimer := none } := by
  unfold SlotRecord.emptied
  rw [SlotRecord.enter_ctx]
  rfl

/-- The notices as the card leaves SEATED (R26). -/
def Work.removed (i : Slot) (c : ContactState) (w : Work) : Work :=
  { w with notices := w.notices.offer ⟨.removed, some i, c.code, []⟩ }

/-- A card that leaves SEATED in a state with no card under work or waiting (R26). -/
theorem State.put_removeCard_rest {c : ContactState}
    (state : q.ctx.state = .settling ∨ q.ctx.state = .refused ∨ q.ctx.state = .quarantined) :
    (s.put i q w).removeCard i c = s.put i (q.unmatched.emptied .vacant)
      { w with
        directory := w.directory.unuse q.ctx.matched, notices := w.notices.offer ⟨.removed, some i, c.code, []⟩ } := by
  unfold State.removeCard
  rw [State.ctx_put_self]
  rcases state with state | state | state <;> rw [state] <;> dsimp only <;>
    rw [State.put_enterEmpty, State.postSlot_eq, State.put_post]

/-- A card that leaves SEATED in a state in which its slot is worked on begins a withdrawal (R27). -/
theorem State.put_removeCard_active {c : ContactState} (state : q.ctx.state.active = true ∨ q.ctx.state = .rampWait) :
    (s.put i q w).removeCard i c = (s.put i q.skipSet (w.removed i c)).beginWithdrawal i
      (if q.rail.closed then .earlyRemoval else .removed) .settling q.rail.closed [] := by
  have skipped : ((s.put i q w).postSlot .removed i c.code []).setSkip i = s.put i q.skipSet (w.removed i c) :=
    State.put_modSlot (w := w.removed i c) SlotRecord.skipSet
  unfold State.removeCard
  dsimp only
  rw [State.ctx_put_self, State.railOf_put_self, skipped]
  cases h : q.ctx.state <;> first | rfl | (rw [h] at state; rcases state with state | state <;> cases state)

theorem State.put_removeCard_withdrawing {c : ContactState} (state : q.ctx.state = .withdrawing) :
    (s.put i q w).removeCard i c = ((s.put i q (w.removed i c)).powerStep i).modSlot i SlotRecord.skipSet := by
  unfold State.removeCard
  rw [State.ctx_put_self, state]
  rfl

theorem SlotRecord.skipSet_skip (out : q.scan.skip = none) : q.skipSet.scan.skip = none := by
  change q.scan.skip.map _ = none
  rw [out]
  rfl

end

end Sys2Proof.Machine

/-! The obligation on contact changes, put together from the states in which the card is seated or removed. -/

namespace Sys2Proof.Machine

open Sys2Proof Sys2Proof.Safety

set_option Elab.async false

section
variable {s : State} {i : Slot} {raw : ContactState} {key : BitVec 3} {alert : Level} {q : SlotRecord} {w : Work}

/-! ## A card that is seated (R25) -/

theorem threshold_of_seated (differs : .seated ≠ (s.mon i).contact) :
    debounceThreshold s.params.makeFilter (s.mon i).contact .seated = s.params.makeFilter := by
  cases h : (s.mon i).contact with
  | seated => exact absurd h.symm differs
  | partway | opened => rfl

theorem threshold_of_removed (seated : (s.mon i).contact = .seated) :
    debounceThreshold s.params.makeFilter (s.mon i).contact raw = 2 := by
  rw [seated]
  cases raw <;> rfl

/-- What the debounce step leaves of the pattern and of the sticky flag. -/
theorem Monitor.readKey_pattern_fields (m : Monitor) (key : BitVec 3) : (m.readKey key).pattern = m.pattern
    ∧ (m.readKey key).sticky = m.sticky := by
  rw [Monitor.readKey_eq]
  exact ⟨rfl, rfl⟩

/-- A pattern that begins starts at its first phase, with no samples (R13; log entry 15). -/
theorem Monitor.showPattern_begins {m : Monitor} {p : LedPattern} (h : m.pattern ≠ p) :
    (m.showPattern p).ledPhase = 0 ∧ (m.showPattern p).ledSamples = 0 := by
  unfold Monitor.showPattern
  rw [if_neg h]
  exact ⟨rfl, rfl⟩

theorem sample_seats_vacant (differs : .seated ≠ (s.mon i).contact)
    (full : s.params.makeFilter ≤ runAfter i .seated s) (state : (s.ctx i).state = .vacant) (on : s.safeOff = false) :
    ∃ t, s.sample i .seated key alert = t ∧ OnlySlotAndMatch i s t ∧ MatchDropped i s t
      ∧ (t.ctx i).state = .settling ∧ (t.ctx i).settleTimer = some (s.params.settleTime * 10000)
      ∧ (t.ctx i).inrushClass = some ⟨key.toNat, key.isLt⟩ ∧ (t.ctx i).identity = none ∧ (t.ctx i).verdict = none
      ∧ (t.mon i).pattern = .slow
      ∧ ((s.mon i).pattern ≠ .slow → (t.mon i).ledPhase = 0 ∧ (t.mon i).ledSamples = 0)
      ∧ t.notices = s.notices.offer ⟨.inserted, some i, 0, [byteOf key.toNat]⟩ := by
  have full' : debounceThreshold s.params.makeFilter (s.mon i).contact .seated ≤ runAfter i .seated s := by
    rw [threshold_of_seated differs]
    exact full
  have seats : (s.put i (s.contacted i .seated key) s.work).seatCard i (classOfKey key)
      = s.put i ((s.contacted i .seated key).unmatched.settleFor s.settleUs)
        { s.work with
          directory := s.directory.unuse (s.ctx i).matched
          notices := s.notices.offer ⟨.inserted, some i, 0, [byteOf key.toNat]⟩ } := by
    unfold State.seatCard
    rw [State.ctx_put_self, show (s.contacted i .seated key).ctx.state = .vacant from state]
    dsimp only
    have off : ¬ (s.put i (s.contacted i .seated key) s.work).safeOff = true := by
      change ¬ s.safeOff = true
      rw [on]
      exact Bool.false_ne_true
    rw [if_neg off, State.put_enterSettling, State.postSlot_eq, State.put_post]
    rfl
  have ctx := SlotRecord.settleFor_ctx s.settleUs (s.contacted i .seated key).unmatched
  have class_ : (s.contacted i .seated key).unmatched.monitor.seatedClass = some ⟨key.toNat, key.isLt⟩ :=
    congrArg Monitor.seatedClass (State.debounced_of_le differs full')
  rw [class_] at ctx
  refine ⟨_, (State.sample_seated differs full' rfl).trans ((congrArg (State.sampleAlert · i alert) seats).trans
    (State.put_sampleAlert_of_ne_online
      (ne_of_eq_of_ne (congrArg Context.state ctx) (show SlotState.settling ≠ .online by decide)))), onlySlotAndMatch_worked, matchDropped_of_unuse ?_ rfl, ?_⟩
  · rw [State.ctx_put_self]
    exact congrArg Context.matched ctx
  · have quiet : (s.contacted i .seated key).unmatched.ctx.state ≠ .online :=
      state ▸ (by decide : SlotState.vacant ≠ .online)
    have mon : ((s.contacted i .seated key).unmatched.settleFor s.settleUs).monitor
        = (s.debounced i .seated key).showPattern .slow := by
      unfold SlotRecord.settleFor
      rw [SlotRecord.enter_of_ne_online quiet]
      rfl
    have pattern : (s.debounced i .seated key).pattern = (s.mon i).pattern := by
      rw [State.debounced_of_le differs full']
      exact (Monitor.readKey_pattern_fields _ key).1
    rw [State.ctx_put_self, State.mon_eq, State.slot_put_self]
    refine ⟨congrArg Context.state ctx, congrArg Context.settleTimer ctx, congrArg Context.inrushClass ctx,
      congrArg Context.identity ctx, congrArg Context.verdict ctx, ?_, fun other => ?_, rfl⟩
    · exact (congrArg Monitor.pattern mon).trans (Monitor.showPattern_pattern _ _)
    · obtain ⟨phase, samples⟩ := Monitor.showPattern_begins (m := s.debounced i .seated key) (p := .slow)
        (by rw [pattern]; exact other)
      exact ⟨(congrArg Monitor.ledPhase mon).trans phase, (congrArg Monitor.ledSamples mon).trans samples⟩

theorem sample_seats_withdrawing (differs : .seated ≠ (s.mon i).contact)
    (full : s.params.makeFilter ≤ runAfter i .seated s) (state : (s.ctx i).state = .withdrawing) :
    ∃ t, s.sample i .seated key alert = t ∧ OnlySlotAndNotices i s t
      ∧ t.ctx i = { s.ctx i with contact := .seated, inrushClass := some ⟨key.toNat, key.isLt⟩ }
      ∧ t.notices = s.notices.offer ⟨.inserted, some i, 0, [byteOf key.toNat]⟩ := by
  have full' : debounceThreshold s.params.makeFilter (s.mon i).contact .seated ≤ runAfter i .seated s := by
    rw [threshold_of_seated differs]
    exact full
  have seats : (s.put i (s.contacted i .seated key) s.work).seatCard i (classOfKey key)
      = s.put i { s.contacted i .seated key with
          ctx := { (s.contacted i .seated key).ctx with inrushClass := some (classOfKey key) } }
        { s.work with notices := s.notices.offer ⟨.inserted, some i, 0, [byteOf key.toNat]⟩ } := by
    unfold State.seatCard
    rw [State.ctx_put_self, show (s.contacted i .seated key).ctx.state = .withdrawing from state]
    dsimp only
    rw [State.modCtx_eq, State.put_modSlot, State.postSlot_eq, State.put_post]
    rfl
  refine ⟨_, (State.sample_seated differs full' rfl).trans ((congrArg (State.sampleAlert · i alert) seats).trans
    (State.put_sampleAlert_of_ne_online (by exact state ▸ (by decide : SlotState.withdrawing ≠ .online)))),
    ⟨fun j hj => State.slot_put_ne hj, rfl⟩, ?_, rfl⟩
  rw [State.ctx_put_self]
  rfl

theorem active_of_working (up : InBringUp i s) (state : (s.ctx i).state ≠ .settling) :
    (s.contacted i raw key).ctx.state.active = true ∨ (s.contacted i raw key).ctx.state = .rampWait := by
  change (s.ctx i).state.active = true ∨ (s.ctx i).state = .rampWait
  obtain ⟨h | h | h | h | h | h | h, -⟩ := up
  · exact absurd h state
  · exact .inr h
  all_goals exact .inl (by rw [h]; rfl)

/-- A card that is not seated leaves an empty slot. -/
theorem endOf_removed (policy : Policy) (dest : Destination) (gone : raw ≠ .seated) :
    endOf policy raw dest = if policy = .off then .disabled else .vacant := by
  unfold endOf
  rw [if_pos gone]

/-! ## A card that is removed before ONLINE (R26, R27) -/

variable (differs : raw ≠ (s.mon i).contact) (seated : (s.mon i).contact = .seated) (full : 2 ≤ runAfter i raw s)
include differs seated full

/-- The sample that takes a card out, as what the sequencer does of it. -/
theorem State.sample_of_removal : s.sample i raw key alert
    = ((s.put i (s.contacted i raw key) s.work).removeCard i raw).sampleAlert i alert :=
  State.sample_removed differs (by rw [threshold_of_removed seated]; exact full) seated

theorem sample_removes_rest
    (state : (s.ctx i).state = .settling ∨ (s.ctx i).state = .refused ∨ (s.ctx i).state = .quarantined) :
    ∃ t, s.sample i raw key alert = t ∧ OnlySlotAndMatch i s t ∧ MatchDropped i s t
      ∧ (t.ctx i).state = .vacant ∧ (t.ctx i).settleTimer = none ∧ (t.ctx i).attempts = 0
      ∧ (t.ctx i).inrushClass = none ∧ (t.ctx i).faultRecord = (s.ctx i).faultRecord
      ∧ t.notices = s.notices.offer ⟨.removed, some i, raw.code, []⟩ := by
  have ctx := SlotRecord.emptied_ctx .vacant (s.contacted i raw key).unmatched
  refine ⟨_, (State.sample_of_removal differs seated full).trans ((congrArg (State.sampleAlert · i alert)
    (State.put_removeCard_rest (q := s.contacted i raw key) state)).trans
    (State.put_sampleAlert_of_ne_online
      (ne_of_eq_of_ne (congrArg Context.state ctx) (show SlotState.vacant ≠ .online by decide)))), onlySlotAndMatch_worked, matchDropped_of_unuse ?_ rfl, ?_⟩
  · rw [State.ctx_put_self]
    exact congrArg Context.matched ctx
  · rw [State.ctx_put_self]
    exact ⟨congrArg Context.state ctx, congrArg Context.settleTimer ctx, congrArg Context.attempts ctx,
      congrArg Context.inrushClass ctx, (congrArg Context.faultRecord ctx :), rfl⟩

omit differs seated full in
/-- The work of a slot whose card has been taken out, after REMOVED. -/
theorem workAborted_removed {u : State} {r : SlotRecord} {reason : Reason} {data : List Byte} {d : Directory} {n : Notices}
    (state : q.ctx.state = (s.ctx i).state) (inWindow : q.ctx.inWindow = (s.ctx i).inWindow)
    (outWindow : q.ctx.outWindow = (s.ctx i).outWindow) (left : q.WorkLeft r)
    (h : State.Reaches i r { (s.work.removed i raw).begun i reason data q.ctx with directory := d, notices := n } s u) :
    WorkAborted i s u := by
  obtain ⟨lane, imageIn, imageOut⟩ :=
    Work.begun_images (w := s.work.removed i raw) (i := i) (reason := reason) (data := data) q.ctx
  have same : ∀ o : SlotState, ((s.work.removed i raw).aborted i o q.ctx).lane = (s.work.aborted i o q.ctx).lane
      ∧ ((s.work.removed i raw).aborted i o q.ctx).imageIn = (s.work.aborted i o q.ctx).imageIn
      ∧ ((s.work.removed i raw).aborted i o q.ctx).imageOut = (s.work.aborted i o q.ctx).imageOut := fun o => by
    cases o <;> exact ⟨rfl, rfl, rfl⟩
  obtain ⟨lane', imageIn', imageOut'⟩ := same q.ctx.state
  exact h.workAborted state inWindow outWindow left (lane.trans lane') (imageIn.trans imageIn') (imageOut.trans imageOut')

/-- The withdrawal of a powered card that is taken out of its bring-up. -/
theorem reaches_removed_closed (up : InBringUp i s) (state : (s.ctx i).state ≠ .settling)
    (closed : (s.railOf i).closed = true) (queued : (s.railOf i).queued = false) :
    ∃ u, s.sample i raw key alert = u.sampleAlert i alert
      ∧ State.Reaches i (((s.contacted i raw key).skipSet.begun .earlyRemoval .settling).openSwitch s.dischargeUs)
        ((s.work.removed i raw).begun i .earlyRemoval [] (s.contacted i raw key).skipSet.ctx) s u := by
  have shut : (s.contacted i raw key).rail.closed = true := closed
  refine ⟨_, (State.sample_of_removal differs seated full).trans (congrArg (State.sampleAlert · i alert)
    (State.put_removeCard_active (active_of_working up state))), ?_⟩
  rw [shut, if_pos rfl]
  exact State.reaches_put.beginWithdrawal_closed true (SlotRecord.skipSet_skip (skip_of_inRoster up.2)) closed queued

omit differs seated full

/-- The card that has been taken out is powered down, with its new contact state. -/
theorem poweredDown_removed {u : State} {reason : Reason} {dest : Destination}
    (own : u.slot i = ((s.contacted i raw key).skipSet.begun reason dest).openSwitch s.dischargeUs) :
    PoweredDown i (s.modCtx i fun c => { c with contact := raw }) u reason dest := by
  have ctx : (s.modCtx i fun c => { c with contact := raw }).ctx i = { s.ctx i with contact := raw } := by
    rw [State.ctx_eq, State.modCtx_eq, State.slot_modSlot_self]
    rfl
  refine poweredDown_of_slot (s := s.modCtx i _) own ?_ ?_ ?_ ?_ <;> rw [ctx] <;> rfl

theorem withdrawing_ne_online_closed {us : Nat} {reason : Reason} {dest : Destination} :
    ((q.begun reason dest).openSwitch us).ctx.state ≠ .online := by
  change (q.begun reason dest).ctx.state ≠ .online
  rw [SlotRecord.begun_ctx]
  exact (by decide : SlotState.withdrawing ≠ .online)

include differs seated full

theorem sample_removes_powered (up : PoweredBringUp i s) :
    ∃ t, s.sample i raw key alert = t ∧ OnlySlotAndGrants i s t
      ∧ PoweredDown i (s.modCtx i fun c => { c with contact := raw }) t .earlyRemoval .settling
      ∧ t.notices = s.notices.offer ⟨.removed, some i, raw.code, []⟩ := by
  obtain ⟨notLane, notSplice⟩ := no_work_of_bringUp up
  obtain ⟨u, ran, down⟩ := reaches_removed_closed (key := key) (alert := alert) differs seated full
    (inBringUp_of_powered up) (settling_ne_of_powered up) up.2.1 up.2.2.1
  rw [Work.begun_of_plain (by exact notLane) (by exact notSplice) (by decide)] at down
  have heard := down.sampleAlert (alert := alert) withdrawing_ne_online_closed
  refine ⟨_, ran, heard.onlySlotAndGrants rfl rfl rfl rfl, ?_, heard.notices⟩
  exact poweredDown_heard (heardFrom_sampleAlert (by rw [down.ctx]; exact withdrawing_ne_online_closed))
    (poweredDown_removed down.own)

theorem sample_removes_working (up : InBringUp i s) (state : (s.ctx i).state = .identifying ∨ (s.ctx i).state = .spliceWait)
    (closed : (s.railOf i).closed = true) (queued : (s.railOf i).queued = false) :
    ∃ t, s.sample i raw key alert = t ∧ OnlySlotAndWork i s t ∧ WorkAborted i s t
      ∧ PoweredDown i (s.modCtx i fun c => { c with contact := raw }) t .earlyRemoval .settling
      ∧ t.directory = s.directory ∧ t.notices = s.notices.offer ⟨.removed, some i, raw.code, []⟩ := by
  have settling : (s.ctx i).state ≠ .settling := by
    rcases state with h | h <;> rw [h] <;> decide
  obtain ⟨u, ran, down⟩ := reaches_removed_closed (key := key) (alert := alert) differs seated full up settling closed queued
  have aborted : WorkAborted i s u := workAborted_removed (q := (s.contacted i raw key).skipSet) rfl rfl rfl
    (SlotRecord.workLeft_openSwitch _ _) down
  have heard := down.sampleAlert (alert := alert) withdrawing_ne_online_closed
  have from_ : HeardFrom i u (u.sampleAlert i alert) :=
    heardFrom_sampleAlert (by rw [down.ctx]; exact withdrawing_ne_online_closed)
  refine ⟨_, ran, heard.onlySlotAndWork ?_, workAborted_heard from_ aborted, poweredDown_heard from_ (poweredDown_removed down.own),
    ?_, ?_⟩
  · rw [Work.begun_directory]
    rfl
  · rw [heard.directory, Work.begun_directory]
    rfl
  · rw [heard.notices, Work.begun_notices]
    rfl

theorem sample_removes_open (up : InBringUp i s) (state : (s.ctx i).state ≠ .settling)
    (closed : (s.railOf i).closed = false) (discharge : (s.railOf i).dischargeTimer = none) :
    ∃ t, s.sample i raw key alert = t ∧ OnlySlotAndWork i s t ∧ WorkAborted i s t
      ∧ WithdrawalEnded i s t (if (s.ctx i).policy = .off then .disabled else .vacant)
      ∧ t.notices = (s.notices.offer ⟨.removed, some i, raw.code, []⟩).offer
          ⟨.withdrawn, some i, 3, [(t.ctx i).state.code]⟩ := by
  have gone : raw ≠ .seated := fun e => differs (e.trans seated.symm)
  have ends := endOf_removed (s.ctx i).policy .settling gone
  have open_ : (s.contacted i raw key).rail.closed = false := closed
  have ran := (State.sample_of_removal (key := key) (alert := alert) differs seated full).trans
    (congrArg (State.sampleAlert · i alert) (State.put_removeCard_active (active_of_working up state)))
  rw [open_, if_neg Bool.false_ne_true] at ran
  have ended := (State.reaches_put (s := s) (i := i) (r := (s.contacted i raw key).skipSet) (w := s.work.removed i raw)
    ).beginWithdrawal_open (reason := .removed) (dest := .settling) (data := []) false
    (SlotRecord.skipSet_skip (skip_of_inRoster up.2)) closed discharge
  rw [Work.begun_directory, Work.begun_notices] at ended
  have finished := withdrawalEnded_of_begun (s := s) (q := (s.contacted i raw key).skipSet) ended.own ended.directory
  have where_ : endOf (s.contacted i raw key).skipSet.ctx.policy (s.contacted i raw key).skipSet.ctx.contact .settling
      = if (s.ctx i).policy = .off then .disabled else .vacant := ends
  rw [where_] at finished
  have quiet : ((((s.contacted i raw key).skipSet.begun .removed .settling).unmatched.withdrawn s.longSettleUs).ctx.state)
      ≠ .online := by
    rw [← ended.ctx, finished.1]
    split <;> decide
  have heard := ended.sampleAlert (alert := alert) quiet
  have from_ := heardFrom_sampleAlert (i := i) (alert := alert) (by rw [ended.ctx]; exact quiet)
  have aborted := workAborted_removed (q := (s.contacted i raw key).skipSet) rfl rfl rfl
    (SlotRecord.workLeft_withdrawn _ _ (by
      rw [endState_begun, where_]
      split <;> decide)) ended
  refine ⟨_, ran, heard.onlySlotAndWork (Directory.unuse_ageTimer _ _), workAborted_heard from_ aborted,
    withdrawalEnded_heard from_ finished, heard.notices.trans ?_⟩
  rw [from_.ctx, finished.1, withdrawnNotice_begun, where_]
  rfl

end

end Sys2Proof.Machine

/-! Contact changes of roster slots, of withdrawing slots, and those that only copy the contact state. -/

namespace Sys2Proof.Machine

open Sys2Proof Sys2Proof.Safety

set_option Elab.async false

/-- A departure of a slot whose discharge runs leaves it waiting for that alone. -/
theorem State.Reaches.depart_discharging {s t : State} {i : Slot} {r : SlotRecord} {w : Work} (h : Reaches i r w s t)
    (closed : r.rail.closed = false) (discharge : r.rail.dischargeTimer ≠ none) :
    Reaches i { r.windowless with scan := ScanSlot.reset }
      { w with imageIn := w.imageIn.give r.ctx.inWindow, imageOut := w.imageOut.give r.ctx.outWindow } s (t.depart i) := by
  rw [State.depart_of_discharge (by rw [h.railOf]; exact closed) (by rw [h.railOf]; exact discharge)]
  exact h.departed

section
variable {s : State} {i : Slot} {raw : ContactState} {key : BitVec 3} {alert : Level} {p : SlotRecord} {w : Work}
  {data : List Byte}

/-! ## An early removal of a roster slot (R169) -/

/-- The early removal of an ONLINE card takes its power step ahead of its departure. -/
theorem put_earlyRemoval (state : p.ctx.state = .online) (roster : p.scan.skip.isSome = true)
    (queued : p.rail.queued = false) : (s.put i p w).beginWithdrawal i .earlyRemoval .settling true data
      = (((s.put i p w).begun i .earlyRemoval .settling data).powerStep i).requestDeparture i := by
  rw [State.beginWithdrawal_of_roster true (by rw [State.inRoster_put_self]; exact roster)
    (fun waits => absurd (waits.symm.trans ((congrArg Context.state State.ctx_put_self).trans state)) (by decide))
    (fun _ => by rw [State.railOf_put_self]; exact queued), if_pos rfl]

theorem reaches_begun_powerStep (state : p.ctx.state = .online) (closed : p.rail.closed = true)
    (queued : p.rail.queued = false) :
    State.Reaches i ((p.begun .earlyRemoval .settling).openSwitch s.dischargeUs) w s
      (((s.put i p w).begun i .earlyRemoval .settling data).powerStep i) := by
  obtain ⟨notLane, notSplice⟩ := online_work state
  have begun := (State.reaches_put (s := s) (i := i) (r := p) (w := w)).begun .earlyRemoval .settling data
  rw [Work.begun_of_plain notLane notSplice (by decide)] at begun
  exact begun.powerStep (by rw [SlotRecord.begun_rail]; exact closed) (SlotRecord.begun_queued queued)

theorem reaches_removed_waits (state : p.ctx.state = .online) (roster : p.scan.skip.isSome = true)
    (scan : s.scan.state ≠ .stopped) (closed : p.rail.closed = true) (queued : p.rail.queued = false) :
    State.Reaches i ((p.begun .earlyRemoval .settling).openSwitch s.dischargeUs).leaveQueued w s
      ((s.put i p w).beginWithdrawal i .earlyRemoval .settling true data) := by
  have step := reaches_begun_powerStep (s := s) (i := i) (w := w) (data := data) state closed queued
  have reason : (((p.begun .earlyRemoval .settling).openSwitch s.dischargeUs).ctx).reason = some .earlyRemoval := by
    change (p.begun .earlyRemoval .settling).ctx.reason = _
    rw [SlotRecord.begun_ctx]
  rw [put_earlyRemoval state roster queued, State.requestDeparture_of_queue (by rw [step.scan]; exact scan)]
  · exact step.modSlot _
  · rintro ⟨-, host, -⟩
    rw [step.ctx, reason] at host
    cases host

theorem reaches_removed_stopped (state : p.ctx.state = .online) (roster : p.scan.skip.isSome = true)
    (scan : s.scan.state = .stopped) (closed : p.rail.closed = true) (queued : p.rail.queued = false) :
    State.Reaches i ((p.leftScan .earlyRemoval .settling).openSwitch s.dischargeUs) (w.windowless p.ctx) s
      ((s.put i p w).beginWithdrawal i .earlyRemoval .settling true data) := by
  have step := reaches_begun_powerStep (s := s) (i := i) (w := w) (data := data) state closed queued
  obtain ⟨inWindow, outWindow, -⟩ := leaveQueued_windows (q := p) (reason := .earlyRemoval) (dest := .settling) state
  rw [put_earlyRemoval state roster queued, State.requestDeparture_of_stopped (by rw [step.scan]; exact scan)]
  have left := (step.modSlot SlotRecord.leaveQueued).depart_discharging rfl (Option.some_ne_none _)
  have same : (((p.begun .earlyRemoval .settling).openSwitch s.dischargeUs).leaveQueued).ctx.inWindow = p.ctx.inWindow
      ∧ (((p.begun .earlyRemoval .settling).openSwitch s.dischargeUs).leaveQueued).ctx.outWindow = p.ctx.outWindow :=
    ⟨inWindow, outWindow⟩
  rw [same.1, same.2] at left
  exact left

/-- The part with the copy of the contact state written, over which the departure is counted. -/
theorem State.put_recontacted : s.put i p w = (s.modCtx i fun c => { c with contact := raw }).put i p w :=
  (State.modSlot_worked (f := fun r => { r with ctx := { r.ctx with contact := raw } }) (g := fun _ => p) (w := w)).symm

/-! ## A card that is removed from the roster (R27, R28, R154, R158) -/

variable (differs : raw ≠ (s.mon i).contact) (seated : (s.mon i).contact = .seated) (full : 2 ≤ runAfter i raw s)

theorem skipSet_roster {q : SlotRecord} (roster : q.scan.skip.isSome = true) : q.skipSet.scan.skip = some true := by
  change q.scan.skip.map _ = some true
  obtain ⟨b, h⟩ := Option.isSome_iff_exists.mp roster
  rw [h]
  rfl

include differs seated full

/-- The sample that takes a card out of a slot that is worked on. -/
theorem sample_removes_active (state : (s.ctx i).state = .online) : s.sample i raw key alert
    = ((s.put i (s.contacted i raw key).skipSet (s.work.removed i raw)).beginWithdrawal i
        (if (s.railOf i).closed then .earlyRemoval else .removed) .settling (s.railOf i).closed []).sampleAlert i alert :=
  (State.sample_of_removal differs seated full).trans (congrArg (State.sampleAlert · i alert)
    (State.put_removeCard_active (q := s.contacted i raw key) (.inl (by
      rw [show (s.contacted i raw key).ctx.state = .online from state]
      rfl))))

theorem sample_removes_roster (state : (s.ctx i).state = .online) (roster : s.inRoster i = true)
    (queued : (s.railOf i).queued = false) (scan : s.scan.state ≠ .stopped) :
    ∃ t, s.sample i raw key alert = t ∧ OnlySlotAndGrants i s t
      ∧ (t.ctx i).state = .withdrawing ∧ (t.ctx i).destination = some .settling
      ∧ (t.ctx i).reason = some (if (s.railOf i).closed = true then .earlyRemoval else .removed)
      ∧ (t.ctx i).leaving = some .leavePending ∧ (t.scanOf i).splice = some .leave
      ∧ (t.scanOf i).skip = some true ∧ (t.scanOf i).cost = (s.scanOf i).cost ∧ (t.ctx i).missCount = none
      ∧ ((s.railOf i).closed = true → PowerStepTaken i s t)
      ∧ ((s.railOf i).closed = false → t.railOf i = s.railOf i)
      ∧ (t.ctx i).inWindow = (s.ctx i).inWindow ∧ (t.ctx i).outWindow = (s.ctx i).outWindow
      ∧ (t.ctx i).inputQuality = (s.ctx i).inputQuality ∧ (t.det i).run = .stopped ∧ (t.mon i).sticky = false
      ∧ t.notices = s.notices.offer ⟨.removed, some i, raw.code, []⟩ := by
  have ran := sample_removes_active (key := key) (alert := alert) differs seated full state
  have same : (s.contacted i raw key).skipSet.ctx.state = .online := state
  have skip := skipSet_roster (q := s.contacted i raw key) roster
  have isRoster : (s.contacted i raw key).skipSet.scan.skip.isSome = true := by rw [skip]; rfl
  cases closed : (s.railOf i).closed with
  | true =>
    rw [closed, if_pos rfl] at ran
    have reached := reaches_removed_waits (s := s) (i := i) (w := s.work.removed i raw) (data := []) same isRoster scan closed
      queued
    obtain ⟨sticky, -⟩ := SlotRecord.marked_flags (r := (s.contacted i raw key).skipSet) (reason := .earlyRemoval)
      (dest := .settling) same
    have heard := reached.sampleAlert (alert := alert) (withdrawing_ne_online_closed (us := s.dischargeUs))
    have taken : PowerStepTaken i s _ := powerStepTaken_heard (i := i)
      (heardFrom_sampleAlert (alert := alert) (by rw [reached.ctx]; exact withdrawing_ne_online_closed (us := s.dischargeUs)))
      (powerStepTaken_of_slot (q := ((s.contacted i raw key).skipSet.begun .earlyRemoval .settling).leaveQueued) reached.own)
    generalize State.sampleAlert _ i alert = t at ran heard taken
    have own := heard.own
    rw [begun_of_online same] at own
    unfold SlotRecord.openSwitch SlotRecord.leaveQueued at own
    rw [SlotRecord.marked_of_online same, SlotRecord.marked_scan] at own
    have ctx : t.ctx i = _ := congrArg SlotRecord.ctx own
    have scanOf : t.scanOf i = _ := congrArg SlotRecord.scan own
    exact ⟨_, ran, heard.onlySlotAndGrants rfl rfl rfl rfl, congrArg Context.state ctx, congrArg Context.destination ctx,
      congrArg Context.reason ctx, congrArg Context.leaving ctx, congrArg ScanSlot.splice scanOf,
      (congrArg ScanSlot.skip scanOf).trans skip, (congrArg ScanSlot.cost scanOf :), congrArg Context.missCount ctx,
      fun _ => taken, fun h => absurd h.symm Bool.false_ne_true, (congrArg Context.inWindow ctx :), (congrArg Context.outWindow ctx :),
      (congrArg Context.inputQuality ctx :), congrArg (fun r : SlotRecord => r.detector.run) own,
      (congrArg (fun r : SlotRecord => r.monitor.sticky) own).trans sticky, heard.notices⟩
  | false =>
    obtain ⟨notLane, notSplice⟩ := online_work same
    obtain ⟨sticky, -⟩ := SlotRecord.marked_flags (r := (s.contacted i raw key).skipSet) (reason := .removed)
      (dest := .settling) same
    rw [closed, if_neg Bool.false_ne_true, State.put_beginWithdrawal_leave same isRoster scan (by decide),
      Work.begun_of_plain notLane notSplice (by decide), begun_of_online same] at ran
    unfold SlotRecord.leaveQueued at ran
    rw [SlotRecord.marked_of_online same, SlotRecord.marked_scan, SlotRecord.marked_rail,
      State.put_sampleAlert_of_ne_online (by exact (by decide : SlotState.withdrawing ≠ .online))] at ran
    refine ⟨_, ran, (State.reaches_put (w := s.work.removed i raw)).onlySlotAndGrants rfl rfl rfl rfl, ?_⟩
    rw [State.ctx_put_self, State.railOf_put_self, State.scanOf_put_self, State.det_eq, State.mon_eq, State.slot_put_self]
    exact ⟨rfl, rfl, rfl, rfl, rfl, skip, rfl, rfl, fun h => absurd h Bool.false_ne_true, fun _ => rfl, rfl, rfl, rfl, rfl, sticky, rfl⟩

theorem sample_removes_stopped (state : (s.ctx i).state = .online) (roster : s.inRoster i = true)
    (queued : (s.railOf i).queued = false) (scan : s.scan.state = .stopped)
    (ready : (s.railOf i).closed = true ∨ (s.railOf i).dischargeTimer = none) :
    ∃ t, s.sample i raw key alert = t
      ∧ LeftStoppedScan i (s.modCtx i fun c => { c with contact := raw }) t .earlyRemoval .settling
      ∧ t.notices = (if (s.railOf i).closed = true then
          s.notices.offer ⟨.removed, some i, raw.code, []⟩
        else (s.notices.offer ⟨.removed, some i, raw.code, []⟩).offer
          ⟨.withdrawn, some i, 3, [(t.ctx i).state.code]⟩) := by
  have ran := sample_removes_active (key := key) (alert := alert) differs seated full state
  have same : (s.contacted i raw key).skipSet.ctx.state = .online := state
  have isRoster : (s.contacted i raw key).skipSet.scan.skip.isSome = true := by
    rw [skipSet_roster (q := s.contacted i raw key) roster]
    rfl
  have slot : (s.modCtx i fun c => { c with contact := raw }).slot i = { s.slot i with ctx := { s.ctx i with contact := raw } } :=
    State.slot_modSlot_self s i _
  have ctx : (s.modCtx i fun c => { c with contact := raw }).ctx i = { s.ctx i with contact := raw } :=
    congrArg SlotRecord.ctx slot
  have railOf : (s.modCtx i fun c => { c with contact := raw }).railOf i = s.railOf i := (congrArg SlotRecord.rail slot :)
  rw [State.put_recontacted (raw := raw)] at ran
  cases closed : (s.railOf i).closed with
  | true =>
    have left := SlotRecord.leftScan_eq (reason := .earlyRemoval) (dest := .settling) same
    obtain ⟨sticky, -⟩ := SlotRecord.marked_flags (r := (s.contacted i raw key).skipSet) (reason := .earlyRemoval)
      (dest := .settling) same
    rw [closed, if_pos rfl] at ran
    have reached := reaches_removed_stopped (s := s.modCtx i fun c => { c with contact := raw }) (i := i)
      (w := s.work.removed i raw) (data := []) same isRoster scan closed queued
    rw [left] at reached
    have heard := reached.sampleAlert (alert := alert) (by exact (by decide : SlotState.withdrawing ≠ .online))
    have taken := powerStepTaken_heard (i := i)
      (heardFrom_sampleAlert (alert := alert) (by rw [reached.ctx]; exact (by decide : SlotState.withdrawing ≠ .online)))
      (powerStepTaken_of_slot reached.own)
    generalize State.sampleAlert _ i alert = t at ran heard taken
    have own := heard.ctx
    refine ⟨_, ran, leftStoppedScan_of_reaches (q := (s.contacted i raw key).skipSet) heard rfl sticky rfl ⟨rfl, rfl, rfl⟩ rfl rfl
      (by rw [ctx]; rfl) (by rw [ctx]; rfl) rfl (fun _ => ⟨taken, congrArg Context.state own, congrArg Context.reason own,
        congrArg Context.destination own, congrArg Context.leaving own, heard.directory⟩)
      (fun shut => absurd (closed.symm.trans ((congrArg RailSlot.closed railOf).symm.trans shut)) (by decide)), ?_⟩
    rw [if_pos rfl]
    exact heard.notices
  | false =>
    have left := SlotRecord.leftScan_eq (reason := .removed) (dest := .settling) same
    obtain ⟨sticky, -⟩ := SlotRecord.marked_flags (r := (s.contacted i raw key).skipSet) (reason := .removed)
      (dest := .settling) same
    have discharge := ready.resolve_left (by rw [closed]; exact Bool.false_ne_true)
    rw [closed, if_neg Bool.false_ne_true] at ran
    have reached := reaches_leftScan_open (s := s.modCtx i fun c => { c with contact := raw }) (i := i)
      (w := s.work.removed i raw) (reason := .removed) (dest := .settling) (data := []) same isRoster scan (by decide) closed
      discharge
    generalize (s.contacted i raw key).skipSet.leftScan .removed .settling = gone at left reached
    have fields : gone.monitor.sticky = false ∧ gone.ctx.missCount = none ∧ gone.ctx.destination = some .settling
        ∧ gone.ctx.policy = (s.ctx i).policy ∧ gone.ctx.contact = raw ∧ gone.ctx.reason = some .removed
        ∧ gone.ctx.inWindow = none ∧ gone.ctx.outWindow = none ∧ gone.ctx.inputQuality = none
        ∧ gone.detector = (s.contacted i raw key).skipSet.detector.stop ∧ gone.scan = ScanSlot.reset
        ∧ gone.rail = s.railOf i := by
      rw [left]
      exact ⟨sticky, rfl, rfl, rfl, rfl, rfl, rfl, rfl, rfl, rfl, rfl, rfl⟩
    obtain ⟨quiet, miss, destination, policy, contact, reason, inWindow, outWindow, quality, stopped, reset, rail⟩ := fields
    have finished := withdrawalEnded_of_slot reached.own destination (by rw [ctx]; exact reached.directory)
    rw [policy, contact] at finished
    have ends : endOf (s.ctx i).policy raw .settling = if (s.ctx i).policy = .off then .disabled else .vacant :=
      endOf_removed _ _ fun e => differs (e.trans seated.symm)
    generalize ((s.modCtx i fun c => { c with contact := raw }).put i (s.contacted i raw key).skipSet
      (s.work.removed i raw)).beginWithdrawal i .removed .settling false [] = u at ran reached finished
    have other : (u.ctx i).state ≠ .online := by
      rw [finished.1, ends]
      split <;> decide
    have heard := reached.sampleAlert (alert := alert) (by rw [← reached.ctx]; exact other)
    have from_ := heardFrom_sampleAlert (alert := alert) other
    generalize u.sampleAlert i alert = t at ran heard from_
    obtain ⟨quiet', miss'⟩ := SlotRecord.withdrawn_quiet (r := gone) (s.modCtx i fun c => { c with contact := raw }).longSettleUs
      quiet miss
    refine ⟨_, ran, leftStoppedScan_of_reaches (q := (s.contacted i raw key).skipSet) heard ?_ quiet' ?_ ?_ miss' rfl
      (by rw [ctx]; rfl) (by rw [ctx]; rfl) (Directory.unuse_ageTimer _ _)
      (fun shut => absurd (closed.symm.trans ((congrArg RailSlot.closed railOf).symm.trans shut)) (by decide))
      (fun _ => ⟨?_, ?_⟩), ?_⟩
    · exact SlotRecord.withdrawn_scan.trans reset
    · exact SlotRecord.withdrawn_detector.trans stopped
    · change (SlotRecord.withdrawn _ _).ctx.inWindow = none ∧ (SlotRecord.withdrawn _ _).ctx.outWindow = none
        ∧ (SlotRecord.withdrawn _ _).ctx.inputQuality = none
      rw [SlotRecord.withdrawn_ctx]
      exact ⟨inWindow, outWindow, quality⟩
    · rw [ctx]
      exact withdrawalEnded_heard from_ finished
    · rw [railOf, heard.railOf]
      exact SlotRecord.withdrawn_rail.trans rail
    · have notice : gone.ctx.withdrawnNotice i = ⟨.withdrawn, some i, 3, [(endOf (s.ctx i).policy raw .settling).code]⟩ := by
        unfold Context.withdrawnNotice
        rw [Context.endState_eq, destination, policy, contact, reason]
        rfl
      rw [if_neg Bool.false_ne_true, from_.ctx, finished.1, heard.notices, ← notice]
      rfl

theorem sample_removes_withdrawing (state : (s.ctx i).state = .withdrawing) (queued : (s.railOf i).queued = false) :
    ∃ t, s.sample i raw key alert = t ∧ OnlySlotAndGrants i s t
      ∧ { t.ctx i with
          inrushCommitted := (s.ctx i).inrushCommitted, steadyCommitted := (s.ctx i).steadyCommitted }
        = { s.ctx i with contact := raw }
      ∧ t.scanOf i = { s.scanOf i with skip := (s.scanOf i).skip.map fun _ => true }
      ∧ ((s.railOf i).closed = true → PowerStepTaken i s t)
      ∧ ((s.railOf i).closed = false → t.railOf i = s.railOf i
          ∧ (t.ctx i).steadyCommitted = (s.ctx i).steadyCommitted)
      ∧ t.notices = s.notices.offer ⟨.removed, some i, raw.code, []⟩ := by
  have same : (s.contacted i raw key).ctx.state = .withdrawing := state
  have other : (s.contacted i raw key).ctx.state ≠ .online := by rw [same]; decide
  have ran := (State.sample_of_removal (key := key) (alert := alert) differs seated full).trans
    (congrArg (State.sampleAlert · i alert) (State.put_removeCard_withdrawing same))
  cases closed : (s.railOf i).closed with
  | true =>
    have reached := ((State.reaches_put (s := s) (i := i) (r := s.contacted i raw key) (w := s.work.removed i raw)).powerStep
      closed queued).modSlot SlotRecord.skipSet
    have heard := reached.sampleAlert (alert := alert) other
    refine ⟨_, ran, heard.onlySlotAndGrants rfl rfl rfl rfl, by rw [heard.ctx]; rfl, heard.scanOf,
      fun _ => powerStepTaken_heard (heardFrom_sampleAlert (alert := alert) (by rw [reached.ctx]; exact other))
        (powerStepTaken_of_slot (q := (s.contacted i raw key).skipSet) reached.own),
      fun h => absurd h.symm Bool.false_ne_true, heard.notices⟩
  | false =>
    rw [State.powerStep_of_open (by rw [State.railOf_put_self]; exact closed), State.put_modSlot,
      State.put_sampleAlert_of_ne_online (by exact other)] at ran
    refine ⟨_, ran, (State.reaches_put (w := s.work.removed i raw)).onlySlotAndGrants rfl rfl rfl rfl, ?_⟩
    rw [State.ctx_put_self, State.railOf_put_self, State.scanOf_put_self]
    exact ⟨rfl, rfl, fun h => absurd h Bool.false_ne_true, fun _ => ⟨rfl, rfl⟩, rfl⟩

omit seated full

/-! ## Changes that only copy the contact state (R6, R25, R26) -/

/-- Where the sequencer does nothing of the change, the sample is one change of the slot's record. -/
theorem sample_only_copies (full : (if (s.mon i).contact.rank < raw.rank then s.params.makeFilter else 2) ≤ runAfter i raw s)
    (rest : (s.ctx i).state = .disabled ∨ ((s.ctx i).state = .vacant ∧ (raw ≠ .seated ∨ s.safeOff = true))
      ∨ ((s.ctx i).state ≠ .online ∧ (s.mon i).contact ≠ .seated ∧ raw ≠ .seated)) :
    s.sample i raw key alert = s.put i ((s.contacted i raw key).heard alert) s.work := by
  have quiet : (s.contacted i raw key).ctx.state ≠ .online := by
    change (s.ctx i).state ≠ .online
    rcases rest with h | ⟨h, -⟩ | ⟨h, -⟩
    · rw [h]; decide
    · rw [h]; decide
    · exact h
  have kept : s.sample i raw key alert = (s.put i (s.contacted i raw key) s.work).sampleAlert i alert := by
    by_cases new : raw = .seated
    · have seats : (s.put i (s.contacted i raw key) s.work).seatCard i (classOfKey key) = s.put i (s.contacted i raw key) s.work := by
        unfold State.seatCard
        rw [State.ctx_put_self]
        change (match (s.ctx i).state with
          | .vacant => _
          | .withdrawing => _
          | _ => _) = _
        rcases rest with h | ⟨h, off⟩ | ⟨-, -, other⟩
        · rw [h]
        · rw [h]
          exact if_pos (off.resolve_left (not_not.mpr new))
        · exact absurd new other
      exact (State.sample_seated differs full new).trans (congrArg (State.sampleAlert · i alert) seats)
    · by_cases old : (s.mon i).contact = .seated
      · have removes : (s.put i (s.contacted i raw key) s.work).removeCard i raw = s.put i (s.contacted i raw key) s.work := by
          unfold State.removeCard
          rw [State.ctx_put_self]
          rcases rest with h | ⟨h, -⟩ | ⟨-, other, -⟩
          · rw [show (s.contacted i raw key).ctx.state = .disabled from h]
          · rw [show (s.contacted i raw key).ctx.state = .vacant from h]
          · exact absurd old other
        exact (State.sample_removed differs full old).trans (congrArg (State.sampleAlert · i alert) removes)
      · exact State.sample_moved differs full old new
  rw [kept, State.put_sampleAlert_of_ne_online quiet]

end

/-- Settles O38: the debounce step copies the contact state, and the slot's state decides what the sequencer does of it. -/
theorem contactChangesReachTheSequencer : Obligations.ContactChangesReachTheSequencer := by
  intro i l x key alert s differs
  have sampled : ∀ {P : State → Prop}, (∃ t, s.sample i (rawContact l x) key alert = t ∧ P t) →
      ∃ t, exec (.slotSample i l x key alert) s = .next t ∧ P t := fun ⟨t, ran, h⟩ => ⟨t, congrArg Host.Outcome.next ran, h⟩
  refine ⟨fun new full state on => sampled ?_, fun new full state => sampled ?_,
    fun seated full state => sampled (sample_removes_rest differs seated full state),
    fun seated full up => sampled (sample_removes_powered differs seated full up),
    fun seated full up state closed queued => sampled (sample_removes_working differs seated full up state closed queued),
    fun seated full up state closed discharge => sampled (sample_removes_open differs seated full up state closed discharge),
    fun seated full state roster queued scan => sampled (sample_removes_roster differs seated full state roster queued scan),
    fun seated full state roster queued scan ready =>
      sampled (sample_removes_stopped differs seated full state roster queued scan ready),
    fun full rest => ⟨_, congrArg Host.Outcome.next (sample_only_copies differs full rest),
      ⟨fun j hj => State.slot_put_ne hj, rfl⟩, ?_⟩,
    fun seated full state queued => sampled (sample_removes_withdrawing differs seated full state queued)⟩
  · rw [new] at differs full ⊢
    exact sample_seats_vacant differs full state on
  · rw [new] at differs full ⊢
    exact sample_seats_withdrawing differs full state
  · rw [State.ctx_put_self, State.railOf_put_self, State.scanOf_put_self, State.det_eq, State.slot_put_self]
    exact ⟨rfl, rfl, rfl, rfl⟩

end Sys2Proof.Machine

/-! SET SLOT POLICY of a slot at rest: the fields that it writes and the state that they lead to (R19, R47, R48). -/

namespace Sys2Proof.Machine

open Sys2Proof Sys2Proof.Safety

set_option Elab.async false

/-- What SET SLOT POLICY leaves in a slot's record, whatever the state that it leads to. -/
structure SlotRecord.PolicyTaken (f : PolicyFields) (r q : SlotRecord) : Prop where
  policy : q.ctx.policy = f.policy
  priority : q.ctx.priority = f.priority
  inputPolicy : q.ctx.inputPolicy = f.inputPolicy
  triggerMode : q.monitor.triggerMode = f.triggerMode
  alertNotices : q.monitor.alertNotices = f.alertNotices
  sticky : q.monitor.sticky = r.monitor.sticky
  contact : q.ctx.contact = r.ctx.contact
  faultRecord : q.ctx.faultRecord = r.ctx.faultRecord
  rail : q.rail = r.rail
  detector : q.detector = r.detector
  scan : q.scan = r.scan

theorem SlotRecord.policyTaken_policyWritten (f : PolicyFields) (r : SlotRecord) : r.PolicyTaken f (r.policyWritten f) :=
  ⟨rfl, rfl, rfl, rfl, rfl, rfl, rfl, rfl, rfl, rfl, rfl⟩

theorem Monitor.showPattern_alert (m : Monitor) (p : LedPattern) : (m.showPattern p).triggerMode = m.triggerMode
    ∧ (m.showPattern p).alertNotices = m.alertNotices ∧ (m.showPattern p).sticky = m.sticky := by
  unfold Monitor.showPattern
  split <;> exact ⟨rfl, rfl, rfl⟩

section
variable {r : SlotRecord} (f : PolicyFields) (quiet : r.ctx.state ≠ .online)
include quiet

theorem SlotRecord.policyTaken_emptied (st : SlotState) :
    r.PolicyTaken f ((r.policyWritten f).unmatched.emptied st) := by
  obtain ⟨mode, notices, sticky⟩ := (r.policyWritten f).monitor.showPattern_alert st.pattern
  unfold SlotRecord.emptied
  rw [SlotRecord.enter_of_ne_online (r := (r.policyWritten f).unmatched) quiet]
  exact ⟨rfl, rfl, rfl, mode, notices, sticky, rfl, rfl, rfl, rfl, rfl⟩

theorem SlotRecord.policyTaken_settleFor (us : Nat) :
    r.PolicyTaken f ((r.policyWritten f).unmatched.settleFor us) := by
  obtain ⟨mode, notices, sticky⟩ := (r.policyWritten f).monitor.showPattern_alert SlotState.settling.pattern
  unfold SlotRecord.settleFor
  rw [SlotRecord.enter_of_ne_online (r := (r.policyWritten f).unmatched) quiet]
  exact ⟨rfl, rfl, rfl, mode, notices, sticky, rfl, rfl, rfl, rfl, rfl⟩

end

/-! ## What the policy leads to -/

section
variable {s : State} {i : Slot} {f : PolicyFields} (queued : (s.railOf i).queued = false)
include queued

/-- The policy of a slot outside the ramp queue: the fields, and the effect on the slot's state. -/
theorem State.takePolicy_of_unqueued : s.takePolicy i f = if f.policy = .off
    then (s.put i ((s.slot i).policyWritten f) s.work).policyOff i
    else (s.put i ((s.slot i).policyWritten f) s.work).policyOn i := by
  have written : s.writePolicy i f = s.put i ((s.slot i).policyWritten f) s.work := rfl
  unfold State.takePolicy
  rw [written, queued]
  rfl

theorem State.takePolicy_of_kept (kept : (f.policy ≠ .off ∧ (s.ctx i).state ≠ .disabled)
    ∨ (f.policy = .off ∧ ((s.ctx i).state = .disabled ∨ (s.ctx i).state = .withdrawing))) :
    s.takePolicy i f = s.put i ((s.slot i).policyWritten f) s.work := by
  have same : ((s.put i ((s.slot i).policyWritten f) s.work).ctx i).state = (s.ctx i).state :=
    (congrArg Context.state State.ctx_put_self :)
  rw [State.takePolicy_of_unqueued queued]
  rcases kept with ⟨on, state⟩ | ⟨off, state⟩
  · rw [if_neg on, State.policyOn, same, if_neg state]
  · rw [if_pos off, State.policyOff, same]
    rcases state with state | state <;> rw [state]

theorem State.takePolicy_of_unseated (on : f.policy ≠ .off) (state : (s.ctx i).state = .disabled)
    (unseated : (s.ctx i).contact ≠ .seated) :
    s.takePolicy i f = s.put i (((s.slot i).policyWritten f).unmatched.emptied .vacant)
      { s.work with directory := s.directory.unuse (s.ctx i).matched } := by
  have ctx := State.ctx_put_self (s := s) (i := i) (r := (s.slot i).policyWritten f) (w := s.work)
  rw [State.takePolicy_of_unqueued queued, if_neg on, State.policyOn, if_pos ((congrArg Context.state ctx).trans state),
    if_neg (fun seated => unseated ((congrArg Context.contact ctx).symm.trans seated)), State.put_enterEmpty]
  rfl

theorem State.takePolicy_of_seated (on : f.policy ≠ .off) (state : (s.ctx i).state = .disabled)
    (seated : (s.ctx i).contact = .seated) :
    s.takePolicy i f = s.put i (((s.slot i).policyWritten f).unmatched.settleFor s.settleUs)
      { s.work with
        directory := s.directory.unuse (s.ctx i).matched
        notices := s.notices.offer
          ⟨.inserted, some i, 0, [optionCode ((s.mon i).seatedClass.map fun c => byteOf c.val)]⟩ } := by
  have ctx := State.ctx_put_self (s := s) (i := i) (r := (s.slot i).policyWritten f) (w := s.work)
  rw [State.takePolicy_of_unqueued queued, if_neg on, State.policyOn, if_pos ((congrArg Context.state ctx).trans state),
    if_pos ((congrArg Context.contact ctx).trans seated)]
  dsimp only
  rw [State.put_enterSettling, State.ctx_put_self, SlotRecord.settleFor_ctx, State.postSlot_eq, State.put_post]
  rfl

theorem State.takePolicy_of_ended (off : f.policy = .off) (state : (s.ctx i).state = .vacant ∨ (s.ctx i).state = .settling
    ∨ (s.ctx i).state = .refused ∨ (s.ctx i).state = .quarantined) :
    s.takePolicy i f = s.put i (((s.slot i).policyWritten f).unmatched.emptied .disabled)
      { s.work with directory := s.directory.unuse (s.ctx i).matched } := by
  have same : ((s.put i ((s.slot i).policyWritten f) s.work).ctx i).state = (s.ctx i).state :=
    (congrArg Context.state State.ctx_put_self :)
  have ends : (s.put i ((s.slot i).policyWritten f) s.work).policyOff i
      = (s.put i ((s.slot i).policyWritten f) s.work).enterEmpty i .disabled := by
    unfold State.policyOff
    rw [same]
    rcases state with state | state | state | state <;> rw [state]
  rw [State.takePolicy_of_unqueued queued, if_pos off, ends, State.put_enterEmpty]
  rfl

end

/-! ## The obligation -/

section
variable {s : State} {i : Slot} {f : PolicyFields} {q : SlotRecord} {m : Option EntryIndex} {n : Notices} {tag : Byte}

theorem State.ctx_put_reply {w : Work} {code : Byte} {st : Status} {body : List Byte} :
    ((s.put i q w).reply code tag st body).ctx i = q.ctx := State.ctx_put_self (w := w)

/-- The part as the request is answered, with the policy taken by the slot's record. -/
theorem policyTaken_reply {t : State} (h : t = (s.put i q
    { s.work with directory := s.directory.unuse m, notices := n }).reply 0x10 tag .ok [])
    (taken : (s.slot i).PolicyTaken f q) {rest : Prop} (proved : rest) :
    OnlySlotAndMatch i s t ∧ Answers s t 0x10 tag .ok []
      ∧ (t.ctx i).policy = f.policy ∧ (t.ctx i).priority = f.priority ∧ (t.ctx i).inputPolicy = f.inputPolicy
      ∧ (t.mon i).triggerMode = f.triggerMode ∧ (t.mon i).alertNotices = f.alertNotices
      ∧ (t.mon i).sticky = (s.mon i).sticky ∧ (t.ctx i).contact = (s.ctx i).contact
      ∧ (t.ctx i).faultRecord = (s.ctx i).faultRecord
      ∧ t.railOf i = s.railOf i ∧ t.det i = s.det i ∧ t.scanOf i = s.scanOf i ∧ rest := by
  have own : t.slot i = q := by
    rw [h]
    exact State.slot_put_self (s := s) (w := { s.work with directory := s.directory.unuse m, notices := n })
  have frame : OnlySlotAndMatch i s t := by
    obtain ⟨others, rest, timer⟩ := onlySlotAndMatch_worked (s := s) (i := i) (f := fun _ => q) (m := m) (q := n)
    rw [h]
    exact ⟨others, rest, timer⟩
  rw [← own] at taken
  exact ⟨frame, h ▸ rfl, taken.policy, taken.priority, taken.inputPolicy, taken.triggerMode, taken.alertNotices, taken.sticky,
    taken.contact, taken.faultRecord, taken.rail, taken.detector, taken.scan, proved⟩

/-- The match of a slot that enters an empty state or settles afresh is dropped. -/
theorem matchDropped_put (own : q.ctx.matched = none) : MatchDropped i s ((s.put i q
    { s.work with directory := s.directory.unuse (s.ctx i).matched, notices := n }).reply 0x10 tag .ok []) :=
  matchDropped_of_unuse (by rw [State.ctx_put_reply]; exact own) rfl

end

/-- Settles O19: the request is one replacement of the slot's record, whose entry effects are those of the state that the
policy leads to. -/
theorem slotPolicyIsWritten : Obligations.SlotPolicyIsWritten := by
  unfold Obligations.SlotPolicyIsWritten
  intro tag policy priority ip tm an i f s on fields queued states
  rw [exec_setSlotPolicy on fields]
  refine ⟨_, rfl, ?_⟩
  by_cases off : f.policy = .off
  · by_cases rest : (s.ctx i).state = .disabled ∨ (s.ctx i).state = .withdrawing
    · rw [State.takePolicy_of_kept queued (.inr ⟨off, rest⟩)]
      refine policyTaken_reply (m := none) (n := s.notices) rfl (SlotRecord.policyTaken_policyWritten f _) ?_
      refine ⟨fun _ => ⟨rfl, rfl, ?_⟩, fun on' => absurd off on', fun on' => absurd off on',
        fun _ d w => (rest.elim d w).elim⟩
      rw [State.ctx_put_reply]
      rfl
    · have ended : (s.ctx i).state = .vacant ∨ (s.ctx i).state = .settling ∨ (s.ctx i).state = .refused
          ∨ (s.ctx i).state = .quarantined := by
        rcases states with h | h | h | h | h | h | h
        · exact absurd off h
        · exact .inl h
        · exact .inr (.inl h)
        · exact .inr (.inr (.inl h))
        · exact .inr (.inr (.inr h))
        · exact absurd (.inl h) rest
        · exact absurd (.inr h) rest
      have quiet : (s.ctx i).state ≠ .online := by
        rcases ended with h | h | h | h <;> rw [h] <;> decide
      have ctx := SlotRecord.emptied_ctx .disabled ((s.slot i).policyWritten f).unmatched
      rw [State.takePolicy_of_ended queued off ended]
      refine policyTaken_reply rfl (SlotRecord.policyTaken_emptied f quiet .disabled) ⟨?_, fun on' => absurd off on',
        fun on' => absurd off on', fun _ _ _ => ⟨matchDropped_put (congrArg Context.matched ctx), ?_⟩⟩
      · rintro (⟨on', -⟩ | ⟨-, h⟩)
        · exact absurd off on'
        · exact absurd h rest
      · rw [State.ctx_put_reply, ctx]
        exact ⟨rfl, rfl, rfl, rfl, rfl, rfl, rfl⟩
  · by_cases state : (s.ctx i).state = .disabled
    · have quiet : (s.ctx i).state ≠ .online := state ▸ (by decide : SlotState.disabled ≠ .online)
      by_cases seated : (s.ctx i).contact = .seated
      · have ctx := SlotRecord.settleFor_ctx s.settleUs ((s.slot i).policyWritten f).unmatched
        rw [State.takePolicy_of_seated queued off state seated]
        refine policyTaken_reply rfl (SlotRecord.policyTaken_settleFor f quiet s.settleUs) ⟨?_,
          fun _ _ unseated => absurd seated unseated, fun _ _ _ => ⟨matchDropped_put (congrArg Context.matched ctx), ?_⟩,
          fun h => absurd h off⟩
        · rintro (⟨-, h⟩ | ⟨h, -⟩)
          · exact absurd state h
          · exact absurd h off
        · rw [State.ctx_put_reply, ctx]
          exact ⟨rfl, rfl, rfl, rfl⟩
      · have ctx := SlotRecord.emptied_ctx .vacant ((s.slot i).policyWritten f).unmatched
        rw [State.takePolicy_of_unseated queued off state seated]
        refine policyTaken_reply rfl (SlotRecord.policyTaken_emptied f quiet .vacant) ⟨?_,
          fun _ _ _ => ⟨matchDropped_put (congrArg Context.matched ctx), ?_⟩, fun _ _ h => absurd h seated,
          fun h => absurd h off⟩
        · rintro (⟨-, h⟩ | ⟨h, -⟩)
          · exact absurd state h
          · exact absurd h off
        · rw [State.ctx_put_reply, ctx]
          exact ⟨rfl, rfl, rfl⟩
    · rw [State.takePolicy_of_kept queued (.inl ⟨off, state⟩)]
      refine policyTaken_reply (m := none) (n := s.notices) rfl (SlotRecord.policyTaken_policyWritten f _) ?_
      refine ⟨fun _ => ⟨rfl, rfl, ?_⟩, fun _ h => absurd h state, fun _ h => absurd h state, fun h => absurd h off⟩
      rw [State.ctx_put_reply]
      rfl

end Sys2Proof.Machine

/-! RESTART, block by block (R186). -/

namespace Sys2Proof.Machine

open Sys2Proof Sys2Proof.Safety

set_option Elab.async false

/-- A sum whose term is 0 in every slot is 0. -/
theorem State.total_eq_zero {t : State} {f : SlotRecord → Nat} (h : ∀ j, f (t.slot j) = 0) : t.total f = 0 := by
  rw [State.total_eq_sum]
  exact Finset.sum_eq_zero fun j _ => h j

theorem Context.restartState_pattern (c : Context) :
    c.restartState.pattern = if c.restartState = .settling then .slow else .off := by
  unfold Context.restartState
  split
  · rfl
  · split <;> rfl

/-- A pattern that is shown already goes on, and every other field but the pattern's stays (R13). -/
theorem Monitor.showPattern_of_shown {m : Monitor} {p : LedPattern} (h : (m.showPattern p).pattern = m.pattern) :
    (m.showPattern p).ledPhase = m.ledPhase ∧ (m.showPattern p).ledSamples = m.ledSamples := by
  rw [Monitor.showPattern_pattern] at h
  unfold Monitor.showPattern
  rw [if_pos h.symm]
  exact ⟨rfl, rfl⟩

theorem Monitor.showPattern_rest (m : Monitor) (p : LedPattern) :
    { m.showPattern p with pattern := m.pattern, ledPhase := m.ledPhase, ledSamples := m.ledSamples } = m := by
  unfold Monitor.showPattern
  split <;> rfl

section
variable {s : State}

theorem exec_restart {tag : Byte} (on : s.safeOff = false) :
    exec (.restart tag) s = .next (s.restartAll.answerWith 0x06 tag .ok [] (some false)) := by
  change Host.Outcome.next (requestRestart tag s) = _
  rw [requestRestart, on]
  rfl

theorem State.slot_restartAll (s : State) (i : Slot) : s.restartAll.slot i = (s.slot i).restart s.longSettleUs := State.slot_mapSlots s _ i

theorem State.entry_restartAll (s : State) (k : EntryIndex) : s.restartAll.entry k = { s.entry k with users := 0 } := by
  simp [State.restartAll, State.entry, Directory.restart]

theorem SlotRecord.restart_monitor (us : Nat) (r : SlotRecord) :
    (r.restart us).monitor = { r.monitor with sticky := false, darkPulse := none, locate := none }.showPattern
      r.ctx.restartState.pattern := rfl

/-- The monitor after RESTART: the pattern of the slot's new state, and the alert, pulse and LOCATE ended (R17). -/
theorem SlotRecord.restart_led (us : Nat) (r : SlotRecord) :
    { (r.restart us).monitor with
        pattern := r.monitor.pattern, ledPhase := r.monitor.ledPhase, ledSamples := r.monitor.ledSamples }
      = { r.monitor with sticky := false, darkPulse := none, locate := none }
    ∧ (r.restart us).monitor.pattern = (if r.ctx.restartState = .settling then .slow else .off)
    ∧ ((r.restart us).monitor.pattern = r.monitor.pattern →
        (r.restart us).monitor.ledPhase = r.monitor.ledPhase ∧ (r.restart us).monitor.ledSamples = r.monitor.ledSamples)
    ∧ ((r.restart us).monitor.pattern ≠ r.monitor.pattern →
        (r.restart us).monitor.ledPhase = 0 ∧ (r.restart us).monitor.ledSamples = 0) := by
  have shown := Monitor.showPattern_pattern { r.monitor with sticky := false, darkPulse := none, locate := none }
    r.ctx.restartState.pattern
  rw [SlotRecord.restart_monitor]
  refine ⟨Monitor.showPattern_rest { r.monitor with sticky := false, darkPulse := none, locate := none } _,
    shown.trans (Context.restartState_pattern _), Monitor.showPattern_of_shown, fun other => Monitor.showPattern_begins ?_⟩
  rw [shown] at other
  exact fun h => other h.symm

end

/-- Settles O18: every slot's record is rebuilt by one function, and the other blocks are written out. -/
theorem restartRebuildsEveryBlock : Obligations.RestartRebuildsEveryBlock := by
  unfold Obligations.RestartRebuildsEveryBlock
  intro tag s on
  refine ⟨_, exec_restart on, fun i => ?_, State.total_eq_zero fun j => ?_, State.total_eq_zero fun j => ?_,
    State.total_eq_zero fun j => ?_, rfl, rfl, rfl, s.entry_restartAll, rfl, rfl, rfl, rfl, rfl, rfl, rfl, rfl, rfl, rfl,
    rfl⟩
  · have own : (s.restartAll.answerWith 0x06 tag .ok [] (some false)).slot i = (s.slot i).restart s.longSettleUs :=
      s.slot_restartAll i
    generalize s.restartAll.answerWith 0x06 tag .ok [] (some false) = t at own
    have ctx : t.ctx i = _ := congrArg SlotRecord.ctx own
    have mon : t.mon i = _ := congrArg SlotRecord.monitor own
    have det : t.det i = (s.det i).restart := congrArg SlotRecord.detector own
    obtain ⟨kept, pattern, same, other⟩ := SlotRecord.restart_led s.longSettleUs (s.slot i)
    rw [ctx, mon, det]
    exact ⟨rfl, rfl, kept, pattern, same, other, congrArg SlotRecord.rail own, congrArg SlotRecord.scan own, rfl, rfl, rfl,
      rfl, rfl, rfl, rfl, rfl, rfl⟩
  · exact (congrArg (fun r : SlotRecord => r.ctx.inrushCommitted) (s.slot_restartAll j) :)
  · exact (congrArg (fun r : SlotRecord => r.ctx.steadyCommitted) (s.slot_restartAll j) :)
  · exact (congrArg (fun r : SlotRecord => r.scan.cost.getD 0) (s.slot_restartAll j) :)

end Sys2Proof.Machine

/-! SAFE OFF: what an honoured one makes of every slot, and the notices that it posts (R176, R177). -/

namespace Sys2Proof.Machine

open Sys2Proof Sys2Proof.Safety

set_option Elab.async false

/-- SAFE OFF withdraws the slot: it is neither DISABLED nor VACANT (R177 step 4). -/
def SlotState.ended (st : SlotState) : Bool := st != .disabled && st != .vacant

theorem SlotState.ended_iff (st : SlotState) : st.ended = true ↔ st ≠ .disabled ∧ st ≠ .vacant := by
  cases st <;> decide

/-- A slot's record as step 4 of SAFE OFF leaves it (R177). -/
def SlotRecord.quieted (us : Nat) (r : SlotRecord) : SlotRecord :=
  if r.ctx.state.ended = true then r.unmatched.quarantine us else r

section
variable {s : State} {i : Slot}

theorem State.safeOffSlot_of_rest (h : (s.ctx i).state.ended ≠ true) : s.safeOffSlot i = s := by
  unfold State.safeOffSlot
  split
  · rfl
  · rfl
  · rename_i disabled vacant
    exact absurd ((SlotState.ended_iff _).mpr ⟨disabled, vacant⟩) h

theorem State.slot_safeOffSlot : (s.safeOffSlot i).slot i = (s.slot i).quieted s.longSettleUs := by
  unfold SlotRecord.quieted
  by_cases h : (s.slot i).ctx.state.ended = true
  · rw [if_pos h, s.safeOffSlot_eq i ((SlotState.ended_iff _).mp h), State.slot_post, State.slot_modSlot_self,
      State.slot_dropMatch_eq, if_pos rfl]
  · rw [if_neg h, State.safeOffSlot_of_rest (by exact h)]

theorem State.notices_safeOffSlot : (s.safeOffSlot i).notices = if (s.ctx i).state.ended = true
    then s.notices.offer ⟨.withdrawn, some i, 6, [(s.ctx i).safeOffState.code]⟩ else s.notices := by
  by_cases h : (s.ctx i).state.ended = true
  · rw [if_pos h, s.safeOffSlot_eq i ((SlotState.ended_iff _).mp h)]
    obtain ⟨-, -, rest⟩ := s.dropMatch_spec i
    have same : (s.dropMatch i).notices = s.notices := (congrArg State.notices rest :)
    exact congrArg (fun n : Notices => n.offer ⟨.withdrawn, some i, 6, [(s.ctx i).safeOffState.code]⟩) same
  · rw [if_neg h, State.safeOffSlot_of_rest h]

/-- Step 4 along a list of distinct slots, slot by slot. -/
theorem State.slot_foldl_safeOffSlot {l : List Slot} (distinct : l.Nodup) : ∀ s : State, ∀ j ∈ l,
    (l.foldl State.safeOffSlot s).slot j = (s.slot j).quieted s.longSettleUs := by
  induction l with
  | nil => exact fun _ _ h => absurd h List.not_mem_nil
  | cons i l ih =>
    intro s j mem
    obtain ⟨new, distinct⟩ := List.nodup_cons.mp distinct
    obtain ⟨others, rest, -⟩ := s.safeOffSlot_frame i
    have params : (s.safeOffSlot i).longSettleUs = s.longSettleUs := (congrArg State.longSettleUs rest :)
    rw [List.foldl_cons]
    by_cases e : j = i
    · rw [e, (State.foldl_safeOffSlot distinct _).1 i new, State.slot_safeOffSlot]
    · rw [ih distinct _ j (List.mem_of_ne_of_mem e mem), others j e, params]

/-- The notices of step 4 along a list of distinct slots: WITHDRAWN of each slot that it withdraws, in the list's order. -/
theorem State.notices_foldl_safeOffSlot (g : Slot → SlotState) {l : List Slot} (distinct : l.Nodup) : ∀ s : State,
    (∀ j ∈ l, (s.ctx j).state.ended = true → g j = (s.ctx j).safeOffState) →
      (l.foldl State.safeOffSlot s).notices = (l.filter fun j => (s.ctx j).state.ended).foldl
        (fun q j => q.offer ⟨.withdrawn, some j, 6, [(g j).code]⟩) s.notices := by
  induction l with
  | nil => exact fun _ _ => rfl
  | cons i l ih =>
    intro s ends
    obtain ⟨new, distinct⟩ := List.nodup_cons.mp distinct
    have others : ∀ j ∈ l, (s.safeOffSlot i).ctx j = s.ctx j := fun j mem =>
      congrArg SlotRecord.ctx ((s.safeOffSlot_frame i).1 j fun e => new (e ▸ mem))
    have filtered : (l.filter fun j => ((s.safeOffSlot i).ctx j).state.ended) = l.filter fun j => (s.ctx j).state.ended :=
      List.filter_congr fun j mem => by rw [others j mem]
    rw [List.foldl_cons, ih distinct _ fun j mem => by
      rw [others j mem]
      exact ends j (List.mem_cons_of_mem _ mem), filtered, State.notices_safeOffSlot, List.filter_cons]
    split
    · rename_i h
      rw [List.foldl_cons, ends i List.mem_cons_self h]
    · rfl

end

/-! ## One slot's record through SAFE OFF -/

section
variable {r : SlotRecord} (us : Nat)

/-- The end of a withdrawal leaves the LOCATE display. -/
theorem SlotRecord.enterAt_locate (st : SlotState) (q : SlotRecord) : (q.enterAt us st).monitor.locate = q.monitor.locate := by
  have entered : ∀ st, (q.enter st).monitor.locate = q.monitor.locate := fun st => by rw [SlotRecord.enter_monitor]
  exact SlotRecord.enterAt_induct (P := fun p => p.monitor.locate = q.monitor.locate) (fun _ => entered _)
    (fun _ => entered _) (entered _)

theorem SlotRecord.quarantine_state : (r.quarantine us).ctx.state = r.ctx.safeOffState := by
  rw [SlotRecord.quarantine_eq, SlotRecord.enterAt_state]

/-- The record of a slot that SAFE OFF withdraws keeps its fault record, its LOCATE display and its windows, and where it ends
QUARANTINED its identity, verdict, match and attempts (R24, R177). -/
theorem SlotRecord.quarantine_keeps : (r.quarantine us).ctx.faultRecord = r.ctx.faultRecord
    ∧ (r.quarantine us).monitor.locate = r.monitor.locate ∧ (r.quarantine us).ctx.inWindow = r.ctx.inWindow
    ∧ (r.quarantine us).ctx.outWindow = r.ctx.outWindow
    ∧ (r.ctx.safeOffState = .quarantined → (r.quarantine us).ctx.matched = r.ctx.matched
        ∧ (r.quarantine us).ctx.identity = r.ctx.identity ∧ (r.quarantine us).ctx.verdict = r.ctx.verdict
        ∧ (r.quarantine us).ctx.attempts = r.ctx.attempts) := by
  rw [SlotRecord.quarantine_eq]
  refine ⟨?_, ?_, ?_, ?_, fun held => ?_⟩
  · rw [SlotRecord.enterAt_ctx, SlotRecord.enter_ctx]
  · rw [SlotRecord.enterAt_locate, SlotRecord.enter_monitor]
  · rw [SlotRecord.enterAt_ctx, SlotRecord.enter_ctx]
  · rw [SlotRecord.enterAt_ctx, SlotRecord.enter_ctx]
  · rw [held]
    have same : ∀ q : SlotRecord, q.enterAt us .quarantined = q.enter .quarantined := fun _ => rfl
    rw [same, SlotRecord.enter_ctx, SlotRecord.enter_ctx]
    exact ⟨rfl, rfl, rfl, rfl⟩

end

theorem exec_safeOff_honoured {tag : Byte} {mask : HWord} {s : State} (on : s.safeOff = false) (small : mask.toNat < 4096)
    (lost : s.clock.refLost = true) (closed : mask.toNat = maskOf s.closedSwitches) :
    exec (.safeOff tag mask) s = .next (s.enterSafeOff.reply 0x43 tag .ok []) := by
  change Host.Outcome.next (requestSafeOff tag mask s) = _
  unfold requestSafeOff
  dsimp only
  rw [if_neg (by omega), on, if_neg Bool.false_ne_true, lost, if_neg (by simpa using closed)]

/-- What an honoured SAFE OFF makes of a slot's record (R177). -/
def SlotRecord.offRecord (us : Nat) (r : SlotRecord) : SlotRecord := r.safeOff.quieted us

section
variable (us : Nat) (r : SlotRecord)

theorem SlotRecord.offRecord_of_ended (h : r.ctx.state.ended = true) :
    r.offRecord us = r.safeOff.unmatched.quarantine us := if_pos h

theorem SlotRecord.offRecord_of_rest (h : r.ctx.state.ended ≠ true) : r.offRecord us = r.safeOff := if_neg h

theorem SlotRecord.offRecord_state (h : r.ctx.state.ended = true) : (r.offRecord us).ctx.state = r.ctx.safeOffState := by
  rw [r.offRecord_of_ended us h, SlotRecord.quarantine_state]
  rfl

/-- The state in which SAFE OFF leaves a slot, and what stays of its record (R177). -/
theorem SlotRecord.offRecord_spec : (r.offRecord us).ctx.faultRecord = r.ctx.faultRecord
    ∧ (r.offRecord us).monitor.locate = r.monitor.locate
    ∧ (r.offRecord us).ctx.inWindow = none ∧ (r.offRecord us).ctx.outWindow = none
    ∧ (r.offRecord us).ctx.state
      = (if r.ctx.state = .disabled ∨ r.ctx.state = .vacant then r.ctx.state
        else if r.ctx.policy = .off then .disabled
        else if r.ctx.contact = .seated then .quarantined else .vacant)
    ∧ ((r.offRecord us).ctx.state = .quarantined → (r.offRecord us).ctx.matched = none
        ∧ (r.offRecord us).ctx.identity = r.ctx.identity ∧ (r.offRecord us).ctx.verdict = r.ctx.verdict
        ∧ (r.offRecord us).ctx.attempts = r.ctx.attempts) := by
  by_cases h : r.ctx.state.ended = true
  · obtain ⟨fault, locate, inWindow, outWindow, held⟩ := SlotRecord.quarantine_keeps (r := r.safeOff.unmatched) us
    have state := r.offRecord_state us h
    rw [r.offRecord_of_ended us h] at state ⊢
    refine ⟨fault, locate, inWindow, outWindow, ?_, fun quarantined => held (state.symm.trans quarantined)⟩
    obtain ⟨disabled, vacant⟩ := (SlotState.ended_iff _).mp h
    rw [state, if_neg fun rest => rest.elim disabled vacant]
    unfold Context.safeOffState
    rw [ite_not]
  · have rest : r.ctx.state = .disabled ∨ r.ctx.state = .vacant := by
      rw [SlotState.ended_iff] at h
      tauto
    rw [r.offRecord_of_rest us h, if_pos rest]
    refine ⟨rfl, rfl, rfl, rfl, rfl, fun quarantined => ?_⟩
    rcases rest with rest | rest <;> exact absurd (quarantined.symm.trans rest) (by decide)

end

section
variable {s : State}

theorem State.slot_enterSafeOff (i : Slot) : s.enterSafeOff.slot i = (s.slot i).offRecord s.longSettleUs := by
  have own : s.withdrawAll.slot i = (s.slot i).offRecord s.longSettleUs := by
    refine (State.slot_foldl_safeOffSlot nodup_allSlots s.shutDown i (mem_allSlots i)).trans ?_
    rw [State.slot_shutDown]
    rfl
  rw [State.enterSafeOff_eq]
  generalize s.withdrawAll = t at own
  exact own

/-- The notices of SAFE OFF: WITHDRAWN of each slot that it withdraws, with the state in which the slot ends. -/
theorem State.notices_enterSafeOff : s.enterSafeOff.notices
    = (allSlots.filter fun i => (s.ctx i).state != .disabled && (s.ctx i).state != .vacant).foldl
      (fun q i => q.offer ⟨.withdrawn, some i, 6, [(s.enterSafeOff.ctx i).state.code]⟩) s.notices := by
  have state : ∀ i, (s.shutDown.ctx i).state = (s.ctx i).state := fun i => by
    rw [State.ctx_eq, State.slot_shutDown]
    rfl
  have ran := State.notices_foldl_safeOffSlot (fun i => (s.enterSafeOff.ctx i).state) nodup_allSlots s.shutDown fun i _ h => by
    rw [state] at h
    rw [State.ctx_eq, State.ctx_eq, State.slot_enterSafeOff, State.slot_shutDown, SlotRecord.offRecord_state _ _ h]
    rfl
  simp only [state] at ran
  have same : s.enterSafeOff.notices = s.withdrawAll.notices := by
    rw [State.enterSafeOff_eq]
  exact same.trans ran

/-- What SAFE OFF leaves of the blocks beside the slots. -/
theorem State.enterSafeOff_blocks : s.enterSafeOff.safeOff = true
    ∧ s.enterSafeOff.marks = { s.marks with safeOff := true } ∧ s.enterSafeOff.link = s.link
    ∧ s.enterSafeOff.scan = s.scan.clear ∧ s.enterSafeOff.clock = s.clock ∧ s.enterSafeOff.params = s.params
    ∧ s.enterSafeOff.mode = s.mode ∧ s.enterSafeOff.rail = s.rail ∧ s.enterSafeOff.imageIn = s.imageIn.clear
    ∧ s.enterSafeOff.imageOut = s.imageOut.clear := by
  obtain ⟨-, rest⟩ := s.withdrawAll_spec
  rw [State.enterSafeOff_eq]
  generalize s.withdrawAll = t at rest
  exact ⟨rfl, congrArg (fun u : State => { u.marks with safeOff := true }) rest, (congrArg State.link rest :),
    (congrArg State.scan rest :), (congrArg State.clock rest :), (congrArg State.params rest :),
    (congrArg State.mode rest :), (congrArg State.rail rest :), (congrArg State.imageIn rest :),
    (congrArg State.imageOut rest :)⟩

end

/-! ## The obligation -/

section
variable {tag : Byte} {mask : HWord} {s : State} (on : s.safeOff = false)
include on

theorem exec_safeOff_refused (small : mask.toNat < 4096)
    (fails : s.clock.refLost = false ∨ mask.toNat ≠ maskOf s.closedSwitches) :
    exec (.safeOff tag mask) s = .next (s.reply 0x43 tag .notAllowed (be16 (maskOf s.closedSwitches))) := by
  change Host.Outcome.next (requestSafeOff tag mask s) = _
  unfold requestSafeOff
  dsimp only
  rw [if_neg (by omega), on, if_neg Bool.false_ne_true, if_pos fails]

end

theorem exec_safeOff_large {tag : Byte} {mask : HWord} {s : State} (large : 4096 ≤ mask.toNat) :
    exec (.safeOff tag mask) s = .next (s.reply 0x43 tag .badValue []) := by
  change Host.Outcome.next (requestSafeOff tag mask s) = _
  unfold requestSafeOff
  dsimp only
  rw [if_pos large]

theorem safeOff_honoured {tag : Byte} {mask : HWord} {s : State} (on : s.safeOff = false) (small : mask.toNat < 4096)
    (lost : s.clock.refLost = true) (closed : mask.toNat = maskOf s.closedSwitches) :
    ∃ t, exec (.safeOff tag mask) s = .next t ∧ t.safeOff = true ∧ t.marks = { s.marks with safeOff := true }
      ∧ Answers s t 0x43 tag .ok [] ∧ t.ci = 0 ∧ t.cs = 0 ∧ t.load = 0 ∧ t.closedSwitches = []
      ∧ QuietInSafeOff t ∧ t.scan.cycle = s.scan.cycle ∧ t.clock = s.clock ∧ t.params = s.params ∧ t.mode = s.mode
      ∧ t.rail = s.rail ∧ t.imageIn = ⟨s.imageIn.mem, [⟨0, 128⟩]⟩ ∧ t.imageOut = ⟨s.imageOut.mem, [⟨0, 128⟩]⟩
      ∧ t.notices = (allSlots.filter fun i => (s.ctx i).state != .disabled && (s.ctx i).state != .vacant).foldl
          (fun q i => q.offer ⟨.withdrawn, some i, 6, [(t.ctx i).state.code]⟩) s.notices
      ∧ ∀ i, t.slot i = (s.slot i).offRecord s.longSettleUs := by
  obtain ⟨off, marks, link, scan, clock, params, mode, rail, imageIn, imageOut⟩ := State.enterSafeOff_blocks (s := s)
  have quiet := s.quiet_enterSafeOff
  have notices := State.notices_enterSafeOff (s := s)
  have slots := State.slot_enterSafeOff (s := s)
  have ran := exec_safeOff_honoured (tag := tag) on small lost closed
  generalize s.enterSafeOff = u at off marks link scan clock params mode rail imageIn imageOut quiet notices slots ran
  obtain ⟨shut, -⟩ := quiet off
  have inrush : u.ci = 0 := State.total_eq_zero fun j => by
    obtain ⟨-, inrush, -⟩ := shut j
    exact inrush
  have steady : u.cs = 0 := State.total_eq_zero fun j => by
    obtain ⟨-, -, steady, -⟩ := shut j
    exact steady
  have load : u.load = 0 := State.total_eq_zero fun j => by
    obtain ⟨-, -, -, -, -, -, -, -, -, -, -, -, cost⟩ := shut j
    rw [cost]
    rfl
  refine ⟨_, ran, off, marks, ?_, inrush, steady, load, ?_, quiet, (congrArg Scan.cycle scan :), clock, params, mode, rail,
    imageIn, imageOut, notices, slots⟩
  · exact congrArg (fun l : Link => l.take ⟨0x43, tag, .ok, [], none⟩) link
  · refine List.filter_eq_nil_iff.mpr fun j _ => ?_
    obtain ⟨-, -, -, -, open_, -⟩ := shut j
    exact fun h => Bool.false_ne_true (open_.symm.trans h)

/-- Settles O33: every slot's record goes through one function of SAFE OFF, and the notices follow by induction along the
slots. -/
theorem honouredSafeOffQuietsTheRack : Obligations.HonouredSafeOffQuietsTheRack := by
  unfold Obligations.HonouredSafeOffQuietsTheRack
  intro tag mask s on
  refine ⟨fun small lost closed => ?_, fun small fails => ⟨_, exec_safeOff_refused on small fails, rfl, rfl⟩,
    fun large => ⟨_, exec_safeOff_large large, rfl, rfl⟩⟩
  obtain ⟨t, ran, off, marks, answers, ci, cs, load, closed', quiet, cycle, clock, params, mode, rail, imageIn, imageOut,
    notices, slots⟩ := safeOff_honoured (tag := tag) on small lost closed
  refine ⟨t, ran, off, marks, answers, ci, cs, load, closed', quiet, cycle, clock, params, mode, rail, imageIn, imageOut,
    notices, fun i => ?_⟩
  have spec := SlotRecord.offRecord_spec s.longSettleUs (s.slot i)
  rw [← slots i] at spec
  exact spec

end Sys2Proof.Machine

/-! The JOINs that a boundary, a scan that stops or a THAW applies (R151 to R153), and the requests FREEZE and THAW. -/

namespace Sys2Proof.Machine

open Sys2Proof Sys2Proof.Safety

set_option Elab.async false

/-! ## One JOIN (R38, R153) -/

/-- A slot's record as its JOIN is applied. -/
def SlotRecord.spliced (lost : Bool) (us : Nat) (r : SlotRecord) : SlotRecord :=
  { r.enter .online with
    ctx := { (r.enter .online).ctx with attempts := 0, missCount := some 0 }
    detector := (r.enter .online).detector.start .watch (r.enter .online).ctx.identity lost us
    scan := { r.scan with splice := none, skip := some false } }

/-- The notice that a JOIN posts, with the cycle counter. -/
def Scan.onlineNotice (c : Scan) (i : Slot) : Notice := ⟨.online, some i, 0, be32 c.cycle.toNat⟩

section
variable {s : State} {i : Slot}

theorem State.applyJoin_eq : s.applyJoin i
    = (s.modSlot i (SlotRecord.spliced s.clock.refLost s.qualUs)).post (s.scan.onlineNotice i) := by
  have entered : ({ s.slot i with scan := { (s.slot i).scan with splice := none, skip := some false } }).enter .online
      = { (s.slot i).enter .online with scan := { (s.slot i).scan with splice := none, skip := some false } } := by
    unfold SlotRecord.enter
    split <;> rfl
  unfold State.applyJoin State.startDetector
  dsimp only
  rw [State.modScan_eq, State.setState_eq, State.modCtx_eq, State.postSlot_eq, State.modDet_eq, State.modSlot_eq_put (s := s),
    State.put_modSlot, State.put_modSlot, State.put_post, State.put_modSlot, State.ctx_put_self, entered,
    State.modSlot_eq_put, State.put_post]
  rfl

/-- What a JOIN makes of the record beside its pattern (R153). -/
theorem SlotRecord.spliced_spec (lost : Bool) (us : Nat) (r : SlotRecord) : (r.spliced lost us).ctx = { r.ctx with
      state := .online, attempts := 0, missCount := some 0 }
    ∧ (r.spliced lost us).rail = r.rail
    ∧ (r.spliced lost us).detector = r.detector.start .watch r.ctx.identity lost us
    ∧ (r.spliced lost us).scan = { r.scan with splice := none, skip := some false } := by
  unfold SlotRecord.spliced
  rw [SlotRecord.enter_ctx, SlotRecord.enter_detector]
  exact ⟨rfl, r.enter_rail _, rfl, rfl⟩

theorem joined_of_slot {t : State} (own : t.slot i = (s.slot i).spliced s.clock.refLost s.qualUs) : Safety.Joined i s t
    ∧ (t.scanOf i).cost = (s.scanOf i).cost ∧ (t.ctx i).inWindow = (s.ctx i).inWindow
    ∧ (t.ctx i).outWindow = (s.ctx i).outWindow := by
  obtain ⟨ctx, rail, det, scan⟩ := (s.slot i).spliced_spec s.clock.refLost s.qualUs
  unfold Safety.Joined
  rw [State.ctx_eq, State.railOf_eq, State.det_eq, State.scanOf_eq, own, ctx, rail, det, scan]
  exact ⟨⟨rfl, rfl, rfl, rfl, rfl, rfl, rfl, rfl, rfl, rfl⟩, rfl, rfl, rfl⟩

end

/-! ## Every JOIN (R152) -/

/-- The part after the JOINs of a list of distinct slots: each slot of the list joins, and ONLINE is posted for each in the
list's order. -/
structure State.JoinsAlong (l : List Slot) (s t : State) : Prop where
  own : ∀ j ∈ l, t.slot j = (s.slot j).spliced s.clock.refLost s.qualUs
  others : ∀ j, j ∉ l → t.slot j = s.slot j
  notices : t.notices = l.foldl (fun q j => q.offer (s.scan.onlineNotice j)) s.notices
  rest : { t with slots := s.slots, notices := s.notices } = s

theorem State.joinsAlong_foldl {l : List Slot} (distinct : l.Nodup) : ∀ s : State,
    JoinsAlong l s (l.foldl State.applyJoin s) := by
  induction l with
  | nil => exact fun s => ⟨fun _ h => absurd h List.not_mem_nil, fun _ _ => rfl, rfl, rfl⟩
  | cons i l ih =>
    intro s
    obtain ⟨new, distinct⟩ := List.nodup_cons.mp distinct
    obtain ⟨own, others, notices, rest⟩ := ih distinct (s.applyJoin i)
    rw [List.foldl_cons]
    have first : (s.applyJoin i).slot i = (s.slot i).spliced s.clock.refLost s.qualUs := by
      rw [State.applyJoin_eq, State.slot_post, State.slot_modSlot_self]
    have second : ∀ j, j ≠ i → (s.applyJoin i).slot j = s.slot j := fun j hj => by
      rw [State.applyJoin_eq, State.slot_post, State.slot_modSlot_ne _ _ hj]
    have blocks : { s.applyJoin i with slots := s.slots, notices := s.notices } = s := by
      rw [State.applyJoin_eq]
      rfl
    have posted : (s.applyJoin i).notices = s.notices.offer (s.scan.onlineNotice i) := by
      rw [State.applyJoin_eq]
      rfl
    generalize s.applyJoin i = u at own others notices rest first second blocks posted
    have clock : u.clock = s.clock := (congrArg State.clock blocks :)
    have params : u.params = s.params := (congrArg State.params blocks :)
    have scan : u.scan = s.scan := (congrArg State.scan blocks :)
    have qual : u.qualUs = s.qualUs := by rw [State.qualUs, params, State.qualUs]
    generalize l.foldl State.applyJoin u = t at own others notices rest
    refine ⟨fun j mem => ?_, fun j hj => ?_, ?_, ?_⟩
    · by_cases e : j = i
      · rw [e, others i new, first]
      · rw [own j (List.mem_of_ne_of_mem e mem), second j e, clock, qual]
    · rw [List.mem_cons, not_or] at hj
      rw [others j hj.2, second j hj.1]
    · rw [notices, posted, scan, List.foldl_cons]
    · calc _ = { { t with slots := u.slots, notices := u.notices } with slots := s.slots, notices := s.notices } := rfl
        _ = { u with slots := s.slots, notices := s.notices } := by rw [rest]
        _ = s := blocks

theorem State.mem_pendingSplices {s : State} {k : SpliceKind} {j : Slot} :
    j ∈ s.pendingSplices k ↔ (s.scanOf j).splice = some k := by
  unfold State.pendingSplices State.slotsWith
  simp [mem_allSlots, State.scanOf_eq]

theorem State.nodup_pendingSplices {s : State} {k : SpliceKind} : (s.pendingSplices k).Nodup :=
  List.Nodup.filter (fun i => (s.slot i).scan.splice == some k) nodup_allSlots

theorem State.pendingSplices_eq_nil {s : State} {k : SpliceKind} (h : ∀ j, (s.scanOf j).splice ≠ some k) :
    s.pendingSplices k = [] :=
  List.eq_nil_iff_forall_not_mem.mpr fun j mem => h j (State.mem_pendingSplices.mp mem)

theorem State.applyJoins_of_frozen {s : State} (frozen : s.clock.frozen = true) : s.applyJoins = s := if_pos frozen

theorem State.applyJoins_of_none {s : State} (h : ∀ j, (s.scanOf j).splice ≠ some .join) : s.applyJoins = s := by
  unfold State.applyJoins
  rw [State.pendingSplices_eq_nil h]
  exact ite_self _

theorem State.joinsAlong_applyJoins {s : State} (thawed : s.clock.frozen = false) :
    JoinsAlong (s.pendingSplices .join) s s.applyJoins := by
  unfold State.applyJoins
  rw [thawed, if_neg Bool.false_ne_true]
  exact State.joinsAlong_foldl State.nodup_pendingSplices s

/-! ## FREEZE and THAW (R109, R110) -/

section
variable {s : State} {tag : Byte} (on : s.safeOff = false)
include on

theorem exec_freeze : exec (.freeze tag) s = .next (if s.clock.frozen = true then s.reply 0x41 tag .already []
    else (s.setFrozen true).reply 0x41 tag .ok []) := by
  change Host.Outcome.next (requestFreeze tag s) = _
  unfold requestFreeze
  rw [on, if_neg Bool.false_ne_true]

theorem exec_thaw : exec (.thaw tag) s = .next (if s.clock.refLost = true then s.reply 0x42 tag .wrongState []
    else if s.clock.frozen = true then s.thaw.reply 0x42 tag .ok [] else s.reply 0x42 tag .already []) := by
  change Host.Outcome.next (requestThaw tag s) = _
  unfold requestThaw
  rw [on, if_neg Bool.false_ne_true]

end

section
variable {s : State}

/-- A THAW with no slot to grant and no JOIN to apply ends FROZEN alone. -/
theorem State.thaw_of_idle (queued : ∀ i, (s.railOf i).queued = false)
    (idle : s.scan.state ≠ .stopped ∨ ∀ i, (s.scanOf i).splice ≠ some .join) : s.thaw = s.setFrozen false := by
  have arbitrated : (s.setFrozen false).arbitrate = s.setFrozen false := State.arbitrate_of_empty queued
  unfold State.thaw
  dsimp only
  rw [arbitrated]
  rcases idle with idle | idle
  · exact if_neg idle
  · rw [State.applyJoins_of_none (s := s.setFrozen false) idle]
    exact ite_self _

/-- A THAW in a STOPPED scan: the evaluation reaches the slots of the ramp queue alone, and every held JOIN is applied. -/
theorem State.thaw_of_stopped (stopped : s.scan.state = .stopped) :
    { s.thaw with slots := s.slots, notices := s.notices, rail := s.rail, clock := s.clock } = s
      ∧ s.thaw.clock = { s.clock with frozen := false }
      ∧ ∀ i, (s.railOf i).queued = false → s.thaw.slot i = if (s.scanOf i).splice = some .join
        then (s.slot i).spliced s.clock.refLost s.qualUs else s.slot i := by
  have kept : ∀ i, (s.railOf i).queued = false → (s.setFrozen false).arbitrate.slot i = s.slot i := fun _ queued =>
    State.arbitrate_slot_of_not_queued (s := s.setFrozen false) queued
  have blocks := (s.setFrozen false).arbitrate_rest
  unfold State.thaw
  dsimp only
  generalize (s.setFrozen false).arbitrate = u at kept blocks
  have scan : u.scan = s.scan := (congrArg State.scan blocks :)
  have clock : u.clock = { s.clock with frozen := false } := (congrArg State.clock blocks :)
  have params : u.params = s.params := (congrArg State.params blocks :)
  have qual : u.qualUs = s.qualUs := by rw [State.qualUs, params, State.qualUs]
  obtain ⟨own, others, -, rest⟩ := State.joinsAlong_applyJoins (s := u) (by rw [clock])
  rw [scan, if_pos stopped]
  generalize u.applyJoins = t at own others rest
  refine ⟨?_, (congrArg State.clock rest :).trans clock, fun i queued => ?_⟩
  · calc _ = { { { t with slots := u.slots, notices := u.notices } with
                slots := (s.setFrozen false).slots, rail := { u.rail with lastGranted := s.rail.lastGranted } } with
              slots := s.slots, notices := s.notices, rail := s.rail, clock := s.clock } := rfl
      _ = { { u with slots := (s.setFrozen false).slots, rail := { u.rail with lastGranted := s.rail.lastGranted } } with
              slots := s.slots, notices := s.notices, rail := s.rail, clock := s.clock } := by rw [rest]
      _ = { s.setFrozen false with slots := s.slots, notices := s.notices, rail := s.rail, clock := s.clock } :=
          congrArg (fun v : State => { v with
            slots := s.slots, notices := s.notices, rail := s.rail, clock := s.clock }) blocks
      _ = s := rfl
  · have splice : (u.scanOf i).splice = (s.scanOf i).splice := by rw [State.scanOf_eq, kept i queued, State.scanOf_eq]
    split
    · rename_i join
      rw [own i (State.mem_pendingSplices.mpr (splice.trans join)), kept i queued, clock, qual]
    · rename_i other
      rw [others i fun mem => other (splice.symm.trans (State.mem_pendingSplices.mp mem)), kept i queued]

end

/-- Settles O32: a THAW evaluates the ramp queue and applies the JOINs, which reach no slot beyond the queue and the splice
list. -/
theorem freezeHoldsAndThawReleases : Obligations.FreezeHoldsAndThawReleases := by
  unfold Obligations.FreezeHoldsAndThawReleases
  intro tag s on
  refine ⟨fun thawed => ?_, fun frozen => ?_, fun lost => ?_, fun held thawed => ?_, fun held frozen queued idle => ?_,
    fun held frozen stopped => ?_⟩
  · rw [exec_freeze on, thawed]
    rfl
  · rw [exec_freeze on, if_pos frozen]
  · rw [exec_thaw on, if_pos lost]
  · rw [exec_thaw on, held, thawed]
    rfl
  · rw [exec_thaw on, held, if_neg Bool.false_ne_true, if_pos frozen, State.thaw_of_idle queued idle]
    rfl
  · rw [exec_thaw on, held, if_neg Bool.false_ne_true, if_pos frozen]
    obtain ⟨rest, clock, slots⟩ := State.thaw_of_stopped (s := s) stopped
    generalize s.thaw = t at rest clock slots
    refine ⟨_, rfl, clock, congrArg (fun l : Link => l.take ⟨0x42, tag, .ok, [], none⟩) (congrArg State.link rest :),
      (congrArg State.scan rest :), (congrArg State.directory rest :), (congrArg State.imageIn rest :),
      (congrArg State.imageOut rest :), fun i queued => ⟨fun join => ?_, fun other => ?_⟩⟩
    · have own : t.slot i = (s.slot i).spliced s.clock.refLost s.qualUs := (slots i queued).trans (if_pos join)
      obtain ⟨⟨online, attempts, miss, splice, skip, duty, qual, run, -⟩, cost, -⟩ := joined_of_slot own
      rw [held, if_neg Bool.false_ne_true] at run
      exact ⟨online, attempts, miss, splice, skip, cost, duty, run, qual⟩
    · exact (slots i queued).trans (if_neg other)

end Sys2Proof.Machine

/-! What a withdrawal leaves of the ramp queue, and the recheck of the queue (R61). -/

namespace Sys2Proof.Machine

open Sys2Proof Sys2Proof.Safety

set_option Elab.async false

/-! ## What leaves the ramp queue -/

/-- The class of a slot cannot be granted under the budgets as they stand, whatever is committed (R63). -/
def State.Blocked (s : State) (j : Slot) : Prop :=
  s.params.inrushBudget < (s.classRow j).inrush ∨ s.rail.effective < (s.classRow j).provisional

/-- A slot's record is as it was, or a grant has taken it out of the ramp queue. -/
def State.Passes (s t : State) (j : Slot) : Prop :=
  t.slot j = s.slot j ∨ ((s.slot j).rail.queued = true ∧ (t.slot j).rail.queued = false ∧ ¬ s.Blocked j)

/-- From `s` to `t` no slot but `i` changes beyond a grant, `i` does not join the queue, and the budgets stay. -/
structure State.Drains (i : Slot) (s t : State) : Prop where
  others : ∀ j, j ≠ i → s.Passes t j
  own : (s.slot i).rail.queued = false → (t.slot i).rail.queued = false
  params : t.params = s.params
  effective : t.rail.effective = s.rail.effective

section
variable {s t u : State} {i j : Slot}

theorem State.blocked_of_eq (slot : t.slot j = s.slot j) (params : t.params = s.params)
    (effective : t.rail.effective = s.rail.effective) : t.Blocked j ↔ s.Blocked j := by
  have row : t.classRow j = s.classRow j := by
    simp only [State.classRow, State.ctx_eq, slot, params]
  rw [State.Blocked, row, params, effective, State.Blocked]

theorem State.not_blocked_of_fits (h : s.grantFits j = true) : ¬ s.Blocked j := by
  unfold State.grantFits at h
  simp only [Bool.and_eq_true, decide_eq_true_eq] at h
  unfold State.Blocked
  omega

theorem State.Passes.trans (h : s.Passes t j) (params : t.params = s.params)
    (effective : t.rail.effective = s.rail.effective) (g : t.Passes u j) : s.Passes u j := by
  rcases h with same | ⟨queued, left, free⟩
  · rcases g with same' | ⟨queued, left, free⟩
    · exact .inl (same'.trans same)
    · refine .inr ⟨by rw [← same]; exact queued, left, ?_⟩
      rwa [← State.blocked_of_eq same params effective]
  · rcases g with same' | ⟨queued', -⟩
    · exact .inr ⟨queued, by rw [same']; exact left, free⟩
    · exact absurd (left.symm.trans queued') Bool.false_ne_true

theorem State.Drains.refl (s : State) (i : Slot) : Drains i s s := ⟨fun _ _ => .inl rfl, id, rfl, rfl⟩

theorem State.Drains.trans (h : Drains i s t) (g : Drains i t u) : Drains i s u where
  others j hj := (h.others j hj).trans h.params h.effective (g.others j hj)
  own queued := g.own (h.own queued)
  params := g.params.trans h.params
  effective := g.effective.trans h.effective

/-- An evaluation takes slots out of the queue whose class can be granted, and no others. -/
theorem State.passes_arbitrate (s : State) (j : Slot) : s.Passes s.arbitrate j := by
  have all : (∀ j, s.Passes s.arbitrate j) ∧ s.arbitrate.params = s.params
      ∧ s.arbitrate.rail.effective = s.rail.effective := by
    refine State.arbitrate_induct (P := fun t => (∀ j, s.Passes t j) ∧ t.params = s.params
      ∧ t.rail.effective = s.rail.effective) s ⟨fun _ => .inl rfl, rfl, rfl⟩ ?_
    rintro t i ⟨passes, params, effective⟩ queued fits
    refine ⟨fun j => (passes j).trans params effective ?_, params, effective⟩
    by_cases e : j = i
    · rw [e]
      refine .inr ⟨queued, ?_, State.not_blocked_of_fits fits⟩
      rw [State.slot_grant_self, SlotRecord.enter_rail]
      rfl
    · exact .inl (State.slot_grant_ne _ e)
  exact all.1 j

theorem State.drains_arbitrate (s : State) (i : Slot) : Drains i s s.arbitrate where
  others j _ := s.passes_arbitrate j
  own queued := by rw [State.arbitrate_slot_of_not_queued queued]; exact queued
  params := s.arbitrate_params
  effective := by rw [s.arbitrate_grantedFrom.rest]

theorem State.drains_worked {f : SlotRecord → SlotRecord} {w : Work}
    (h : (s.slot i).rail.queued = false → (f (s.slot i)).rail.queued = false) : Drains i s (s.worked i f w) where
  others j hj := .inl (State.slot_worked_ne hj)
  own queued := by rw [State.slot_worked_self]; exact h queued
  params := rfl
  effective := rfl

theorem State.drains_modSlot {f : SlotRecord → SlotRecord}
    (h : (s.slot i).rail.queued = false → (f (s.slot i)).rail.queued = false) : Drains i s (s.modSlot i f) :=
  State.drains_worked (w := s.work) h

theorem State.drains_powerStep (s : State) (i : Slot) : Drains i s (s.powerStep i) := by
  unfold State.powerStep
  split
  · exact (State.drains_modSlot fun queued => queued).trans (State.drains_arbitrate _ i)
  · exact .refl s i

theorem State.drains_endIfDone (s : State) (i : Slot) : Drains i s (s.endIfDone i) := by
  unfold State.endIfDone
  split
  · rw [State.endWithdrawal_worked]
    refine State.drains_worked fun queued => ?_
    rw [SlotRecord.withdrawn, SlotRecord.enterAt_rail]
    exact queued
  · exact .refl s i

theorem State.drains_depart (s : State) (i : Slot) : Drains i s (s.depart i) := by
  rw [State.depart_eq]
  exact ((State.drains_worked fun queued => queued).trans (State.drains_powerStep _ i)).trans (State.drains_endIfDone _ i)

theorem State.drains_requestDeparture (s : State) (i : Slot) : Drains i s (s.requestDeparture i) := by
  have queued : Drains i s (s.queueLeave i) := State.drains_modSlot fun queued => queued
  unfold State.requestDeparture
  split
  · split
    · exact State.drains_modSlot fun queued => queued
    · exact queued
  · exact queued
  · exact queued.trans (State.drains_depart _ i)

/-- A withdrawal of a slot outside the ramp queue takes no slot out of the queue but by grants. -/
theorem State.drains_beginWithdrawal {reason : Reason} {dest : Destination} {early : Bool} {data : List Byte}
    (queued : (s.railOf i).queued = false) : Drains i s (s.beginWithdrawal i reason dest early data) := by
  have begun : Drains i s (s.begun i reason dest data) := State.drains_worked SlotRecord.begun_queued
  unfold State.beginWithdrawal
  dsimp only
  rw [State.abortWork_begun fun _ => queued]
  generalize s.begun i reason dest data = u at begun
  have stepped : Drains i s (if early then u.powerStep i else u) := by
    split
    · exact begun.trans (State.drains_powerStep _ i)
    · exact begun
  have goesOn : ∀ v : State, Drains i v (if v.inRoster i then v.requestDeparture i else (v.powerStep i).endIfDone i) := by
    intro v
    split
    · exact State.drains_requestDeparture v i
    · exact (State.drains_powerStep v i).trans (State.drains_endIfDone _ i)
  exact stepped.trans (goesOn _)

theorem State.drains_refuseWith {v : Verdict} {data : List Byte} (queued : (s.railOf i).queued = false) :
    Drains i s (s.refuseWith i v data) := by
  have judged : Drains i s (s.setVerdict i v) :=
    State.drains_modSlot (f := fun r => { r with ctx := { r.ctx with verdict := some v } }) fun queued => queued
  exact judged.trans (State.drains_beginWithdrawal (judged.own queued))

end

/-! ## The recheck (R61) -/

/-- A slot's record out of the ramp queue. -/
def SlotRecord.unqueued (r : SlotRecord) : SlotRecord := { r with rail := { r.rail with queued := false } }

/-- From `s` to `t` no slot joins the ramp queue or changes in it, a slot outside it is as it was, and the budgets stay. -/
structure State.Rechecks (s t : State) : Prop where
  out : ∀ j, (s.slot j).rail.queued = false → t.slot j = s.slot j
  stays : ∀ j, (t.slot j).rail.queued = true → t.slot j = s.slot j
  params : t.params = s.params
  effective : t.rail.effective = s.rail.effective

section
variable {s t u : State} {i j : Slot}

theorem State.Rechecks.refl (s : State) : Rechecks s s := ⟨fun _ _ => rfl, fun _ _ => rfl, rfl, rfl⟩

theorem State.Rechecks.trans (h : Rechecks s t) (g : Rechecks t u) : Rechecks s u where
  out j queued := by rw [g.out j (by rw [h.out j queued]; exact queued), h.out j queued]
  stays j queued := by
    have same := g.stays j queued
    rw [same, h.stays j (by rw [← same]; exact queued)]
  params := g.params.trans h.params
  effective := g.effective.trans h.effective

theorem State.rechecks_arbitrate (s : State) : Rechecks s s.arbitrate where
  out _ queued := State.arbitrate_slot_of_not_queued queued
  stays j queued := by
    rcases s.passes_arbitrate j with same | ⟨-, left, -⟩
    · exact same
    · exact absurd (left.symm.trans queued) Bool.false_ne_true
  params := s.arbitrate_params
  effective := by rw [s.arbitrate_grantedFrom.rest]

/-- A recheck that fails takes the slot out of the queue and refuses its card. -/
theorem State.recheckSlot_of_failed (queued : (s.railOf i).queued = true) (never : s.neverFits i = true) :
    s.recheckSlot i = (s.put i (s.slot i).unqueued s.work).refuseWith i .noPower [] := by
  unfold State.recheckSlot
  rw [queued, never]
  rfl

theorem State.recheckSlot_of_passed (h : ¬ ((s.railOf i).queued = true ∧ s.neverFits i = true)) : s.recheckSlot i = s := by
  unfold State.recheckSlot
  exact if_neg fun both => h (by simpa using both)

/-- One recheck drains the queue of its own slot or of none. -/
theorem State.drains_recheckSlot (s : State) (i : Slot) : Drains i s (s.recheckSlot i)
    ∧ ((s.railOf i).queued = true → s.neverFits i = true → ((s.recheckSlot i).slot i).rail.queued = false) := by
  by_cases h : (s.railOf i).queued = true ∧ s.neverFits i = true
  · obtain ⟨queued, never⟩ := h
    have left : Drains i s (s.put i (s.slot i).unqueued s.work) := State.drains_worked fun _ => rfl
    have unqueued : ((s.put i (s.slot i).unqueued s.work).railOf i).queued = false := by
      rw [State.railOf_put_self]
      rfl
    have refused := State.drains_refuseWith (v := .noPower) (data := []) unqueued
    rw [State.recheckSlot_of_failed queued never]
    exact ⟨left.trans refused, fun _ _ => refused.own unqueued⟩
  · rw [State.recheckSlot_of_passed h]
    exact ⟨.refl s i, fun queued never => absurd ⟨queued, never⟩ h⟩

theorem State.rechecks_recheckSlot (s : State) (i : Slot) : Rechecks s (s.recheckSlot i) := by
  obtain ⟨drains, own⟩ := s.drains_recheckSlot i
  refine ⟨fun j queued => ?_, fun j queued => ?_, drains.params, drains.effective⟩
  · by_cases e : j = i
    · rw [State.recheckSlot_of_passed fun both => Bool.false_ne_true (queued.symm.trans (e ▸ both.1))]
    · rcases drains.others j e with same | ⟨queued', -⟩
      · exact same
      · exact absurd (queued.symm.trans queued') Bool.false_ne_true
  · by_cases e : j = i
    · subst e
      by_cases h : (s.railOf j).queued = true ∧ s.neverFits j = true
      · exact absurd ((own h.1 h.2).symm.trans queued) Bool.false_ne_true
      · rw [State.recheckSlot_of_passed h]
    · rcases drains.others j e with same | ⟨-, left, -⟩
      · exact same
      · exact absurd (left.symm.trans queued) Bool.false_ne_true

theorem State.neverFits_of_eq (slot : t.slot j = s.slot j) (params : t.params = s.params) :
    t.neverFits j = s.neverFits j := by
  have row : t.classRow j = s.classRow j := by
    simp only [State.classRow, State.ctx_eq, slot, params]
  rw [State.neverFits, row, params, State.neverFits]

/-- A recheck of every slot of a list leaves no slot of the list in the queue whose class can never be granted. -/
theorem State.rechecks_foldl (l : List Slot) : ∀ s : State, Rechecks s (l.foldl State.recheckSlot s)
    ∧ ∀ j ∈ l, ((l.foldl State.recheckSlot s).slot j).rail.queued = true → s.neverFits j = false := by
  induction l with
  | nil => exact fun s => ⟨.refl s, fun _ h => absurd h List.not_mem_nil⟩
  | cons i l ih =>
    intro s
    have first := s.rechecks_recheckSlot i
    obtain ⟨-, own⟩ := s.drains_recheckSlot i
    obtain ⟨rest, fits⟩ := ih (s.recheckSlot i)
    rw [List.foldl_cons]
    refine ⟨first.trans rest, fun j mem queued => ?_⟩
    have last := rest.stays j queued
    have queued' : ((s.recheckSlot i).slot j).rail.queued = true := by rw [← last]; exact queued
    have same := first.stays j queued'
    rcases List.mem_cons.mp mem with e | mem
    · subst e
      rw [Bool.eq_false_iff]
      intro never
      have before : (s.railOf j).queued = true := by
        rw [State.railOf_eq, ← same]
        exact queued'
      exact absurd ((own before never).symm.trans queued') Bool.false_ne_true
    · rw [← State.neverFits_of_eq same first.params]
      exact fits j mem queued

/-- What the recheck and its evaluation leave (R61): no slot in the queue whose class can never be granted, and no head that
could be. -/
theorem State.recheckQueue_spec (s : State) : Rechecks s s.recheckQueue
    ∧ (∀ j, (s.recheckQueue.slot j).rail.queued = true → s.neverFits j = false)
    ∧ (∀ i rest, s.recheckQueue.rampOrder = i :: rest → ¬ MayBeGranted i s.recheckQueue) := by
  obtain ⟨checked, fits⟩ := State.rechecks_foldl allSlots s
  unfold State.recheckQueue
  generalize allSlots.foldl State.recheckSlot s = u at checked fits
  have evaluated := State.rechecks_arbitrate u
  refine ⟨checked.trans evaluated, fun j queued => fits j (mem_allSlots j) ?_, State.no_head_arbitrate u⟩
  rw [← evaluated.stays j queued]
  exact queued

/-- With no slot in the ramp queue a recheck changes nothing. -/
theorem State.recheckQueue_of_empty (h : ∀ j, (s.railOf j).queued = false) : s.recheckQueue = s := by
  have same : ∀ l : List Slot, l.foldl State.recheckSlot s = s := by
    intro l
    induction l with
    | nil => rfl
    | cons i l ih =>
      rw [List.foldl_cons, State.recheckSlot_of_passed fun both => Bool.false_ne_true ((h i).symm.trans both.1), ih]
  unfold State.recheckQueue
  rw [same, State.arbitrate_of_empty h]

end

end Sys2Proof.Machine

/-! The cards that a recheck of the ramp queue refuses (R61). -/

namespace Sys2Proof.Machine

open Sys2Proof Sys2Proof.Safety

set_option Elab.async false

/-- The record of a waiting slot whose class can no longer be granted, as its card is refused NO_POWER. -/
def SlotRecord.powerRefused (us : Nat) (r : SlotRecord) : SlotRecord :=
  (((r.unqueued).judged .noPower).begun .refused .refused).unmatched.withdrawn us

/-- The notices of a card that is refused as it waits: REFUSED, and WITHDRAWN into REFUSED. -/
def Notices.powerRefused (n : Notices) (i : Slot) : Notices :=
  (n.offer ⟨.refused, some i, 7, []⟩).offer ⟨.withdrawn, some i, 5, [SlotState.refused.code]⟩

section
variable {s t : State} {i : Slot}

theorem endOf_of_waiting (waits : WaitsForRamp i s) : endOf (s.ctx i).policy (s.ctx i).contact .refused = .refused := by
  obtain ⟨-, -, seated, policy, -⟩ := waits
  unfold endOf
  rw [if_neg policy, if_neg (not_not.mpr seated)]

/-- A waiting slot is refused within its recheck. -/
theorem State.recheckSlot_of_waiting (waits : WaitsForRamp i s) (never : s.neverFits i = true) :
    s.recheckSlot i = s.put i ((s.slot i).powerRefused s.longSettleUs)
      { s.work with directory := s.directory.unuse (s.ctx i).matched, notices := s.notices.powerRefused i } := by
  have ends := endOf_of_waiting waits
  obtain ⟨queued, state, seated, policy, closed, discharge, out⟩ := waits
  rw [State.recheckSlot_of_failed queued never, State.put_refuseWith_open (q := (s.slot i).unqueued)
    (by exact state ▸ (by decide : SlotState.rampWait ≠ .identifying))
    (by exact state ▸ (by decide : SlotState.rampWait ≠ .spliceWait)) (skip_of_inRoster out) closed discharge fun _ => rfl]
  change s.put i _ { s.work with
    directory := _, notices := (s.notices.offer _).offer
      ⟨.withdrawn, some i, 5, [(endOf (s.ctx i).policy (s.ctx i).contact .refused).code]⟩ } = _
  rw [ends]
  rfl

/-- What the refusal leaves of the record. -/
theorem SlotRecord.powerRefused_spec (us : Nat) (waits : WaitsForRamp i s) :
    ((s.slot i).powerRefused us).ctx.state = .refused ∧ ((s.slot i).powerRefused us).ctx.verdict = some .noPower
      ∧ ((s.slot i).powerRefused us).ctx.matched = none
      ∧ ((s.slot i).powerRefused us).ctx.attempts = (s.ctx i).attempts
      ∧ ((s.slot i).powerRefused us).rail.queued = false ∧ ((s.slot i).powerRefused us).rail.closed = false := by
  have finished : (((s.slot i).unqueued.judged .noPower).begun .refused .refused).unmatched.ctx.endState = .refused :=
    (endState_begun (q := (s.slot i).unqueued.judged .noPower)).trans (endOf_of_waiting waits)
  obtain ⟨-, -, -, -, closed, -⟩ := waits
  have rail : ((s.slot i).powerRefused us).rail
      = (((s.slot i).unqueued.judged .noPower).begun .refused .refused).rail := SlotRecord.enterAt_rail
  have state : ((s.slot i).powerRefused us).ctx.state = .refused :=
    (SlotRecord.withdrawn_state (r := (((s.slot i).unqueued.judged .noPower).begun .refused .refused).unmatched)).trans finished
  refine ⟨state, SlotRecord.withdrawn_verdict state, ?_, ?_, ?_, ?_⟩
  · unfold SlotRecord.powerRefused
    rw [SlotRecord.withdrawn_ctx]
    rfl
  · unfold SlotRecord.powerRefused
    rw [SlotRecord.withdrawn_attempts (by exact state ▸ (by decide : SlotState.refused ≠ .vacant))
      (by exact state ▸ (by decide : SlotState.refused ≠ .disabled))]
    change (SlotRecord.begun _ _ _).ctx.attempts = _
    rw [SlotRecord.begun_ctx]
    rfl
  · rw [rail]
    exact SlotRecord.begun_queued rfl
  · rw [rail, SlotRecord.begun_rail]
    exact closed

theorem waitsForRamp_of_slot (slot : t.slot i = s.slot i) : WaitsForRamp i t ↔ WaitsForRamp i s := by
  unfold WaitsForRamp State.inRoster
  simp only [State.railOf_eq, State.ctx_eq, State.scanOf_eq, slot]

/-! ## One card among others -/

/-- A waiting slot whose class no budget can grant is refused in its turn, whatever the other slots do. -/
theorem State.slot_foldl_recheckSlot {l : List Slot} (distinct : l.Nodup) : ∀ s : State, i ∈ l → WaitsForRamp i s →
    s.neverFits i = true → s.Blocked i → (l.foldl State.recheckSlot s).slot i = (s.slot i).powerRefused s.longSettleUs := by
  induction l with
  | nil => exact fun _ mem => absurd mem List.not_mem_nil
  | cons k l ih =>
    intro s mem waits never blocked
    obtain ⟨new, distinct⟩ := List.nodup_cons.mp distinct
    rw [List.foldl_cons]
    by_cases e : i = k
    · subst e
      have own : (s.recheckSlot i).slot i = (s.slot i).powerRefused s.longSettleUs := by
        rw [State.recheckSlot_of_waiting waits never, State.slot_put_self]
      obtain ⟨-, -, -, -, queued, -⟩ := SlotRecord.powerRefused_spec s.longSettleUs waits
      obtain ⟨rest, -⟩ := State.rechecks_foldl l (s.recheckSlot i)
      rw [rest.out i (by rw [own]; exact queued), own]
    · obtain ⟨drains, -⟩ := s.drains_recheckSlot k
      have same : (s.recheckSlot k).slot i = s.slot i := by
        rcases drains.others i e with same | ⟨-, -, free⟩
        · exact same
        · exact absurd blocked free
      have settle : (s.recheckSlot k).longSettleUs = s.longSettleUs := by
        unfold State.longSettleUs State.settleUs State.dischargeUs
        rw [drains.params]
      rw [ih distinct (s.recheckSlot k) (List.mem_of_ne_of_mem e mem) ((waitsForRamp_of_slot same).mpr waits)
        ((State.neverFits_of_eq same drains.params).trans never)
        ((State.blocked_of_eq same drains.params drains.effective).mpr blocked), same, settle]

theorem State.slot_recheckQueue_of_blocked (waits : WaitsForRamp i s) (never : s.neverFits i = true) (blocked : s.Blocked i) :
    s.recheckQueue.slot i = (s.slot i).powerRefused s.longSettleUs := by
  have own := State.slot_foldl_recheckSlot nodup_allSlots s (mem_allSlots i) waits never blocked
  obtain ⟨-, -, -, -, queued, -⟩ := SlotRecord.powerRefused_spec s.longSettleUs waits
  unfold State.recheckQueue
  rw [State.arbitrate_slot_of_not_queued (by rw [own]; exact queued), own]

end

/-! ## A queue in which every slot waits -/

/-- The part after the rechecks of a list of distinct slots where every queued slot waits: each that fails is refused, in the
list's order, and nothing else changes but the users counts. -/
structure State.RefusesAlong (l : List Slot) (s t : State) : Prop where
  own : ∀ j ∈ l, (s.railOf j).queued = true → s.neverFits j = true → t.slot j = (s.slot j).powerRefused s.longSettleUs
  others : ∀ j, j ∉ l → t.slot j = s.slot j
  notices : t.notices = (l.filter fun j => (s.railOf j).queued && s.neverFits j).foldl Notices.powerRefused s.notices
  age : t.directory.ageTimer = s.directory.ageTimer
  rest : { t with slots := s.slots, directory := s.directory, notices := s.notices } = s

section
variable {s : State}

theorem State.recheckSlot_frame (i : Slot) (waits : (s.railOf i).queued = true → WaitsForRamp i s) :
    (∀ j, j ≠ i → (s.recheckSlot i).slot j = s.slot j)
      ∧ (s.recheckSlot i).notices = (if ((s.railOf i).queued && s.neverFits i) = true then s.notices.powerRefused i
        else s.notices)
      ∧ (s.recheckSlot i).directory.ageTimer = s.directory.ageTimer
      ∧ { s.recheckSlot i with slots := s.slots, directory := s.directory, notices := s.notices } = s := by
  by_cases h : ((s.railOf i).queued && s.neverFits i) = true
  · obtain ⟨queued, never⟩ := (Bool.and_eq_true _ _).mp h
    rw [if_pos h, State.recheckSlot_of_waiting (waits queued) never]
    exact ⟨fun j hj => State.slot_put_ne hj, rfl, Directory.unuse_ageTimer _ _, rfl⟩
  · rw [if_neg h, State.recheckSlot_of_passed fun both => h ((Bool.and_eq_true _ _).mpr both)]
    exact ⟨fun _ _ => rfl, rfl, rfl, rfl⟩

theorem State.refusesAlong_foldl {l : List Slot} (distinct : l.Nodup) : ∀ s : State,
    (∀ i ∈ l, (s.railOf i).queued = true → WaitsForRamp i s) → RefusesAlong l s (l.foldl State.recheckSlot s) := by
  induction l with
  | nil => exact fun s _ => ⟨fun _ h => absurd h List.not_mem_nil, fun _ _ => rfl, rfl, rfl, rfl⟩
  | cons i l ih =>
    intro s waits
    obtain ⟨new, distinct⟩ := List.nodup_cons.mp distinct
    obtain ⟨same, posted, age, blocks⟩ := State.recheckSlot_frame i (waits i List.mem_cons_self)
    have fresh : (s.railOf i).queued = true → s.neverFits i = true →
        (s.recheckSlot i).slot i = (s.slot i).powerRefused s.longSettleUs := fun queued never => by
      rw [State.recheckSlot_of_waiting (waits i List.mem_cons_self queued) never, State.slot_put_self]
    have others' : ∀ j ∈ l, (s.recheckSlot i).slot j = s.slot j := fun j mem => same j fun e => new (e ▸ mem)
    rw [List.foldl_cons]
    generalize s.recheckSlot i = u at same posted age blocks fresh others' ⊢
    have params : u.params = s.params := (congrArg State.params blocks :)
    have never : ∀ j ∈ l, u.neverFits j = s.neverFits j := fun j mem => State.neverFits_of_eq (others' j mem) params
    have queued : ∀ j ∈ l, u.railOf j = s.railOf j := fun j mem => congrArg SlotRecord.rail (others' j mem)
    have settle : u.longSettleUs = s.longSettleUs := by
      unfold State.longSettleUs State.settleUs State.dischargeUs
      rw [params]
    obtain ⟨own, others, notices, age', rest⟩ := ih distinct u fun j mem h =>
      (waitsForRamp_of_slot (others' j mem)).mpr (waits j (List.mem_cons_of_mem _ mem) (by rw [← queued j mem]; exact h))
    generalize l.foldl State.recheckSlot u = t at own others notices age' rest
    refine ⟨fun j mem isQueued isNever => ?_, fun j hj => ?_, ?_, age'.trans age, ?_⟩
    · rcases List.mem_cons.mp mem with e | mem
      · subst e
        rw [others j new, fresh isQueued isNever]
      · rw [own j mem (by rw [queued j mem]; exact isQueued) (by rw [never j mem]; exact isNever), others' j mem, settle]
    · rw [List.mem_cons, not_or] at hj
      rw [others j hj.2, same j hj.1]
    · have filtered : (l.filter fun j => (u.railOf j).queued && u.neverFits j)
          = l.filter fun j => (s.railOf j).queued && s.neverFits j :=
        List.filter_congr fun j mem => by rw [queued j mem, never j mem]
      rw [notices, filtered, posted, List.filter_cons]
      split
      · rw [List.foldl_cons]
      · rfl
    · calc _ = { { t with slots := u.slots, directory := u.directory, notices := u.notices } with
                  slots := s.slots, directory := s.directory, notices := s.notices } := rfl
        _ = { u with slots := s.slots, directory := s.directory, notices := s.notices } := by rw [rest]
        _ = s := blocks

end

theorem State.neverFits_eq (s : State) (i : Slot) : s.neverFits i = classNeverFits i s.params s := by
  unfold State.neverFits classNeverFits State.classRow
  rw [Bool.decide_or]

section
variable {s : State} {p : Params} {c tag : Byte} {st : Status} {body : List Byte}

/-- A recheck under new parameters where every queued slot waits. -/
theorem State.refusesAlong_recheckQueue (waits : ∀ i, (s.railOf i).queued = true → WaitsForRamp i s) :
    (∀ i, i ∈ nowRefused p s → ({ s with params := p }.recheckQueue).slot i
        = (s.slot i).powerRefused { s with params := p }.longSettleUs)
      ∧ ({ s with params := p }.recheckQueue).notices = (nowRefused p s).foldl Notices.powerRefused s.notices
      ∧ ({ s with params := p }.recheckQueue).directory.ageTimer = s.directory.ageTimer
      ∧ { { s with params := p }.recheckQueue with
          slots := s.slots, params := s.params, directory := s.directory, notices := s.notices
          rail := { ({ s with params := p }.recheckQueue).rail with lastGranted := s.rail.lastGranted } } = s := by
  obtain ⟨own, -, notices, age, rest⟩ := State.refusesAlong_foldl nodup_allSlots { s with params := p } fun i _ => waits i
  have refused : nowRefused p s = allSlots.filter fun j =>
      (s.railOf j).queued && ({ s with params := p } : State).neverFits j :=
    List.filter_congr fun j _ => by rw [State.neverFits_eq { s with params := p } j]; rfl
  have evaluated := (allSlots.foldl State.recheckSlot { s with params := p }).arbitrate_grantedFrom
  unfold State.recheckQueue
  generalize allSlots.foldl State.recheckSlot { s with params := p } = u at own notices age rest evaluated
  have blocks := u.arbitrate_rest
  have posted : u.arbitrate.notices = u.notices := u.arbitrate_notices
  have timer : u.arbitrate.directory = u.directory := u.arbitrate_directory
  refine ⟨fun i mem => ?_, ?_, ?_, ?_⟩
  · have waiting := mem
    rw [refused, List.mem_filter, Bool.and_eq_true] at waiting
    obtain ⟨-, queued, never⟩ := waiting
    have first := own i (mem_allSlots i) queued never
    obtain ⟨-, -, -, -, left, -⟩ := SlotRecord.powerRefused_spec { s with params := p }.longSettleUs (waits i queued)
    rw [State.arbitrate_slot_of_not_queued (by rw [first]; exact left), first]
    rfl
  · rw [posted, notices, refused]
    rfl
  · rw [timer]
    exact age
  · generalize u.arbitrate = v at blocks
    calc _ = { { v with slots := u.slots, rail := { v.rail with lastGranted := u.rail.lastGranted } } with
                slots := s.slots, params := s.params, directory := s.directory, notices := s.notices
                rail := { v.rail with lastGranted := s.rail.lastGranted } } := rfl
      _ = { u with
            slots := s.slots, params := s.params, directory := s.directory, notices := s.notices
            rail := { u.rail with lastGranted := s.rail.lastGranted } } :=
          congrArg (fun x : State => { x with
            slots := s.slots, params := s.params, directory := s.directory, notices := s.notices
            rail := { x.rail with lastGranted := s.rail.lastGranted } }) blocks
      _ = { { s with params := p } with
            slots := s.slots, params := s.params, directory := s.directory, notices := s.notices
            rail := { s.rail with lastGranted := s.rail.lastGranted } } :=
          congrArg (fun x : State => { x with
            slots := s.slots, params := s.params, directory := s.directory, notices := s.notices
            rail := { x.rail with lastGranted := s.rail.lastGranted } }) rest
      _ = s := rfl

/-- The recheck under new parameters, as the answered request leaves it (R61). -/
theorem queueRechecked_reply : QueueRechecked s (({ s with params := p }.recheckQueue).reply c tag st body) := by
  obtain ⟨checked, fits, head⟩ := State.recheckQueue_spec { s with params := p }
  have params : ({ s with params := p }.recheckQueue).params = p := checked.params
  have refuses := State.refusesAlong_recheckQueue (s := s) (p := p)
  have never := fun i => State.neverFits_eq { s with params := p } i
  generalize { s with params := p }.recheckQueue = u at fits head params refuses
  refine ⟨fun i queued => ?_, head, fun waits => ?_⟩
  · change classNeverFits i u.params s = false
    rw [params]
    exact (never i).symm.trans (fits i queued)
  · obtain ⟨own, notices, age, rest⟩ := refuses waits
    change (∀ i, i ∈ nowRefused u.params s → _) ∧ u.notices = (nowRefused u.params s).foldl _ _ ∧ _
    rw [params]
    refine ⟨fun i mem => ?_, notices, age, ?_⟩
    · have waiting := mem
      unfold nowRefused at waiting
      rw [List.mem_filter, Bool.and_eq_true] at waiting
      have spec := SlotRecord.powerRefused_spec { s with params := p }.longSettleUs (waits i waiting.2.1)
      rw [← own i mem] at spec
      exact spec
    · exact congrArg (fun x : State => { x with link := s.link }) rest

end

end Sys2Proof.Machine

/-! SET PARAMETER: the parameters that are clamped, the rail thresholds, ARBITER_MODE and the class rows (R184). -/

namespace Sys2Proof.Machine

open Sys2Proof Sys2Proof.Safety

set_option Elab.async false

section
variable {s : State} {tag id : Byte} {v w : HWord} {p : ParamId} (on : s.safeOff = false)
include on

theorem exec_setParameter (one : isClassRowId id = false) (known : paramOf id = some p) :
    exec (.setParameter tag id v none) s = .next (s.setParam tag id p v.toNat 0) := by
  change Host.Outcome.next (requestSetParameter tag id v none s) = _
  unfold requestSetParameter
  rw [one, on, known]
  rfl

theorem exec_setClassRow (c : InrushClass) : exec (.setParameter tag (byteOf (0x18 + c.val)) v (some w)) s
    = .next (s.setClassRow tag (byteOf (0x18 + c.val)) c v.toNat w.toNat) := by
  have row : isClassRowId (byteOf (0x18 + c.val)) = true ∧ paramOf (byteOf (0x18 + c.val)) = some (.classRow c) := by
    revert c
    decide
  change Host.Outcome.next (requestSetParameter tag _ v (some w) s) = _
  unfold requestSetParameter
  rw [row.1, row.2, on]
  rfl

end

/-- A value is stored as requested just where it is in its range. -/
theorem clampTo_eq_iff {lo hi v : Nat} (h : lo ≤ hi) : clampTo lo hi v = v ↔ lo ≤ v ∧ v ≤ hi := by
  unfold clampTo
  omega

section
variable {s : State} {tag id : Byte} {v u : Nat}

/-- The answer to a parameter of one value. -/
theorem answers_paramTaken {t : State} (h : t.link = s.link) {within : Prop} [Decidable within] (fits : u = v ↔ within) :
    Answers s (t.paramTaken tag id [v] [u]) 0x04 tag (if within then .ok else .okClamped) (id :: be16 u) := by
  have status : (if [u] = [v] then Status.ok else .okClamped) = if within then .ok else .okClamped :=
    if_congr (by rw [List.cons.injEq, and_iff_left rfl, fits]) rfl rfl
  have body : paramBody id [u] = id :: be16 u := by
    unfold paramBody
    rw [List.flatMap_cons, List.flatMap_nil, List.append_nil]
  unfold State.paramTaken
  rw [status, body]
  exact congrArg (fun l : Link => l.take ⟨0x04, tag, if within then .ok else .okClamped, id :: be16 u, none⟩) h

end

/-- The parameters with a new value of one that a rule only clamps. -/
def ParamId.stored (p : ParamId) (u : Nat) (q : Params) : Params :=
  match p with
  | .makeFilter => { q with makeFilter := u }
  | .settleTime => { q with settleTime := u }
  | .maxAttempts => { q with maxAttempts := u }
  | .rampTimeout => { q with rampTimeout := u }
  | .dischargeTime => { q with dischargeTime := u }
  | .qualTimeout => { q with qualTimeout := u }
  | .qualRun => { q with qualRun := u }
  | .lockTolerance => { q with lockTolerance := u }
  | .refTimeout => { q with refTimeout := u }
  | .imageReserveIn => { q with imageReserveIn := u }
  | .imageReserveOut => { q with imageReserveOut := u }
  | .missLimit => { q with missLimit := u }
  | _ => q

/-- A new value of one parameter changes no other. -/
theorem ParamId.get_stored_ne {p r : ParamId} (u : Nat) (q : Params) (other : r ≠ p) : (p.stored u q).get r = q.get r := by
  cases p <;> cases r <;> first | rfl | exact absurd rfl other

/-- The parameters whose rule only clamps them: their id names them, their range is not empty, and what they store is read
back. -/
theorem ranged_spec {id : Byte} {p : ParamId} {lo hi : Nat} (mem : (id, p, lo, hi) ∈ rangedParameters) :
    isClassRowId id = false ∧ paramOf id = some p ∧ lo ≤ hi
      ∧ (∀ (s : State) (tag : Byte) (v w : Nat), s.setParam tag id p v w = s.setClamped tag id lo hi v p.stored)
      ∧ ∀ u q, (p.stored u q).get p = [u] := by
  simp only [rangedParameters, List.mem_cons, Prod.mk.injEq, List.not_mem_nil, or_false] at mem
  rcases mem with ⟨rfl, rfl, rfl, rfl⟩ | ⟨rfl, rfl, rfl, rfl⟩ | ⟨rfl, rfl, rfl, rfl⟩ | ⟨rfl, rfl, rfl, rfl⟩
    | ⟨rfl, rfl, rfl, rfl⟩ | ⟨rfl, rfl, rfl, rfl⟩ | ⟨rfl, rfl, rfl, rfl⟩ | ⟨rfl, rfl, rfl, rfl⟩ | ⟨rfl, rfl, rfl, rfl⟩
    | ⟨rfl, rfl, rfl, rfl⟩ | ⟨rfl, rfl, rfl, rfl⟩ | ⟨rfl, rfl, rfl, rfl⟩ <;>
  exact ⟨by decide, by decide, by decide, fun _ _ _ _ => rfl, fun _ _ => rfl⟩

section
variable {s : State} {tag : Byte} {v : HWord} (on : s.safeOff = false)
include on

theorem setParameter_ranged {id : Byte} {p : ParamId} {lo hi : Nat} (mem : (id, p, lo, hi) ∈ rangedParameters) :
    ∃ t, exec (.setParameter tag id v none) s = .next t
      ∧ t.params.get p = [max lo (min hi v.toNat)]
      ∧ (∀ q, q ≠ p → t.params.get q = s.params.get q)
      ∧ { t with params := s.params, link := s.link } = s
      ∧ Answers s t 0x04 tag (if lo ≤ v.toNat ∧ v.toNat ≤ hi then .ok else .okClamped)
          (id :: be16 (max lo (min hi v.toNat))) := by
  obtain ⟨one, known, range, clamped, back⟩ := ranged_spec mem
  have ran := (exec_setParameter (tag := tag) (v := v) on one known).trans (congrArg Host.Outcome.next (clamped s tag v.toNat 0))
  exact ⟨_, ran, back _ _, fun q other => ParamId.get_stored_ne _ _ other, rfl,
    answers_paramTaken (u := clampTo lo hi v.toNat) rfl (clampTo_eq_iff range)⟩

theorem setParameter_ageInterval : ∃ t, exec (.setParameter tag 0x30 v none) s = .next t
    ∧ t.params = { s.params with ageInterval := min 255 v.toNat }
    ∧ t.directory = { s.directory with
        ageTimer := if v.toNat = 0 then none else some (min 255 v.toNat * 60000000) }
    ∧ { t with params := s.params, directory := s.directory, link := s.link } = s
    ∧ Answers s t 0x04 tag (if v.toNat ≤ 255 then .ok else .okClamped) (0x30 :: be16 (min 255 v.toNat)) := by
  have ran := exec_setParameter (tag := tag) (v := v) on (show isClassRowId 0x30 = false by decide)
    (show paramOf 0x30 = some .ageInterval by decide)
  have least : min v.toNat 255 = min 255 v.toNat := Nat.min_comm _ _
  change _ = Host.Outcome.next (s.setAgeInterval tag 0x30 v.toNat) at ran
  unfold State.setAgeInterval at ran
  dsimp only at ran
  have timer : (if min 255 v.toNat = 0 then none else some (min 255 v.toNat * Config.usPerMinute))
      = if v.toNat = 0 then none else some (min 255 v.toNat * 60000000) := if_congr (by omega) rfl rfl
  rw [least, timer] at ran
  exact ⟨_, ran, rfl, rfl, rfl, answers_paramTaken (u := min 255 v.toNat) (within := v.toNat ≤ 255) rfl (by omega)⟩

end

/-! ## The rail thresholds and ARBITER_MODE (R74, R76) -/

/-- The state under new parameters and a new E, before the evaluation that follows. -/
def State.rebudgeted (s : State) (q : Params) (e : Nat) : State :=
  { s with params := q, rail := { s.rail with effective := e } }

section
variable {s : State} {tag id : Byte} {v : HWord} {q : Params} {e u : Nat} {within : Prop} [Decidable within]

/-- The evaluation that follows a change of the parameters and of E reaches slots of the ramp queue alone, and leaves no head
that could be granted. -/
theorem evaluated_rebudgeted {c : Instr} (fits : u = v.toNat ↔ within)
    (ran : exec c s = .next (((s.rebudgeted q e).arbitrate).paramTaken tag id [v.toNat] [u])) :
    ∃ t, exec c s = .next t ∧ t.params = q ∧ t.rail.effective = e
      ∧ OnlyParamsAndGrants s { t with rail := { t.rail with effective := s.rail.effective } }
      ∧ (∀ i rest, t.rampOrder = i :: rest → ¬ MayBeGranted i t)
      ∧ Answers s t 0x04 tag (if within then .ok else .okClamped) (id :: be16 u) := by
  have blocks := (s.rebudgeted q e).arbitrate_rest
  have slots : ∀ j, (s.railOf j).queued = false → (s.rebudgeted q e).arbitrate.slot j = s.slot j := fun j queued =>
    State.arbitrate_slot_of_not_queued (s := s.rebudgeted q e) queued
  have head := (s.rebudgeted q e).no_head_arbitrate
  generalize (s.rebudgeted q e).arbitrate = w at blocks slots head ran
  refine ⟨_, ran, (congrArg State.params blocks :), (congrArg (fun x : State => x.rail.effective) blocks :), ⟨slots, ?_⟩, head,
    answers_paramTaken (congrArg State.link blocks :) fits⟩
  exact congrArg (fun x : State => { x with
    slots := s.slots, params := s.params, link := s.link, rail := { x.rail with effective := s.rail.effective } }) blocks

theorem onlyParamsAndGrants_of_rebudgeted {t : State} (effective : t.rail.effective = s.rail.effective)
    (h : OnlyParamsAndGrants s { t with rail := { t.rail with effective := s.rail.effective } }) : OnlyParamsAndGrants s t := by
  rw [← effective] at h
  exact h

variable (on : s.safeOff = false)
include on

theorem setParameter_railFull :
    (max 10000 (min 30000 v.toNat) ≤ s.params.railFloorMv →
      ∃ t, exec (.setParameter tag 0x16 v none) s = .next t ∧ OnlyLink s t ∧ Answers s t 0x04 tag .badValue [])
    ∧ (s.params.railFloorMv < max 10000 (min 30000 v.toNat) →
      ∃ t, exec (.setParameter tag 0x16 v none) s = .next t
        ∧ t.params = { s.params with railFullMv := max 10000 (min 30000 v.toNat) }
        ∧ t.rail.effective = effectiveSteady s.params.steadyBudget s.rail.value (max 10000 (min 30000 v.toNat))
            s.params.railFloorMv
        ∧ OnlyParamsAndGrants s { t with rail := { t.rail with effective := s.rail.effective } }
        ∧ (∀ i rest, t.rampOrder = i :: rest → ¬ MayBeGranted i t)
        ∧ Answers s t 0x04 tag (if 10000 ≤ v.toNat ∧ v.toNat ≤ 30000 then .ok else .okClamped)
            (0x16 :: be16 (max 10000 (min 30000 v.toNat)))) := by
  have ran := exec_setParameter (tag := tag) (v := v) on (show isClassRowId 0x16 = false by decide)
    (show paramOf 0x16 = some .railFullMv by decide)
  change _ = Host.Outcome.next (s.setRailFull tag 0x16 v.toNat) at ran
  unfold State.setRailFull at ran
  refine ⟨fun low => ?_, fun above => ?_⟩
  · exact ⟨_, ran.trans (congrArg Host.Outcome.next (if_pos low)), rfl, rfl⟩
  · exact evaluated_rebudgeted (clampTo_eq_iff (by decide))
      (ran.trans (congrArg Host.Outcome.next (if_neg (Nat.not_le.mpr above))))

theorem setParameter_railFloor :
    (s.params.railFullMv ≤ max 10000 (min 30000 v.toNat) →
      ∃ t, exec (.setParameter tag 0x17 v none) s = .next t ∧ OnlyLink s t ∧ Answers s t 0x04 tag .badValue [])
    ∧ (max 10000 (min 30000 v.toNat) < s.params.railFullMv →
      ∃ t, exec (.setParameter tag 0x17 v none) s = .next t
        ∧ t.params = { s.params with railFloorMv := max 10000 (min 30000 v.toNat) }
        ∧ t.rail.effective = effectiveSteady s.params.steadyBudget s.rail.value s.params.railFullMv
            (max 10000 (min 30000 v.toNat))
        ∧ OnlyParamsAndGrants s { t with rail := { t.rail with effective := s.rail.effective } }
        ∧ (∀ i rest, t.rampOrder = i :: rest → ¬ MayBeGranted i t)
        ∧ Answers s t 0x04 tag (if 10000 ≤ v.toNat ∧ v.toNat ≤ 30000 then .ok else .okClamped)
            (0x17 :: be16 (max 10000 (min 30000 v.toNat)))) := by
  have ran := exec_setParameter (tag := tag) (v := v) on (show isClassRowId 0x17 = false by decide)
    (show paramOf 0x17 = some .railFloorMv by decide)
  change _ = Host.Outcome.next (s.setRailFloor tag 0x17 v.toNat) at ran
  unfold State.setRailFloor at ran
  refine ⟨fun high => ?_, fun below => ?_⟩
  · exact ⟨_, ran.trans (congrArg Host.Outcome.next (if_pos high)), rfl, rfl⟩
  · exact evaluated_rebudgeted (clampTo_eq_iff (by decide))
      (ran.trans (congrArg Host.Outcome.next (if_neg (Nat.not_le.mpr below))))

theorem setParameter_arbiterMode :
    (1 < v.toNat →
      ∃ t, exec (.setParameter tag 0x13 v none) s = .next t ∧ OnlyLink s t ∧ Answers s t 0x04 tag .badValue [])
    ∧ (v.toNat ≤ 1 →
      ∃ t, exec (.setParameter tag 0x13 v none) s = .next t
        ∧ t.params = { s.params with arbiterMode := if v.toNat = 0 then .fixed else .round }
        ∧ OnlyParamsAndGrants s t ∧ (∀ i rest, t.rampOrder = i :: rest → ¬ MayBeGranted i t)
        ∧ Answers s t 0x04 tag .ok (0x13 :: be16 v.toNat)) := by
  have ran := exec_setParameter (tag := tag) (v := v) on (show isClassRowId 0x13 = false by decide)
    (show paramOf 0x13 = some .arbiterMode by decide)
  change _ = Host.Outcome.next (s.setArbiterMode tag 0x13 v.toNat) at ran
  unfold State.setArbiterMode at ran
  refine ⟨fun high => ?_, fun low => ?_⟩
  · rw [if_neg (by omega), if_neg (by omega)] at ran
    exact ⟨_, ran, rfl, rfl⟩
  · have taken : exec (.setParameter tag 0x13 v none) s
        = .next (((s.rebudgeted { s.params with arbiterMode := if v.toNat = 0 then .fixed else .round }
          s.rail.effective).arbitrate).paramTaken tag 0x13 [v.toNat] [v.toNat]) := by
      rcases Nat.le_one_iff_eq_zero_or_eq_one.mp low with zero | one
      · rw [if_pos zero] at ran ⊢
        exact ran
      · rw [if_neg (by omega), if_pos one] at ran
        rw [if_neg (by omega)]
        exact ran
    obtain ⟨t, ran, params, effective, frame, head, answers⟩ := evaluated_rebudgeted (within := True) (by simp) taken
    exact ⟨t, ran, params, onlyParamsAndGrants_of_rebudgeted effective frame, head, answers⟩

/-! ## The class rows (R57, R61) -/

/-- A class row as it is stored: row 0 is held at 0 and 0. -/
def storedRow (c : InrushClass) (v w : Nat) : ClassRow := if c = 0 then ⟨0, 0⟩ else ⟨min 255 v, min 255 w⟩

omit on in
/-- The recheck that follows a change of the parameters, and what the request answers. -/
theorem rechecked_reply {c : Instr} {p : Params} {st : Status} {body : List Byte}
    (ran : exec c s = .next (({ s with params := p }.recheckQueue).reply 0x04 tag st body)) :
    ∃ t, exec c s = .next t ∧ t.params = p ∧ (∀ i, (s.railOf i).queued = false → t.slot i = s.slot i)
      ∧ ((∀ i, (s.railOf i).queued = false) → { t with params := s.params, link := s.link } = s)
      ∧ QueueRechecked s t ∧ Answers s t 0x04 tag st body := by
  have rechecked := queueRechecked_reply (s := s) (p := p) (c := 0x04) (tag := tag) (st := st) (body := body)
  obtain ⟨checked, -⟩ := State.recheckQueue_spec { s with params := p }
  have empty := State.recheckQueue_of_empty (s := { s with params := p })
  have link := (State.keeps_recheckQueue { s with params := p }).link
  generalize { s with params := p }.recheckQueue = u at ran rechecked checked empty link
  refine ⟨_, ran, checked.params, checked.out, fun queued => ?_, rechecked, ?_⟩
  · exact congrArg (fun x : State => { x with params := s.params, link := s.link }) (empty queued)
  · exact congrArg (fun l : Link => l.take ⟨0x04, tag, st, body, none⟩) link

theorem setParameter_classRow (c : InrushClass) (w : HWord) :
    ∃ t, exec (.setParameter tag (byteOf (0x18 + c.val)) v (some w)) s = .next t
      ∧ t.params = { s.params with classTable := s.params.classTable.set c (storedRow c v.toNat w.toNat) }
      ∧ (∀ i, (s.railOf i).queued = false → t.slot i = s.slot i)
      ∧ ((∀ i, (s.railOf i).queued = false) → { t with params := s.params, link := s.link } = s)
      ∧ QueueRechecked s t
      ∧ Answers s t 0x04 tag (if storedRow c v.toNat w.toNat = ⟨v.toNat, w.toNat⟩ then .ok else .okClamped)
          (byteOf (0x18 + c.val) :: be16 (storedRow c v.toNat w.toNat).inrush
            ++ be16 (storedRow c v.toNat w.toNat).provisional) := by
  have ran := exec_setClassRow (tag := tag) (v := v) (w := w) on c
  unfold State.setClassRow State.paramTaken at ran
  dsimp only at ran
  rw [Nat.min_comm v.toNat 255, Nat.min_comm w.toNat 255,
    show (if c = 0 then (⟨0, 0⟩ : ClassRow) else ⟨min 255 v.toNat, min 255 w.toNat⟩) = storedRow c v.toNat w.toNat from rfl]
    at ran
  generalize storedRow c v.toNat w.toNat = row at ran ⊢
  have status : (if [row.inrush, row.provisional] = [v.toNat, w.toNat] then Status.ok else .okClamped)
      = if row = ⟨v.toNat, w.toNat⟩ then .ok else .okClamped :=
    if_congr (by obtain ⟨x, y⟩ := row; simp) rfl rfl
  have body : paramBody (byteOf (0x18 + c.val)) [row.inrush, row.provisional]
      = byteOf (0x18 + c.val) :: be16 row.inrush ++ be16 row.provisional := by
    simp [paramBody]
  rw [status, body] at ran
  exact rechecked_reply ran

end

/-- Settles O15: the clamped parameters share one rule, and each of the others is followed by its evaluation or recheck. -/
theorem rangedParametersAreClamped : Obligations.RangedParametersAreClamped := by
  unfold Obligations.RangedParametersAreClamped
  intro tag v s on
  obtain ⟨fullLow, full⟩ := setParameter_railFull (tag := tag) (v := v) on
  obtain ⟨floorHigh, floor⟩ := setParameter_railFloor (tag := tag) (v := v) on
  obtain ⟨modeHigh, mode⟩ := setParameter_arbiterMode (tag := tag) (v := v) on
  exact ⟨fun _ _ _ _ mem => setParameter_ranged on mem, setParameter_ageInterval on, fullLow, full, floorHigh, floor, modeHigh,
    mode, setParameter_classRow on⟩

end Sys2Proof.Machine

/-! SET PARAMETER of the figures that are in use: the period and the fill, the budgets and RAMP_LIMIT (R61, R73, R74, R162). -/

namespace Sys2Proof.Machine

open Sys2Proof Sys2Proof.Safety

set_option Elab.async false

/-! ## The minimum period (R161) -/

/-- The minimum period is the least multiple of 50 from 250 on whose budget carries the load. -/
theorem minimumPeriod_least {load fill : Nat} (pos : 0 < fill) : minimumPeriod load fill % 50 = 0
    ∧ 250 ≤ minimumPeriod load fill ∧ load ≤ minimumPeriod load fill * 10 * fill
    ∧ ∀ p, p % 50 = 0 → 250 ≤ p → load ≤ p * 10 * fill → minimumPeriod load fill ≤ p := by
  have least : ∀ p, (load + (10 * fill - 1)) / (10 * fill) ≤ p ↔ load ≤ p * 10 * fill := fun p => by
    rw [Nat.div_le_iff_le_mul (by omega), Nat.mul_assoc]
    omega
  unfold minimumPeriod roundUp50
  generalize (load + (10 * fill - 1)) / (10 * fill) = m at least
  exact ⟨by omega, by omega, (least _).mp (by omega), fun p fifty low carries => by
    have := (least p).mpr carries
    omega⟩

section
variable {s : State} {tag : Byte} {v : HWord} (on : s.safeOff = false)
include on

theorem setParameter_cyclePeriod : ∃ t, exec (.setParameter tag 0x50 v none) s = .next t
    ∧ (s.load ≤ max 250 (min 20000 v.toNat) / 50 * 50 * 10 * s.params.fillPercent →
        t.params.cyclePeriod = max 250 (min 20000 v.toNat) / 50 * 50
          ∧ { t with params := { t.params with cyclePeriod := s.params.cyclePeriod }, link := s.link } = s
          ∧ Answers s t 0x04 tag (if max 250 (min 20000 v.toNat) / 50 * 50 = v.toNat then .ok else .okClamped)
              (0x50 :: be16 (max 250 (min 20000 v.toNat) / 50 * 50)))
    ∧ (max 250 (min 20000 v.toNat) / 50 * 50 * 10 * s.params.fillPercent < s.load →
        OnlyLink s t ∧ Answers s t 0x04 tag .tooShort (be16 (minimumPeriod s.load s.params.fillPercent))) := by
  have ran := exec_setParameter (tag := tag) (v := v) on (show isClassRowId 0x50 = false by decide)
    (show paramOf 0x50 = some .cyclePeriod by decide)
  change _ = Host.Outcome.next (s.setCyclePeriod tag 0x50 v.toNat) at ran
  unfold State.setCyclePeriod clampTo at ran
  dsimp only at ran
  by_cases short : max 250 (min 20000 v.toNat) / 50 * 50 * 10 * s.params.fillPercent < s.load
  · rw [if_pos short] at ran
    exact ⟨_, ran, fun carries => absurd short (Nat.not_lt.mpr carries), fun _ => ⟨rfl, rfl⟩⟩
  · rw [if_neg short] at ran
    exact ⟨_, ran, fun _ => ⟨rfl, rfl, answers_paramTaken rfl Iff.rfl⟩, fun h => absurd h short⟩

theorem setParameter_fillPercent : ∃ t, exec (.setParameter tag 0x51 v none) s = .next t
    ∧ (s.load ≤ s.params.cyclePeriod * 10 * max 50 (min 95 v.toNat) →
        t.params.fillPercent = max 50 (min 95 v.toNat)
          ∧ { t with params := { t.params with fillPercent := s.params.fillPercent }, link := s.link } = s
          ∧ Answers s t 0x04 tag (if max 50 (min 95 v.toNat) = v.toNat then .ok else .okClamped)
              (0x51 :: be16 (max 50 (min 95 v.toNat))))
    ∧ (s.params.cyclePeriod * 10 * max 50 (min 95 v.toNat) < s.load →
        OnlyLink s t
          ∧ Answers s t 0x04 tag .tooShort (be16 (minimumPeriod s.load (max 50 (min 95 v.toNat))))) := by
  have ran := exec_setParameter (tag := tag) (v := v) on (show isClassRowId 0x51 = false by decide)
    (show paramOf 0x51 = some .fillPercent by decide)
  change _ = Host.Outcome.next (s.setFillPercent tag 0x51 v.toNat) at ran
  unfold State.setFillPercent clampTo at ran
  dsimp only at ran
  by_cases short : s.params.cyclePeriod * 10 * max 50 (min 95 v.toNat) < s.load
  · rw [if_pos short] at ran
    exact ⟨_, ran, fun carries => absurd short (Nat.not_lt.mpr carries), fun _ => ⟨rfl, rfl⟩⟩
  · rw [if_neg short] at ran
    exact ⟨_, ran, fun _ => ⟨rfl, rfl, answers_paramTaken rfl Iff.rfl⟩, fun h => absurd h short⟩

end

/-! ## The budgets and RAMP_LIMIT (R61, R73, R74) -/

/-- A waiting card has been refused NO_POWER, with its attempts as they stood. -/
def PowerRefused (i : Slot) (s t : State) : Prop :=
  (t.ctx i).state = .refused ∧ (t.ctx i).verdict = some .noPower ∧ (t.railOf i).queued = false
    ∧ (t.ctx i).attempts = (s.ctx i).attempts

section
variable {s : State} {tag id : Byte} {v : HWord} {q : Params} {e u : Nat} {within : Prop} [Decidable within]

/-- The recheck that follows a change of the budgets: a waiting card whose class no longer fits is refused, whatever the other
slots do. -/
theorem rechecked_rebudgeted {c : Instr} (fits : u = v.toNat ↔ within)
    (ran : exec c s = .next (((s.rebudgeted q e).recheckQueue).paramTaken tag id [v.toNat] [u])) :
    ∃ t, exec c s = .next t ∧ t.params = q ∧ t.rail.effective = e
      ∧ (∀ i, (s.railOf i).queued = false → t.slot i = s.slot i)
      ∧ ((∀ i, (s.railOf i).queued = false) → { t with
          params := s.params, link := s.link, rail := { t.rail with effective := s.rail.effective } } = s)
      ∧ (∀ i, WaitsForRamp i s → (s.rebudgeted q e).neverFits i = true → (s.rebudgeted q e).Blocked i → PowerRefused i s t)
      ∧ Answers s t 0x04 tag (if within then .ok else .okClamped) (id :: be16 u) := by
  obtain ⟨checked, -⟩ := State.recheckQueue_spec (s.rebudgeted q e)
  have empty := State.recheckQueue_of_empty (s := s.rebudgeted q e)
  have link := (State.keeps_recheckQueue (s.rebudgeted q e)).link
  have refused := fun i => State.slot_recheckQueue_of_blocked (s := s.rebudgeted q e) (i := i)
  generalize (s.rebudgeted q e).recheckQueue = w at ran checked empty link refused
  refine ⟨_, ran, checked.params, checked.effective, checked.out, fun queued => ?_, fun i waits never blocked => ?_,
    answers_paramTaken link fits⟩
  · exact congrArg (fun x : State => { x with
      params := s.params, link := s.link, rail := { x.rail with effective := s.rail.effective } }) (empty queued)
  · have own : w.slot i = (s.slot i).powerRefused (s.rebudgeted q e).longSettleUs := refused i waits never blocked
    obtain ⟨state, verdict, -, attempts, queued, -⟩ := SlotRecord.powerRefused_spec (s.rebudgeted q e).longSettleUs waits
    rw [← own] at state verdict attempts queued
    exact ⟨state, verdict, queued, attempts⟩

variable (on : s.safeOff = false)
include on

theorem setParameter_inrushBudget :
    (min v.toNat 1023 < s.ci → ∃ t, exec (.setParameter tag 0x10 v none) s = .next t ∧ OnlyLink s t
      ∧ Answers s t 0x04 tag .inUse [])
    ∧ (s.ci ≤ min v.toNat 1023 → ∃ t, exec (.setParameter tag 0x10 v none) s = .next t
      ∧ t.params = { s.params with inrushBudget := min v.toNat 1023 }
      ∧ (∀ i, (s.railOf i).queued = false → t.slot i = s.slot i)
      ∧ ((∀ i, (s.railOf i).queued = false) → { t with params := s.params, link := s.link } = s)
      ∧ (∀ i, WaitsForRamp i s →
          min v.toNat 1023 < s.params.classTable[(s.ctx i).inrushClass.getD 0].inrush → PowerRefused i s t)
      ∧ Answers s t 0x04 tag (if v.toNat ≤ 1023 then .ok else .okClamped) (0x10 :: be16 (min v.toNat 1023))) := by
  have ran := exec_setParameter (tag := tag) (v := v) on (show isClassRowId 0x10 = false by decide)
    (show paramOf 0x10 = some .inrushBudget by decide)
  change _ = Host.Outcome.next (s.setInrushBudget tag 0x10 v.toNat) at ran
  unfold State.setInrushBudget at ran
  refine ⟨fun short => ?_, fun covered => ?_⟩
  · exact ⟨_, ran.trans (congrArg Host.Outcome.next (if_pos short)), rfl, rfl⟩
  · have taken := ran.trans (congrArg Host.Outcome.next (if_neg (Nat.not_lt.mpr covered)))
    obtain ⟨t, ran, params, effective, out, empty, refused, answers⟩ := rechecked_rebudgeted
      (q := { s.params with inrushBudget := min v.toNat 1023 }) (e := s.rail.effective) (within := v.toNat ≤ 1023) (by omega) taken
    refine ⟨t, ran, params, out, fun queued => ?_, fun i waits below => refused i waits ?_ (.inl below), answers⟩
    · have same := empty queued
      rw [← effective] at same
      exact same
    · exact Bool.or_eq_true_iff.mpr (.inl (decide_eq_true below))

theorem setParameter_steadyBudget :
    (min v.toNat 1023 < s.cs → ∃ t, exec (.setParameter tag 0x11 v none) s = .next t ∧ OnlyLink s t
      ∧ Answers s t 0x04 tag .inUse [])
    ∧ (s.cs ≤ min v.toNat 1023 → ∃ t, exec (.setParameter tag 0x11 v none) s = .next t
      ∧ t.params = { s.params with steadyBudget := min v.toNat 1023 }
      ∧ t.rail.effective = effectiveSteady (min v.toNat 1023) s.rail.value s.params.railFullMv s.params.railFloorMv
      ∧ (∀ i, (s.railOf i).queued = false → t.slot i = s.slot i)
      ∧ ((∀ i, (s.railOf i).queued = false) → { t with
          params := s.params, link := s.link, rail := { t.rail with effective := s.rail.effective } } = s)
      ∧ (∀ i, WaitsForRamp i s →
          min v.toNat 1023 < s.params.classTable[(s.ctx i).inrushClass.getD 0].provisional → PowerRefused i s t)
      ∧ Answers s t 0x04 tag (if v.toNat ≤ 1023 then .ok else .okClamped) (0x11 :: be16 (min v.toNat 1023))) := by
  have ran := exec_setParameter (tag := tag) (v := v) on (show isClassRowId 0x11 = false by decide)
    (show paramOf 0x11 = some .steadyBudget by decide)
  change _ = Host.Outcome.next (s.setSteadyBudget tag 0x11 v.toNat) at ran
  unfold State.setSteadyBudget at ran
  refine ⟨fun short => ?_, fun covered => ?_⟩
  · exact ⟨_, ran.trans (congrArg Host.Outcome.next (if_pos short)), rfl, rfl⟩
  · have taken := ran.trans (congrArg Host.Outcome.next (if_neg (Nat.not_lt.mpr covered)))
    obtain ⟨t, ran, params, effective, out, empty, refused, answers⟩ := rechecked_rebudgeted
      (q := { s.params with steadyBudget := min v.toNat 1023 })
      (e := effectiveSteady (min v.toNat 1023) s.rail.value s.params.railFullMv s.params.railFloorMv)
      (within := v.toNat ≤ 1023) (by omega) taken
    refine ⟨t, ran, params, effective, out, empty, fun i waits below => refused i waits ?_ (.inr ?_), answers⟩
    · exact Bool.or_eq_true_iff.mpr (.inr (decide_eq_true below))
    · exact Nat.lt_of_le_of_lt (effectiveSteady_le ..) below

theorem setParameter_rampLimit :
    (max 1 (min 4 v.toNat) < s.rampingCount → ∃ t, exec (.setParameter tag 0x12 v none) s = .next t
      ∧ OnlyLink s t ∧ Answers s t 0x04 tag .inUse [])
    ∧ (s.rampingCount ≤ max 1 (min 4 v.toNat) → ∃ t, exec (.setParameter tag 0x12 v none) s = .next t
      ∧ t.params = { s.params with rampLimit := max 1 (min 4 v.toNat) }
      ∧ OnlyParamsAndGrants s t ∧ (∀ i rest, t.rampOrder = i :: rest → ¬ MayBeGranted i t)
      ∧ Answers s t 0x04 tag (if 1 ≤ v.toNat ∧ v.toNat ≤ 4 then .ok else .okClamped)
          (0x12 :: be16 (max 1 (min 4 v.toNat)))) := by
  have ran := exec_setParameter (tag := tag) (v := v) on (show isClassRowId 0x12 = false by decide)
    (show paramOf 0x12 = some .rampLimit by decide)
  change _ = Host.Outcome.next (s.setRampLimit tag 0x12 v.toNat) at ran
  unfold State.setRampLimit at ran
  refine ⟨fun short => ?_, fun covered => ?_⟩
  · exact ⟨_, ran.trans (congrArg Host.Outcome.next (if_pos short)), rfl, rfl⟩
  · have taken := ran.trans (congrArg Host.Outcome.next (if_neg (Nat.not_lt.mpr covered)))
    obtain ⟨t, ran, params, effective, frame, head, answers⟩ := evaluated_rebudgeted
      (q := { s.params with rampLimit := max 1 (min 4 v.toNat) }) (e := s.rail.effective) (clampTo_eq_iff (by decide)) taken
    exact ⟨t, ran, params, onlyParamsAndGrants_of_rebudgeted effective frame, head, answers⟩

end

/-- Settles O16: each figure is one parameter's rule; a budget that is taken is followed by the recheck, and RAMP_LIMIT by the
evaluation. -/
theorem figuresInUseAreNotLowered : Obligations.FiguresInUseAreNotLowered := by
  unfold Obligations.FiguresInUseAreNotLowered
  refine ⟨fun _ _ => minimumPeriod_least, fun tag v s on => ?_⟩
  obtain ⟨inrushShort, inrush⟩ := setParameter_inrushBudget (tag := tag) (v := v) on
  obtain ⟨steadyShort, steady⟩ := setParameter_steadyBudget (tag := tag) (v := v) on
  obtain ⟨rampsShort, ramps⟩ := setParameter_rampLimit (tag := tag) (v := v) on
  refine ⟨setParameter_cyclePeriod on, setParameter_fillPercent on, inrushShort, fun covered => ?_, steadyShort,
    fun covered => ?_, rampsShort, ramps⟩
  · obtain ⟨t, ran, params, out, empty, refused, answers⟩ := inrush covered
    exact ⟨t, ran, params, out, empty, fun i queued state closed discharge roster policy seated below =>
      refused i ⟨queued, state, seated, policy, closed, discharge, roster⟩ below, answers⟩
  · obtain ⟨t, ran, params, effective, out, empty, refused, answers⟩ := steady covered
    exact ⟨t, ran, params, effective, out, empty, fun i queued state closed discharge roster policy seated below =>
      refused i ⟨queued, state, seated, policy, closed, discharge, roster⟩ below, answers⟩

end Sys2Proof.Machine

/-! The ends of a lane transaction: the lane's return to IDLE, and a read that fails (4.2, 4.3). -/

namespace Sys2Proof.Machine

open Sys2Proof Sys2Proof.Safety

set_option Elab.async false

/-! ## The opening of a transaction (R80) -/

theorem Lane.openFor_eq (l : Lane) (k : Slot) : l.openFor k = laneOpened k l := by
  obtain ⟨_, _, _, _, _, _, _, _, _, _, _, begun⟩ := l
  cases begun <;> rfl

theorem Lane.tryOpen_of_head {l : Lane} {k : Slot} {rest : List Slot} (queue : l.queue = k :: rest) (idle : l.state = .idle)
    (gap : l.retryGap = none) : l.tryOpen = laneOpened k l := by
  unfold Lane.tryOpen
  rw [queue]
  dsimp only
  rw [if_pos ⟨idle, gap⟩, Lane.openFor_eq]

theorem Lane.tryOpen_of_empty {l : Lane} (queue : l.queue = []) : l.tryOpen = l := by
  unfold Lane.tryOpen
  rw [queue]

theorem Lane.tryOpen_of_gap {l : Lane} (gap : l.retryGap ≠ none) : l.tryOpen = l := by
  rcases l.tryOpen_cases with ⟨_, _, -, -, none, -⟩ | ⟨-, e⟩
  · exact absurd none gap
  · exact e

/-- A second test of R80 opens nothing more. -/
theorem Lane.tryOpen_tryOpen (l : Lane) : l.tryOpen.tryOpen = l.tryOpen := by
  rcases l.tryOpen_cases with ⟨k, _, -, -, -, e⟩ | ⟨-, e⟩
  · rw [e]
    exact Lane.tryOpen_of_state (by rw [Lane.openFor_eq]; exact (by decide : LaneState.partBusy ≠ .idle))
  · rw [e, e]

/-- The lane as the obligations describe its return to IDLE. -/
theorem laneReturns_of_tryOpen {l : Lane} {t : State} (idle : l.state = .idle) (lane : t.lane = l.tryOpen) :
    LaneReturns l t := by
  refine ⟨fun waits => ?_, fun k more queue gap => ?_⟩
  · rcases waits with empty | gap
    · rw [lane, Lane.tryOpen_of_empty empty]
    · rw [lane, Lane.tryOpen_of_gap gap]
  · rw [lane, Lane.tryOpen_of_head queue idle gap]

theorem nextReadOpens_of_tryOpen {l : Lane} {rest : List Slot} {s t : State} (lane : t.lane = l.tryOpen) (idle : l.state = .idle)
    (queue : l.queue = rest) (gap : l.retryGap = s.lane.retryGap) (begun : l.readBegun = false) (open_ : l.transaction = none)
    (hold : l.holdTimer = none) (acknowledge : l.acknowledgeTimer = none) : NextReadOpens rest s t := by
  unfold NextReadOpens
  rw [lane]
  refine ⟨(Lane.tryOpen_queue l).trans queue, fun empty => ?_, fun noGap k more head => ?_⟩
  · rw [Lane.tryOpen_of_empty (queue.trans empty)]
    exact ⟨idle, open_, hold, acknowledge, begun⟩
  · rw [Lane.tryOpen_of_head (queue.trans head) idle (gap.trans noGap)]
    unfold laneOpened
    rw [begun]
    exact ⟨rfl, rfl, rfl, rfl, rfl, rfl⟩

/-! ## A read that fails (R87) -/

/-- A change of the lane alone, as a replacement that keeps one slot's record. -/
theorem State.setLane_eq_put (s : State) (i : Slot) (l : Lane) :
    { s with lane := l } = s.put i (s.slot i) { s.work with lane := l } :=
  congrArg (fun u : State => { u with lane := l }) (State.worked_of_fixed (s := s) (i := i) (f := fun _ => s.slot i) rfl).symm

/-- A slot that does not stand in the queue is not taken out of it. -/
theorem Lane.remove_of_notMem {l : Lane} {i : Slot} (absent : i ∉ l.queue) : l.remove i = l := by
  unfold Lane.remove
  split
  · rfl
  · rename_i h rest queue
    rw [queue, List.mem_cons, not_or] at absent
    have kept : rest.filter (· ≠ i) = rest :=
      List.filter_eq_self.mpr fun j mem => decide_eq_true fun e => absent.2 (e ▸ mem)
    rw [if_pos (Ne.symm absent.1), kept, ← queue]

section
variable {s : State} {i : Slot} {rest : List Slot} {l : Lane} {c : Cause}

/-- A read that ends in a soft fault of a powered card, after a change of the lane. -/
theorem reaches_failRead (queue : l.queue = i :: rest) (nodup : (i :: rest).Nodup) (state : (s.ctx i).state = .identifying)
    (closed : (s.railOf i).closed = true) (queued : (s.railOf i).queued = false) (out : s.inRoster i = false)
    (soft : c.hard = false) :
    State.Reaches i ((((s.slot i).faulted c).counted.begun .fault (softDestination i s)).openSwitch s.dischargeUs)
      { s.work.faulted i c with lane := l.dropHead.tryOpen } s (({ s with lane := l } : State).failRead i c) := by
  obtain ⟨new, -⟩ := List.nodup_cons.mp nodup
  have absent : i ∉ l.dropHead.queue := by
    change i ∉ l.queue.tail
    rw [queue]
    exact new
  have dropped : ({ s with lane := l } : State).modLane Lane.dropHead
      = s.put i (s.slot i) { s.work with lane := l.dropHead } := State.setLane_eq_put s i l.dropHead
  have target : (s.slot i).softDestination s.params.maxAttempts = softDestination i s := rfl
  have active : (s.slot i).ctx.state.active = true := by
    rw [← State.ctx_eq, state]
    rfl
  have down := (State.reaches_put (s := s) (i := i) (r := ((s.slot i).faulted c).counted)
    (w := { s.work with lane := l.dropHead }.faulted i c)).beginWithdrawal_closed (reason := .fault)
    (dest := softDestination i s) (data := []) false (skip_of_inRoster out) closed queued
  have work : ({ s.work with lane := l.dropHead }.faulted i c).begun i .fault [] ((s.slot i).faulted c).counted.ctx
      = { s.work.faulted i c with lane := (l.dropHead.remove i).tryOpen } := by
    unfold Work.begun
    rw [show ((s.slot i).faulted c).counted.ctx.state = .identifying from state, Notices.began_of_ne _ _ (by decide)]
    rfl
  rw [work, Lane.remove_of_notMem absent] at down
  have opened := down.modLane Lane.tryOpen
  dsimp only at opened
  rw [Lane.tryOpen_tryOpen] at opened
  unfold State.failRead
  rw [dropped, State.put_reportFault_soft active soft, target]
  exact opened

/-- The read of the head fails: the card is powered down, and the lane goes on without it. -/
theorem readFailed_of_head {p : LanePhase} (head : HeadIsRead i p rest s) (queue : l.queue = s.lane.queue)
    (soft : c.hard = false) : ReadFailed i s (({ s with lane := l } : State).failRead i c) c c.code
      ∧ (({ s with lane := l } : State).failRead i c).lane = l.dropHead.tryOpen := by
  obtain ⟨-, queue', nodup, state, closed, queued, out⟩ := head
  have reached := reaches_failRead (queue.trans queue') nodup state closed queued out soft
  refine ⟨⟨reached.onlySlotLaneAndGrants rfl rfl rfl, poweredDown_of_slot reached.own rfl rfl rfl rfl, ?_, ?_,
    reached.notices⟩, reached.lane⟩
  · rw [reached.ctx, SlotRecord.openSwitch, SlotRecord.begun_ctx]
    rfl
  · rw [reached.ctx, SlotRecord.openSwitch, SlotRecord.begun_ctx]
    rfl

end

/-! ## The timers of a transaction (R82, R83) -/

section
variable {s : State} {i : Slot} {p : LanePhase} {rest : List Slot}

theorem exec_acknowledgeTimerExpiry {o : Bool} (transaction : s.lane.transaction = some ⟨i, .start, o⟩) :
    exec .acknowledgeTimerExpiry s = .next (s.noAnswer ⟨i, .start, o⟩) := by
  change execAcknowledgeTimerExpiry s = _
  unfold execAcknowledgeTimerExpiry
  rw [transaction]

theorem exec_holdTimerExpiryTransaction {x : Transaction} (transaction : s.lane.transaction = some x) :
    exec .holdTimerExpiryTransaction s = .next (s.transactionTimeout x) := by
  change execHoldTimerExpiryTransaction s = _
  unfold execHoldTimerExpiryTransaction
  rw [transaction]

/-- The lane as a try of its transaction ends without an answer. -/
def Lane.unanswered (l : Lane) : Lane := { l.endTransaction .idle with tries := l.tries + 1 }

/-- The lane as a try of its transaction is cut off by the hold timer. -/
def Lane.timedOut (l : Lane) : Lane := { l.recover with tries := l.tries + 1 }

theorem noAnswer_of_few (few : s.lane.tries + 1 < 3) : s.noAnswer ⟨i, p, false⟩
    = { s with lane := { s.lane.unanswered with retryGap := some 5000 } } := if_pos few

theorem noAnswer_of_many (many : 3 ≤ s.lane.tries + 1) : s.noAnswer ⟨i, p, false⟩
    = ({ s with lane := s.lane.unanswered } : State).failRead i .idNoAnswer := if_neg (Nat.not_lt.mpr many)

theorem transactionTimeout_of_few (few : s.lane.tries + 1 < 3) : s.transactionTimeout ⟨i, p, false⟩
    = { s with lane := s.lane.timedOut } := if_pos few

theorem transactionTimeout_of_many (many : 3 ≤ s.lane.tries + 1) : s.transactionTimeout ⟨i, p, false⟩
    = ({ s with lane := s.lane.timedOut } : State).failRead i .idTimeout := if_neg (Nat.not_lt.mpr many)

theorem acknowledge_fails (head : HeadIsRead i .start rest s) (many : 3 ≤ s.lane.tries + 1) :
    ∃ t, exec .acknowledgeTimerExpiry s = .next t ∧ ReadFailed i s t .idNoAnswer 1 ∧ NextReadOpens rest s t := by
  have queue : s.lane.queue = i :: rest := head.2.1
  obtain ⟨failed, lane⟩ := readFailed_of_head (l := s.lane.unanswered) (c := .idNoAnswer) head rfl rfl
  have ran := exec_acknowledgeTimerExpiry head.1
  rw [noAnswer_of_many many] at ran
  exact ⟨_, ran, failed, nextReadOpens_of_tryOpen lane rfl (congrArg List.tail queue) rfl rfl rfl rfl rfl⟩

theorem hold_fails (head : HeadIsRead i p rest s) (many : 3 ≤ s.lane.tries + 1) :
    ∃ t, exec .holdTimerExpiryTransaction s = .next t ∧ ReadFailed i s t .idTimeout 2
      ∧ t.lane = { s.lane with
          state := .recovering, transaction := none, holdTimer := none, acknowledgeTimer := none
          recoveryTimer := some 1000, tries := s.lane.tries + 1, queue := rest, readBegun := false } := by
  have queue : s.lane.queue = i :: rest := head.2.1
  obtain ⟨failed, lane⟩ := readFailed_of_head (l := s.lane.timedOut) (c := .idTimeout) head rfl rfl
  have ran := exec_holdTimerExpiryTransaction head.1
  rw [transactionTimeout_of_many many] at ran
  rw [Lane.tryOpen_of_state (by exact (by decide : LaneState.recovering ≠ .idle))] at lane
  refine ⟨_, ran, failed, lane.trans ?_⟩
  unfold Lane.dropHead
  rw [show s.lane.timedOut.queue.tail = rest from congrArg List.tail queue]
  rfl

/-! ## The recovery and the retry gap (R82, R83) -/

theorem exec_recoveryTimerExpiry (state : s.lane.state = .recovering) :
    exec .recoveryTimerExpiry s = .next { s with lane := s.lane.endRecovery.tryOpen } :=
  congrArg Host.Outcome.next (if_pos state)

theorem exec_retryGapExpiry {us : Nat} (gap : s.lane.retryGap = some us) :
    exec .retryGapExpiry s = .next { s with lane := { s.lane with retryGap := none }.tryOpen } :=
  congrArg Host.Outcome.next (if_pos (by rw [gap]; rfl))

theorem laneOpened_counters (k : Slot) (l : Lane) :
    (l.readBegun = true → (laneOpened k l).tries = l.tries ∧ (laneOpened k l).lost = l.lost
        ∧ (laneOpened k l).checkUsed = l.checkUsed)
    ∧ (l.readBegun = false → (laneOpened k l).tries = 0 ∧ (laneOpened k l).lost = 0
        ∧ (laneOpened k l).checkUsed = false) := by
  unfold laneOpened
  refine ⟨fun begun => ?_, fun fresh => ?_⟩
  · rw [begun]
    exact ⟨rfl, rfl, rfl⟩
  · rw [fresh]
    exact ⟨rfl, rfl, rfl⟩

theorem recovery_ends (state : s.lane.state = .recovering) : ∃ t, exec .recoveryTimerExpiry s = .next t ∧ OnlyLane s t
    ∧ t.lane.recoveryTimer = none ∧ t.lane.queue = s.lane.queue ∧ t.lane.retryGap = s.lane.retryGap
    ∧ (s.lane.queue = [] ∨ s.lane.retryGap ≠ none →
        t.lane.state = .idle ∧ t.lane.transaction = s.lane.transaction)
    ∧ (∀ rest, s.lane.queue = i :: rest → s.lane.retryGap = none →
        t.lane.state = .partBusy ∧ t.lane.transaction = some ⟨i, .start, false⟩ ∧ t.lane.holdTimer = some 25000
          ∧ t.lane.acknowledgeTimer = some 1000
          ∧ (s.lane.readBegun = true → t.lane.tries = s.lane.tries ∧ t.lane.lost = s.lane.lost
              ∧ t.lane.checkUsed = s.lane.checkUsed)
          ∧ (s.lane.readBegun = false → t.lane.tries = 0 ∧ t.lane.lost = 0 ∧ t.lane.checkUsed = false)) := by
  have kept : s.lane.endRecovery.tryOpen.recoveryTimer = none ∧ s.lane.endRecovery.tryOpen.retryGap = s.lane.retryGap := by
    rcases s.lane.endRecovery.tryOpen_cases with ⟨k, _, -, -, -, e⟩ | ⟨-, e⟩
    · rw [e, Lane.openFor_eq]
      exact ⟨rfl, rfl⟩
    · rw [e]
      exact ⟨rfl, rfl⟩
  refine ⟨_, exec_recoveryTimerExpiry state, rfl, kept.1, Lane.tryOpen_queue _, kept.2, fun waits => ?_, fun rest queue gap => ?_⟩
  · have same : s.lane.endRecovery.tryOpen = s.lane.endRecovery :=
      waits.elim (Lane.tryOpen_of_empty (l := s.lane.endRecovery)) (Lane.tryOpen_of_gap (l := s.lane.endRecovery))
    dsimp only
    rw [same]
    exact ⟨rfl, rfl⟩
  · have opened : s.lane.endRecovery.tryOpen = laneOpened i s.lane.endRecovery := Lane.tryOpen_of_head queue rfl gap
    dsimp only
    rw [opened]
    exact ⟨rfl, rfl, rfl, rfl, laneOpened_counters i s.lane.endRecovery⟩

theorem gap_ends {us : Nat} (gap : s.lane.retryGap = some us) : ∃ t, exec .retryGapExpiry s = .next t ∧ OnlyLane s t
    ∧ t.lane.retryGap = none ∧ t.lane.queue = s.lane.queue
    ∧ (s.lane.state ≠ .idle → t.lane = { s.lane with retryGap := none })
    ∧ (∀ rest, s.lane.queue = i :: rest → s.lane.state = .idle →
        t.lane.state = .partBusy ∧ t.lane.transaction = some ⟨i, .start, false⟩ ∧ t.lane.holdTimer = some 25000) := by
  refine ⟨_, exec_retryGapExpiry gap, rfl, ?_, Lane.tryOpen_queue _, fun busy => Lane.tryOpen_of_state busy,
    fun rest queue idle => ?_⟩
  · rcases ({ s.lane with retryGap := none } : Lane).tryOpen_cases with ⟨k, _, -, -, -, e⟩ | ⟨-, e⟩
    · dsimp only
      rw [e, Lane.openFor_eq]
      rfl
    · dsimp only
      rw [e]
  · have opened : ({ s.lane with retryGap := none } : Lane).tryOpen = laneOpened i { s.lane with retryGap := none } :=
      Lane.tryOpen_of_head queue idle rfl
    dsimp only
    rw [opened]
    exact ⟨rfl, rfl, rfl⟩

end

/-- Settles O46: each event ends, opens or cuts off a transaction in the lane alone, but for a read that fails, which powers its
card down and leaves the lane to the next head. -/
theorem laneTransactionsEndAndRetry : Obligations.LaneTransactionsEndAndRetry := by
  unfold Obligations.LaneTransactionsEndAndRetry
  intro i p us s
  refine ⟨fun o transaction => ?_, fun transaction few => ?_, fun rest head many => acknowledge_fails head many,
    fun transaction => ?_, fun transaction few => ?_, fun rest head many => hold_fails head many, fun transaction => ?_,
    recovery_ends, gap_ends, fun state o transaction k => ?_, fun state k => ?_, fun state => ?_, fun state => ?_⟩
  · change execCardAcknowledge s = _
    unfold execCardAcknowledge
    rw [transaction]
    rfl
  · rw [exec_acknowledgeTimerExpiry transaction, noAnswer_of_few few]
    rfl
  · exact ⟨_, exec_acknowledgeTimerExpiry transaction, rfl, laneReturns_of_tryOpen rfl rfl⟩
  · rw [exec_holdTimerExpiryTransaction transaction, transactionTimeout_of_few few]
    rfl
  · rw [exec_holdTimerExpiryTransaction transaction]
    rfl
  · unfold State.selLine
    rw [state, transaction]
    exact decide_eq_decide.mpr ⟨Eq.symm, Eq.symm⟩
  · unfold State.selLine
    rw [beq_eq_false_iff_ne.mpr state]
    rfl
  · unfold State.lckLine State.ldaLine
    rw [state]
    exact ⟨rfl, rfl⟩
  · unfold State.lckLine State.ldaLine
    rw [state]
    exact ⟨rfl, rfl⟩

end Sys2Proof.Machine

/-! Card messages: what takes the lane for one, and what its end makes of it (R84, R87, R90 to R92). -/

namespace Sys2Proof.Machine

open Sys2Proof Sys2Proof.Safety

set_option Elab.async false

section
variable {s : State} {i : Slot} {p : LanePhase} {rest : List Slot}

/-! ## The beginning of a message (R84, R90) -/

theorem exec_cardMessageBegin_idle (idle : s.lane.state = .idle) :
    exec .cardMessageBegin s = .next { s with lane := s.lane.beginMessage } := by
  change execCardMessageBegin s = _
  unfold execCardMessageBegin
  rw [idle]
  rfl

theorem exec_cardMessageBegin_start (busy : s.lane.state = .partBusy) (transaction : s.lane.transaction = some ⟨i, .start, false⟩) :
    exec .cardMessageBegin s = .next (s.transactionLost ⟨i, .start, false⟩) := by
  change execCardMessageBegin s = _
  unfold execCardMessageBegin
  rw [busy, transaction]

/-- A message is not received while the lane recovers or receives another. -/
theorem exec_cardMessageBegin_other (other : s.lane.state = .recovering ∨ s.lane.state = .cardBusy) :
    exec .cardMessageBegin s = .next s := by
  change execCardMessageBegin s = _
  unfold execCardMessageBegin
  rcases other with other | other <;> rw [other]

/-- The lane as a message spoils a transaction. -/
def Lane.spoiled (l : Lane) : Lane := { l.beginMessage with lost := l.lost + 1 }

theorem transactionLost_of_few (few : s.lane.lost + 1 < 8) : s.transactionLost ⟨i, p, false⟩
    = { s with lane := s.lane.spoiled } := if_pos few

theorem transactionLost_of_many (many : 8 ≤ s.lane.lost + 1) : s.transactionLost ⟨i, p, false⟩
    = ({ s with lane := s.lane.spoiled } : State).failRead i .laneBusy := if_neg (Nat.not_lt.mpr many)

theorem message_fails (busy : s.lane.state = .partBusy) (head : HeadIsRead i .start rest s) (many : 8 ≤ s.lane.lost + 1) :
    ∃ t, exec .cardMessageBegin s = .next t ∧ ReadFailed i s t .laneBusy 3
      ∧ t.lane = { s.lane with
          state := .cardBusy, transaction := none, acknowledgeTimer := none, holdTimer := some 25000
          message := some [], lost := s.lane.lost + 1, queue := rest, readBegun := false } := by
  have queue : s.lane.queue = i :: rest := head.2.1
  obtain ⟨failed, lane⟩ := readFailed_of_head (l := s.lane.spoiled) (c := .laneBusy) head rfl rfl
  have ran := exec_cardMessageBegin_start busy head.1
  rw [transactionLost_of_many many] at ran
  rw [Lane.tryOpen_of_state (by exact (by decide : LaneState.cardBusy ≠ .idle))] at lane
  refine ⟨_, ran, failed, lane.trans ?_⟩
  unfold Lane.dropHead
  rw [show s.lane.spoiled.queue.tail = rest from congrArg List.tail queue]
  rfl

/-! ## The end of a message (R90, R91) -/

variable {sender length : Byte} {data : List Byte} {check : HWord}

/-- A message that ends on a lane with nobody waiting is judged. -/
theorem exec_cardMessageEnd (busy : s.lane.state = .cardBusy) (empty : s.lane.queue = []) :
    exec (.cardMessageEnd sender length data check) s
      = .next (({ s with lane := s.lane.endMessage } : State).judgeMessage sender length data check) := by
  have ran : exec (.cardMessageEnd sender length data check) s = .next
      (({ s with lane := s.lane.endMessage } : State).judgeMessage sender length data check).tryOpen :=
    congrArg Host.Outcome.next (if_pos busy)
  have lane : (({ s with lane := s.lane.endMessage } : State).judgeMessage sender length data check).lane
      = s.lane.endMessage := by
    unfold State.judgeMessage
    split <;> rfl
  generalize ({ s with lane := s.lane.endMessage } : State).judgeMessage sender length data check = t at ran lane
  have same : t.tryOpen = t := by
    have kept : t.lane.tryOpen = t.lane := Lane.tryOpen_of_empty (by rw [lane]; exact empty)
    unfold State.tryOpen State.modLane
    rw [kept]
  rw [ran, same]

theorem messageSender_of_good {j : Slot} (state : (s.ctx j).state = .online) (few : 1 ≤ data.length) (most : data.length ≤ 8) :
    s.messageSender (byteOf j.val) (byteOf data.length) data
      (crc16 (byteOf j.val :: byteOf data.length :: data)) = some j := by
  have length : (byteOf data.length).toNat = data.length := by
    unfold byteOf
    rw [BitVec.toNat_ofNat]
    omega
  unfold State.messageSender
  rw [length, slotOf_byteOf, if_neg]
  · dsimp only
    rw [if_pos state]
  · rintro (h | h | h | h)
    · omega
    · omega
    · exact h rfl
    · exact h rfl

theorem messageSender_of_bad {j : Slot} (bad : length.toNat = 0 ∨ 8 < length.toNat ∨ check ≠ crc16 (sender :: length :: data)
    ∨ 11 < sender.toNat ∨ (sender = byteOf j.val ∧ (s.ctx j).state ≠ .online)) :
    s.messageSender sender length data check = none := by
  unfold State.messageSender
  split
  · rfl
  · rename_i good
    rw [not_or, not_or, not_or, not_not, not_not] at good
    obtain ⟨some_, few, -, agrees⟩ := good
    rcases bad with h | h | h | h | ⟨h, state⟩
    · exact absurd h some_
    · exact absurd h few
    · exact absurd agrees.symm h
    · have unknown : slotOf sender = none := dif_neg (by omega)
      rw [unknown]
    · rw [h, slotOf_byteOf]
      exact if_neg state

end

/-- Settles O47: a message takes the lane or not by the lane's state, and its end posts it where the sender's slot is found
ONLINE. -/
theorem cardMessagesAreJudgedAtTheirEnd : Obligations.CardMessagesAreJudgedAtTheirEnd := by
  unfold Obligations.CardMessagesAreJudgedAtTheirEnd
  intro i j s
  refine ⟨fun idle => ?_, fun busy transaction few => ?_, fun rest busy head many => message_fails busy head many,
    exec_cardMessageBegin_other, fun sender length data check busy empty => ⟨?_, fun bad => ?_⟩, fun busy => ?_⟩
  · exact ⟨_, exec_cardMessageBegin_idle idle, rfl, rfl, rfl, rfl, rfl, rfl, rfl, rfl⟩
  · have ran := exec_cardMessageBegin_start busy transaction
    rw [transactionLost_of_few few] at ran
    exact ⟨_, ran, rfl, rfl, rfl, rfl, rfl, rfl, rfl, rfl, fun _ => rfl⟩
  · rintro rfl state few most rfl rfl
    rw [exec_cardMessageEnd busy empty]
    unfold State.judgeMessage
    rw [messageSender_of_good (s := { s with lane := s.lane.endMessage }) state few most]
    rfl
  · rw [exec_cardMessageEnd busy empty]
    unfold State.judgeMessage
    rw [messageSender_of_bad (s := { s with lane := s.lane.endMessage }) bad]
    rfl
  · exact ⟨_, congrArg Host.Outcome.next (if_pos busy), rfl, rfl, rfl, rfl, rfl, rfl, rfl⟩

end Sys2Proof.Machine

/-! Two evaluations beside one slot, and the directory's entry that an identity completion writes (R64, R113, R124). -/

namespace Sys2Proof.Machine

open Sys2Proof Sys2Proof.Safety

set_option Elab.async false

/-! ## An evaluation does not read the record of a slot outside the queue beyond its figures -/

/-- Two states that an evaluation cannot tell apart but by the record of a slot outside the ramp queue. -/
structure State.Beside (i : Slot) (u v : State) : Prop where
  others : ∀ j, j ≠ i → v.slot j = u.slot j
  inrush : (v.ctx i).inrushCommitted = (u.ctx i).inrushCommitted
  steady : (v.ctx i).steadyCommitted = (u.ctx i).steadyCommitted
  ramping : (v.ctx i).state = .ramping ↔ (u.ctx i).state = .ramping
  queued : (u.railOf i).queued = false
  queued' : (v.railOf i).queued = false
  params : v.params = u.params
  rail : v.rail = u.rail
  clock : v.clock = u.clock

section
variable {i j : Slot} {u v : State}

/-- A figure that the two records of the slot share has one sum. -/
theorem State.Beside.total (h : Beside i u v) {f : SlotRecord → Nat} (own : f (v.slot i) = f (u.slot i)) :
    v.total f = u.total f := State.total_congr fun j => by
  by_cases e : j = i
  · rw [e, own]
  · rw [h.others j e]

theorem State.Beside.slotsWith (h : Beside i u v) {p : SlotRecord → Bool} (own : p (v.slot i) = p (u.slot i)) :
    v.slotsWith p = u.slotsWith p := List.filter_congr fun j _ => by
  by_cases e : j = i
  · rw [e, own]
  · rw [h.others j e]

theorem State.Beside.rampOrder (h : Beside i u v) : v.rampOrder = u.rampOrder := by
  have out : (v.slot i).rail.queued = (u.slot i).rail.queued := h.queued'.trans h.queued.symm
  unfold State.rampOrder
  rw [h.params, h.rail]
  split
  · refine List.flatMap_congr fun p _ => h.slotsWith ?_
    rw [← State.railOf_eq, ← State.railOf_eq, h.queued, h.queued', Bool.false_and, Bool.false_and]
  · refine List.filter_congr fun j _ => ?_
    by_cases e : j = i
    · rw [e]
      exact out
    · rw [State.railOf_eq, State.railOf_eq, h.others j e]

theorem State.Beside.classRow (h : Beside i u v) (ne : j ≠ i) : v.classRow j = u.classRow j := by
  simp only [State.classRow, State.ctx_eq, h.others j ne, h.params]

theorem State.Beside.grantFits (h : Beside i u v) (ne : j ≠ i) : v.grantFits j = u.grantFits j := by
  have ci : v.ci = u.ci := h.total h.inrush
  have cs : v.cs = u.cs := h.total h.steady
  have count : v.rampingCount = u.rampingCount :=
    congrArg List.length (h.slotsWith (p := fun r => decide (r.ctx.state = .ramping)) (decide_eq_decide.mpr h.ramping))
  unfold State.grantFits
  rw [h.classRow ne, ci, cs, count, h.params, h.rail, h.clock]

theorem State.Beside.grant (h : Beside i u v) (ne : j ≠ i) : Beside i (u.grant j) (v.grant j) := by
  have own : ∀ w : State, (w.grant j).slot i = w.slot i := fun w => w.slot_grant_ne (Ne.symm ne)
  have ctx : ∀ w : State, (w.grant j).ctx i = w.ctx i := fun w => congrArg SlotRecord.ctx (own w)
  have rails : ∀ w : State, (w.grant j).railOf i = w.railOf i := fun w => congrArg SlotRecord.rail (own w)
  have rampUs : v.rampUs = u.rampUs := by rw [State.rampUs, h.params, State.rampUs]
  refine ⟨fun k hk => ?_, ?_, ?_, ?_, ?_, ?_, h.params, ?_, h.clock⟩
  · by_cases e : k = j
    · rw [e, State.slot_grant_self, State.slot_grant_self, h.classRow ne, rampUs, h.others j ne]
    · rw [State.slot_grant_ne _ e, State.slot_grant_ne _ e, h.others k hk]
  · rw [ctx, ctx, h.inrush]
  · rw [ctx, ctx, h.steady]
  · rw [ctx, ctx, h.ramping]
  · rw [rails]
    exact h.queued
  · rw [rails]
    exact h.queued'
  · exact congrArg (fun r : Rail => { r with lastGranted := j }) h.rail

theorem State.Beside.arbitrateSteps (n : Nat) : ∀ {u v : State}, Beside i u v →
    Beside i (State.arbitrateSteps n u) (State.arbitrateSteps n v) := by
  induction n with
  | zero => exact fun h => h
  | succ n ih =>
    intro u v h
    unfold State.arbitrateSteps
    rw [h.rampOrder]
    split
    · exact h
    · rename_i k rest head
      have ne : k ≠ i := fun e => Bool.false_ne_true
        ((e ▸ h.queued).symm.trans (State.queued_of_mem_rampOrder (s := u) (by rw [head]; exact List.mem_cons_self)))
      rw [h.grantFits ne]
      split
      · exact ih (h.grant ne)
      · exact h

theorem State.Beside.arbitrate (h : Beside i u v) : Beside i u.arbitrate v.arbitrate := h.arbitrateSteps 12

end

/-! ## One entry of the directory -/

/-- The directory with one entry written. -/
def Directory.write (d : Directory) (k : EntryIndex) (e : Entry) : Directory := { d with entries := d.entries.set k e }

section
variable {s t : State} {i : Slot} {q : SlotRecord} {w : Work} {d : Directory} {k : EntryIndex} {e : Entry}

theorem Directory.write_write (e' : Entry) : (d.write k e).write k e' = d.write k e' := by
  unfold Directory.write
  dsimp only
  rw [Vector.set_set]

theorem Directory.getElem_write_self : (d.write k e).entries[k] = e := Vector.getElem_set_self _

theorem onlyEntry_of_write (h : t.directory = s.directory.write k e) : OnlyEntry k e s t := by
  have entry : ∀ j, t.entry j = (s.directory.write k e).entries[j] := fun j => by rw [State.entry, h]
  refine ⟨(entry k).trans Directory.getElem_write_self, fun j hj => (entry j).trans ?_, by rw [h]; rfl⟩
  exact Vector.getElem_set_ne k.isLt j.isLt fun same => hj (Fin.ext same.symm)

theorem State.put_modEntry (f : Entry → Entry) : (s.put i q w).modEntry k f
    = s.put i q { w with directory := w.directory.write k (f w.directory.entries[k]) } := rfl

/-- A match that is stored for a slot without one. -/
theorem State.put_storeMatch (unmatched : q.ctx.matched = none) : (s.put i q w).storeMatch i k
    = s.put i { q with ctx := { q.ctx with matched := some k } }
      { w with directory := w.directory.write k { w.directory.entries[k] with users := w.directory.entries[k].users + 1 } } := by
  have same : (s.put i q w).dropMatch i = s.put i q w := by
    unfold State.dropMatch
    rw [State.ctx_put_self, unmatched]
  unfold State.storeMatch
  dsimp only
  rw [same, State.put_modEntry, State.modCtx_eq, State.put_modSlot]

theorem State.put_dropMatch : (s.put i q w).dropMatch i
    = s.put i q.unmatched { w with directory := w.directory.unuse q.ctx.matched } := by
  rw [State.dropMatch_eq, State.put_worked, State.ctx_put_self]
  rfl

/-- An entry that gains a user and loses it again. -/
theorem Directory.unuse_write_users (body : Option EntryBody) (n : Nat) :
    (d.write k ⟨body, n + 1⟩).unuse (some k) = d.write k ⟨body, n⟩ := by
  have same : (d.write k ⟨body, n + 1⟩).entries[k] = ⟨body, n + 1⟩ := Directory.getElem_write_self
  unfold Directory.unuse
  dsimp only
  rw [same]
  exact Directory.write_write _

end

/-! ## The lookup (R123) -/

section
variable {s : State} {i : Slot} {d : Identity}

theorem lookupEntry_spec (k : EntryIndex) : (KeyAt (.placed d.vendor d.kind i) k s → s.lookupEntry i d = some k)
    ∧ (KeyNowhere (.placed d.vendor d.kind i) s →
      (KeyAt (.exact d.vendor d.kind d.revision) k s → s.lookupEntry i d = some k)
      ∧ (KeyNowhere (.exact d.vendor d.kind d.revision) s →
        (KeyAt (.kind d.vendor d.kind) k s → s.lookupEntry i d = some k)
        ∧ (KeyNowhere (.kind d.vendor d.kind) s →
          (KeyAt (.vendor d.vendor) k s → s.lookupEntry i d = some k)
          ∧ (KeyNowhere (.vendor d.vendor) s → s.lookupEntry i d = none)))) := by
  have found : ∀ {key : EntryKey}, KeyAt key k s → s.findKey key = some k := fun h => State.findKey_eq_some h.1 h.2
  have missing : ∀ {key : EntryKey}, KeyNowhere key s → s.findKey key = none := fun h => State.findKey_eq_none h
  unfold State.lookupEntry
  refine ⟨fun h => by rw [found h, Option.some_or], fun none₁ => ⟨fun h => ?_, fun none₂ => ⟨fun h => ?_, fun none₃ =>
    ⟨fun h => ?_, fun none₄ => ?_⟩⟩⟩⟩
  · rw [missing none₁, found h, Option.none_or, Option.some_or]
  · rw [missing none₁, missing none₂, found h, Option.none_or, Option.none_or, Option.some_or]
  · rw [missing none₁, missing none₂, missing none₃, found h, Option.none_or, Option.none_or, Option.none_or]
  · rw [missing none₁, missing none₂, missing none₃, missing none₄, Option.none_or, Option.none_or, Option.none_or]

end

end Sys2Proof.Machine

/-! The refusal of a card: what its withdrawal reaches, with its switch closed and open (R29, R34, R128). -/

namespace Sys2Proof.Machine

open Sys2Proof Sys2Proof.Safety

set_option Elab.async false

section
variable {s t : State} {i : Slot} {q : SlotRecord} {v : Verdict} {data : List Byte}

/-- A record whose withdrawal has begun and ended keeps its switch, its timers and its place outside the queue. -/
theorem SlotRecord.withdrawn_begun_rail {reason : Reason} {dest : Destination} (us : Nat) (queued : q.rail.queued = false) :
    ((q.begun reason dest).unmatched.withdrawn us).rail = q.rail := by
  unfold SlotRecord.withdrawn
  rw [SlotRecord.enterAt_rail]
  change (q.begun reason dest).rail = _
  rw [SlotRecord.begun_rail, SlotRecord.begun_queued queued, ← queued]

/-- What a refusal reaches, beside the statement of it: the lane and the images as its aborted work leaves them, and the
directory without the match where the withdrawal ends within the event. -/
structure RefusalReaches (i : Slot) (q : SlotRecord) (s t : State) (v : Verdict) (data : List Byte) : Prop where
  refused : CardRefused i s t v v.code data
  frame : ∃ r w, State.Reaches i r w s t ∧ w.lane = (s.work.aborted i q.ctx.state q.ctx).lane
    ∧ w.imageIn = (s.work.aborted i q.ctx.state q.ctx).imageIn
    ∧ w.imageOut = (s.work.aborted i q.ctx.state q.ctx).imageOut
    ∧ r.detector = (q.begun .refused .refused).detector ∧ r.scan = (q.begun .refused .refused).scan
  directory : t.directory = if (s.railOf i).closed then s.directory else s.directory.unuse (s.ctx i).matched

variable (ctx : q.ctx = { s.ctx i with verdict := some v }) (rail : q.rail = s.railOf i) (scan : q.scan = s.scanOf i)
  (free : FreeOfQueues i s)
include ctx rail scan free

/-- The refusal of a card whose switch is closed. -/
theorem refusalReaches_closed (closed : (s.railOf i).closed = true) :
    RefusalReaches i q s ((s.put i q s.work).beginWithdrawal i .refused .refused false data) v data := by
  obtain ⟨queued, out, -⟩ := free
  have reached := reaches_put_closed (s := s) (i := i) (q := q) (reason := .refused) (dest := .refused) (data := data)
    (by rw [scan]; exact skip_of_inRoster out) (by rw [rail]; exact closed) (by rw [rail]; exact queued)
  obtain ⟨lane, imageIn, imageOut⟩ := Work.begun_images (i := i) (w := s.work) (reason := .refused) (data := data) q.ctx
  have notices : (s.work.begun i .refused data q.ctx).notices = s.notices.offer ⟨.refused, some i, v.code, data⟩ := by
    rw [Work.begun_notices, ctx]
    rfl
  have own : ((q.begun .refused .refused).openSwitch s.dischargeUs).ctx.verdict = some v
      ∧ ((q.begun .refused .refused).openSwitch s.dischargeUs).ctx.attempts = (s.ctx i).attempts
      ∧ ((q.begun .refused .refused).openSwitch s.dischargeUs).ctx.faultRecord = (s.ctx i).faultRecord
      ∧ ((q.begun .refused .refused).openSwitch s.dischargeUs).ctx.policy = (s.ctx i).policy := by
    unfold SlotRecord.openSwitch
    rw [SlotRecord.begun_ctx, ctx]
    exact ⟨rfl, rfl, rfl, rfl⟩
  generalize (s.put i q s.work).beginWithdrawal i .refused .refused false data = t at reached
  rw [← reached.ctx] at own
  obtain ⟨verdict, attempts, fault, policy⟩ := own
  refine ⟨⟨reached.others, fault, policy, fun _ => ⟨poweredDown_of_slot reached.own ?_ ?_ ?_ ?_, verdict, attempts,
    reached.notices.trans notices⟩, fun isOpen => absurd (closed.symm.trans isOpen) (by decide)⟩,
    ⟨_, _, reached, lane, imageIn, imageOut, rfl, rfl⟩, ?_⟩
  · rw [ctx]
  · rw [ctx]
  · rw [ctx]
  · rw [ctx]
  · rw [closed, reached.directory, Work.begun_directory]
    rfl

/-- The refusal of a card whose switch is open, a class 0 card. -/
theorem refusalReaches_open (isOpen : (s.railOf i).closed = false) (discharge : (s.railOf i).dischargeTimer = none) :
    RefusalReaches i q s ((s.put i q s.work).beginWithdrawal i .refused .refused false data) v data := by
  obtain ⟨queued, out, -⟩ := free
  have queued' : q.rail.queued = false := by rw [rail]; exact queued
  have reached := reaches_put_open (s := s) (i := i) (q := q) (reason := .refused) (dest := .refused) (data := data)
    (by rw [scan]; exact skip_of_inRoster out) (by rw [rail]; exact isOpen) (by rw [rail]; exact discharge)
  obtain ⟨lane, imageIn, imageOut⟩ := Work.begun_images (i := i) (w := s.work) (reason := .refused) (data := data) q.ctx
  have fault : ((q.begun .refused .refused).unmatched.withdrawn s.longSettleUs).ctx.faultRecord = (s.ctx i).faultRecord := by
    rw [SlotRecord.withdrawn_ctx]
    unfold SlotRecord.unmatched
    rw [SlotRecord.begun_ctx, ctx]
  obtain ⟨policy, -⟩ := SlotRecord.withdrawn_keeps (q := q) (reason := .refused) (dest := .refused) s.longSettleUs
  have keptRail := SlotRecord.withdrawn_begun_rail (q := q) (reason := .refused) (dest := .refused) s.longSettleUs queued'
  have verdict := SlotRecord.withdrawn_verdict (q := q) (reason := .refused) (dest := .refused) (us := s.longSettleUs)
  have detector : ((q.begun .refused .refused).unmatched.withdrawn s.longSettleUs).detector
      = (q.begun .refused .refused).detector := SlotRecord.enterAt_detector
  have scanKept : ((q.begun .refused .refused).unmatched.withdrawn s.longSettleUs).scan
      = (q.begun .refused .refused).scan := SlotRecord.enterAt_scan
  have matched : q.ctx.matched = (s.ctx i).matched := by rw [ctx]
  have posted : s.notices.began i .refused q.ctx.verdict data = s.notices.offer ⟨.refused, some i, v.code, data⟩ := by
    rw [ctx]
    rfl
  have fields : q.ctx.policy = (s.ctx i).policy ∧ q.ctx.contact = (s.ctx i).contact ∧ q.ctx.verdict = some v := by
    rw [ctx]
    exact ⟨rfl, rfl, rfl⟩
  obtain ⟨policy', contact, verdict'⟩ := fields
  rw [matched, posted, withdrawnNotice_begun, policy', contact] at reached
  rw [policy'] at policy
  rw [verdict'] at verdict
  generalize (s.put i q s.work).beginWithdrawal i .refused .refused false data = t at reached
  have ended : WithdrawalEnded i s t (endOf q.ctx.policy q.ctx.contact .refused) :=
    withdrawalEnded_of_begun reached.own reached.directory
  rw [policy', contact] at ended
  rw [← reached.ctx] at fault policy verdict
  rw [← reached.railOf, rail] at keptRail
  refine ⟨⟨reached.others, fault, policy, fun closed => absurd (closed.symm.trans isOpen) (by decide),
    fun _ => ⟨ended, keptRail, verdict, ?_⟩⟩, ⟨_, _, reached, lane, imageIn, imageOut, detector, scanKept⟩, ?_⟩
  · rw [reached.notices, ended.1]
    rfl
  · rw [isOpen, reached.directory]
    rfl

theorem refusalReaches : RefusalReaches i q s ((s.put i q s.work).beginWithdrawal i .refused .refused false data) v data := by
  cases closed : (s.railOf i).closed with
  | true => exact refusalReaches_closed ctx rail scan free closed
  | false =>
    have discharge : (s.railOf i).dischargeTimer = none := by
      obtain ⟨-, -, isClosed | discharge⟩ := free
      · exact absurd (closed.symm.trans isClosed) Bool.false_ne_true
      · exact discharge
    exact refusalReaches_open ctx rail scan free closed discharge

end

end Sys2Proof.Machine

/-! The verdict on a card as its record arrives: the steady check, the refusal and the admission (R33, R34, R70, R127). -/

namespace Sys2Proof.Machine

open Sys2Proof Sys2Proof.Safety

set_option Elab.async false

/-! ## What the verdict writes in the slot's record -/

/-- A slot's record as its card's identity is stored (R33). -/
def SlotRecord.identified (d : Identity) (r : SlotRecord) : SlotRecord := { r with ctx := { r.ctx with identity := some d } }

/-- A slot's record as a match is stored (R113). -/
def SlotRecord.matching (m : Option EntryIndex) (r : SlotRecord) : SlotRecord := { r with ctx := { r.ctx with matched := m } }

/-- A slot's record as its card's units replace the provisional figure (R70). -/
def SlotRecord.steadied (units : Nat) (r : SlotRecord) : SlotRecord :=
  { r with ctx := { r.ctx with steadyCommitted := units } }

/-- The lane as its head's transfer ends: IDLE, without the head (R85, R87). -/
def Lane.handedOver (l : Lane) : Lane := (l.endTransaction .idle).dropHead

theorem Lane.handedOver_eq {l : Lane} {i : Slot} {rest : List Slot} (queue : l.queue = i :: rest) :
    l.handedOver = { laneIdle l with queue := rest, readBegun := false } := by
  unfold Lane.handedOver Lane.dropHead
  rw [show (l.endTransaction .idle).queue.tail = rest from congrArg List.tail queue]
  rfl

/-! ## A refusal as the record arrives (R34) -/

/-- The state as the record of slot `i` has arrived: its identity is stored, the lane is free of it, and the directory is what
the lookup has made of it. -/
def State.arrived (s : State) (i : Slot) (d : Identity) (directory : Directory) : State :=
  s.put i ((s.slot i).identified d) { s.work with lane := s.lane.handedOver, directory := directory }

section
variable {s : State} {i : Slot} {rest : List Slot} {d : Identity} {v : Verdict} {data : List Byte} {q : SlotRecord}
  {directory : Directory}

theorem State.put_arrived : (s.arrived i d directory).put i q (s.arrived i d directory).work
    = s.put i q { s.work with lane := s.lane.handedOver, directory := directory } :=
  State.put_worked (fun _ => q) _

/-- The card is refused, whatever became of the directory's entries. -/
theorem readRefused_of_arrived (ends : TransferEnds i rest s) (free : FreeOfQueues i s)
    (ctx : q.ctx = { s.ctx i with identity := some d, verdict := some v }) (rail : q.rail = s.railOf i)
    (scan : q.scan = s.scanOf i) {t : State}
    (made : t = ((s.put i q { s.work with lane := s.lane.handedOver, directory := directory }).beginWithdrawal i .refused
      .refused false data).tryOpen) : ReadRefused i rest s t d v v.code data ∧ t.directory = directory := by
  obtain ⟨-, queue, nodup, state, matched, -⟩ := ends
  obtain ⟨new, -⟩ := List.nodup_cons.mp nodup
  have own : (s.arrived i d directory).slot i = (s.slot i).identified d := State.slot_put_self
  have free' : FreeOfQueues i (s.arrived i d directory) := by
    unfold FreeOfQueues State.inRoster
    rw [State.railOf_eq, State.scanOf_eq, own]
    exact free
  obtain ⟨refused, ⟨r, w, reached, lane, imageIn, imageOut, -⟩, directory'⟩ := refusalReaches (s := s.arrived i d directory)
    (q := q) (v := v) (data := data) (by rw [State.ctx_eq, own, ctx]; rfl) (by rw [State.railOf_eq, own, rail]; rfl)
    (by rw [State.scanOf_eq, own, scan]; rfl) free'
  have unmatched : ((s.arrived i d directory).ctx i).matched = none := by
    rw [State.ctx_eq, own]
    exact matched
  have identifying : q.ctx.state = .identifying := by
    rw [ctx]
    exact state
  rw [unmatched, Directory.unuse, ite_self] at directory'
  rw [identifying] at lane imageIn imageOut
  rw [State.put_arrived] at refused reached directory'
  generalize (s.put i q { s.work with lane := s.lane.handedOver, directory := directory }).beginWithdrawal i .refused
    .refused false data = u at made refused reached directory'
  have isDirectory : u.directory = directory := directory'
  obtain ⟨others, blocks⟩ := reached.onlySlotLaneAndGrants imageIn imageOut (reached.directory.symm.trans directory')
  have opened : u.lane = s.lane.handedOver.tryOpen := by
    have absent : i ∉ s.lane.handedOver.queue := by
      rw [Lane.handedOver_eq queue]
      exact new
    refine (reached.lane.trans lane).trans ?_
    change (s.lane.handedOver.remove i).tryOpen = _
    rw [Lane.remove_of_notMem absent]
  subst made
  refine ⟨⟨?_, ?_, ?_⟩, isDirectory⟩
  · exact congrArg (fun x : State => { x with
      slots := s.slots, lane := s.lane, directory := s.directory, notices := s.notices }) blocks
  · rw [← Lane.handedOver_eq queue]
    refine laneReturns_of_tryOpen rfl ?_
    change u.lane.tryOpen = _
    rw [opened, Lane.tryOpen_tryOpen]
  · change CardRefused i { s.modCtx i fun c => { c with identity := some d } with directory := u.directory } u.tryOpen v
      v.code data
    rw [isDirectory]
    exact refused

end

/-! ## The steady check (R70) -/

section
variable {s : State} {i : Slot} {q : SlotRecord} {w : Work} {units : Nat}

/-- The committed units as the check reads them: no step of the verdict before it changes them. -/
theorem State.cs_put (steady : q.ctx.steadyCommitted = (s.ctx i).steadyCommitted) : (s.put i q w).cs = s.cs :=
  State.total_congr fun j => by
    by_cases e : j = i
    · rw [e, State.slot_put_self]
      exact steady
    · rw [State.slot_put_ne e]

/-- The state after the steady check of a card that is taken. -/
def State.steadyChecked (s : State) (i : Slot) (units : Nat) : State :=
  if (s.ctx i).inrushClass.getD 0 = 0 then s else s.steadyCheck i units

/-- A check that passes: the card's units are stored, and the other slots and last granted are as the evaluation leaves them. -/
theorem steadyChecked_of_fits (fits : SteadyFits i units s) (queued : (s.railOf i).queued = false)
    (state : (s.ctx i).state = .identifying) (state' : q.ctx.state = .identifying) (rail : q.rail = s.railOf i)
    (inrush : q.ctx.inrushCommitted = (s.ctx i).inrushCommitted)
    (steady : q.ctx.steadyCommitted = (s.ctx i).steadyCommitted) (class_ : q.ctx.inrushClass = (s.ctx i).inrushClass) :
    ((s.put i q w).steadyChecked i units).slot i
        = q.steadied (if (s.ctx i).inrushClass.getD 0 = 0 then (s.ctx i).steadyCommitted else units)
      ∧ (∀ j, j ≠ i → ((s.put i q w).steadyChecked i units).slot j = (steadyTaken i units s).slot j)
      ∧ ((s.put i q w).steadyChecked i units).rail = (steadyTaken i units s).rail
      ∧ { (s.put i q w).steadyChecked i units with slots := s.slots, rail := s.rail } = { s.put i q w with slots := s.slots } := by
  have sameClass : ((s.put i q w).ctx i).inrushClass = (s.ctx i).inrushClass :=
    (congrArg Context.inrushClass State.ctx_put_self :).trans class_
  unfold State.steadyChecked steadyTaken
  rw [sameClass]
  by_cases zero : (s.ctx i).inrushClass.getD 0 = 0
  · rw [if_pos zero, if_pos zero, if_pos zero, State.slot_put_self, SlotRecord.steadied, ← steady]
    exact ⟨rfl, fun j hj => State.slot_put_ne hj, rfl, rfl⟩
  · have room : (s.put i q w).cs - ((s.put i q w).ctx i).steadyCommitted + units ≤ (s.put i q w).rail.effective := by
      rw [State.cs_put steady, (congrArg Context.steadyCommitted State.ctx_put_self :), steady]
      exact fits.resolve_left zero
    have held : ((s.put i q w).ctx i).steadyCommitted = (s.ctx i).steadyCommitted :=
      (congrArg Context.steadyCommitted State.ctx_put_self :).trans steady
    have beside : State.Beside i (s.modCtx i fun c => { c with steadyCommitted := units }) (s.put i (q.steadied units) w) := by
      have own : (s.modCtx i fun c => { c with steadyCommitted := units }).slot i = (s.slot i).steadied units :=
        State.slot_modSlot_self s i _
      have own' : (s.put i (q.steadied units) w).slot i = q.steadied units := State.slot_put_self
      refine ⟨fun j hj => ?_, ?_, ?_, ?_, ?_, ?_, rfl, rfl, rfl⟩
      · rw [State.slot_put_ne hj, State.modCtx_eq, State.slot_modSlot_ne _ _ hj]
      · rw [State.ctx_eq, own', State.ctx_eq, own]
        exact inrush
      · rw [State.ctx_eq, own', State.ctx_eq, own]
        rfl
      · rw [State.ctx_eq, own', State.ctx_eq, own]
        exact ⟨fun h => absurd (state'.symm.trans h) (by decide), fun h => absurd (state.symm.trans h) (by decide)⟩
      · rw [State.railOf_eq, own]
        exact queued
      · rw [State.railOf_eq, own']
        exact (congrArg RailSlot.queued rail).trans queued
    have stored : ((s.put i q w).modCtx i fun c => { c with steadyCommitted := units }) = s.put i (q.steadied units) w := by
      rw [State.modCtx_eq, State.put_modSlot]
      rfl
    rw [if_neg zero, if_neg zero, if_neg zero]
    unfold State.steadyCheck
    dsimp only
    rw [if_pos room, held, stored]
    by_cases falls : units < (s.ctx i).steadyCommitted
    · rw [if_pos falls, if_pos falls]
      have same := beside.arbitrate
      have blocks := (s.put i (q.steadied units) w).arbitrate_rest
      refine ⟨?_, same.others, same.rail, ?_⟩
      · rw [State.arbitrate_slot_of_not_queued beside.queued', State.slot_put_self]
      · exact congrArg (fun x : State => { x with slots := s.slots, rail := s.rail }) blocks
    · rw [if_neg falls, if_neg falls]
      exact ⟨State.slot_put_self, beside.others, rfl, rfl⟩

/-- A check that fails: NO_POWER, and the match is dropped. -/
theorem steadyChecked_of_short (nonzero : (s.ctx i).inrushClass.getD 0 ≠ 0)
    (short : s.rail.effective < s.cs - (s.ctx i).steadyCommitted + units)
    (steady : q.ctx.steadyCommitted = (s.ctx i).steadyCommitted) (class_ : q.ctx.inrushClass = (s.ctx i).inrushClass) :
    (s.put i q w).steadyChecked i units
      = s.put i (q.judged .noPower).unmatched { w with directory := w.directory.unuse q.ctx.matched } := by
  have sameClass : ((s.put i q w).ctx i).inrushClass = (s.ctx i).inrushClass :=
    (congrArg Context.inrushClass State.ctx_put_self :).trans class_
  have noRoom : ¬ (s.put i q w).cs - ((s.put i q w).ctx i).steadyCommitted + units ≤ (s.put i q w).rail.effective := by
    rw [State.cs_put steady, (congrArg Context.steadyCommitted State.ctx_put_self :), steady]
    exact Nat.not_le.mpr short
  unfold State.steadyChecked State.steadyCheck
  dsimp only
  rw [sameClass, if_neg nonzero, if_neg noRoom, State.put_setVerdict, State.put_dropMatch]
  rfl

end

end Sys2Proof.Machine

/-! The verdict steps put together, and the end of an identity transfer (R85 to R87, R123 to R128). -/

namespace Sys2Proof.Machine

open Sys2Proof Sys2Proof.Safety

set_option Elab.async false

/-! ## The verdict steps (R34, R127) -/

/-- The directory with one user more of the entry that a match names. -/
def Directory.use (x : Directory) : Option EntryIndex → Directory
  | none => x
  | some k => x.write k { x.entries[k] with users := x.entries[k].users + 1 }

section
variable {s : State} {i : Slot} {d : Identity} {v : Verdict} {m : Option EntryIndex} {reserve : Nat} {data : List Byte}
  {q : SlotRecord} {w w' : Work}

/-- A verdict that does not take the card refuses it. -/
theorem decideVerdict_refuses (consulted : (s.put i q w).consultDirectory i d = (s.put i q w', ⟨v, none, reserve, data⟩))
    (refuses : v.takesCard = false) :
    (s.put i q w).decideVerdict i d = (s.put i (q.judged v) w').beginWithdrawal i .refused .refused false data := by
  have verdict : ((s.put i (q.judged v) w').ctx i).verdict = some v := (congrArg Context.verdict State.ctx_put_self :)
  have judged : v.admits = false ∧ v ≠ .park := by
    cases v <;> first | exact ⟨rfl, by decide⟩ | exact absurd refuses (by decide)
  unfold State.decideVerdict
  rw [consulted]
  dsimp only
  rw [State.put_setVerdict, refuses, Bool.false_and, if_neg Bool.false_ne_true, verdict, Option.getD_some]
  unfold State.followVerdict
  rw [judged.1, if_neg Bool.false_ne_true, if_neg judged.2]

/-- A verdict that takes the card stores its match, checks its units and is followed as the check leaves it. -/
theorem decideVerdict_takes (consulted : (s.put i q w).consultDirectory i d = (s.put i q w', ⟨v, m, reserve, data⟩))
    (takes : v.takesCard = true) (unmatched : q.ctx.matched = none) {y : State}
    (checked : y = (s.put i ((q.judged v).matching m)
      { w' with directory := w'.directory.use m }).steadyChecked i (unitsOf d reserve)) :
    (s.put i q w).decideVerdict i d = y.followVerdict i ((y.ctx i).verdict.getD v) data := by
  have check : ∀ u : State, (if (true && (u.ctx i).inrushClass.getD 0 != 0) = true
      then u.steadyCheck i (steadyUnits d.steadyCurrent.toNat reserve) else u) = u.steadyChecked i (unitsOf d reserve) := by
    intro u
    unfold State.steadyChecked
    by_cases zero : (u.ctx i).inrushClass.getD 0 = 0
    · rw [if_pos zero, zero]
      rfl
    · rw [if_neg zero, if_pos (by simpa using zero)]
      rfl
  subst checked
  unfold State.decideVerdict
  rw [consulted]
  dsimp only
  rw [State.put_setVerdict, takes, check]
  cases m with
  | none =>
    have same : (q.judged v).matching none = q.judged v := by
      unfold SlotRecord.matching
      rw [← show (q.judged v).ctx.matched = none from unmatched]
    rw [same]
    rfl
  | some k =>
    dsimp only
    rw [State.put_storeMatch (q := q.judged v) unmatched]
    rfl

/-! ## What the directory answers (R123 to R126) -/

theorem consultDirectory_of_match {k : EntryIndex} {b : EntryBody} (found : s.lookupEntry i d = some k)
    (body : (s.entry k).body = some b) (directory : w.directory = s.directory) :
    (s.put i q w).consultDirectory i d
      = (s.put i q { w with directory := s.directory.write k ⟨some (matchedEntry b), (s.entry k).users⟩ },
        ⟨b.verdict i q.ctx.policy, if (b.verdict i q.ctx.policy).takesCard then some k else none, b.reserve.getD 0,
          b.refusalData k (b.verdict i q.ctx.policy)⟩) := by
  have entry : ∀ k, (s.put i q w).entry k = s.entry k := fun k => by
    unfold State.entry
    rw [show (s.put i q w).directory = s.directory from directory]
  have found' : (s.put i q w).lookupEntry i d = some k := by
    unfold State.lookupEntry State.findKey State.findEntry
    simp only [entry]
    exact found
  have body' : ((s.put i q w).entry k).body = some b := (congrArg Entry.body (entry k)).trans body
  have users : w.directory.entries[k].users = (s.entry k).users := congrArg Entry.users (entry k)
  unfold State.consultDirectory
  rw [found']
  dsimp only
  rw [body']
  dsimp only
  unfold State.judgeMatch
  dsimp only
  rw [State.ctx_put_self, State.put_modEntry, users, directory]
  rfl

theorem consultDirectory_of_none (found : s.lookupEntry i d = none) (directory : w.directory = s.directory) :
    (s.put i q w).consultDirectory i d = (s.put i q w).judgeNoMatch i d := by
  have entry : ∀ k, (s.put i q w).entry k = s.entry k := fun k => by
    unfold State.entry
    rw [show (s.put i q w).directory = s.directory from directory]
  have found' : (s.put i q w).lookupEntry i d = none := by
    unfold State.lookupEntry State.findKey State.findEntry
    simp only [entry]
    exact found
  unfold State.consultDirectory
  rw [found']

end

/-! ## An admission as the record arrives (R34) -/

section
variable {s y : State} {i : Slot} {rest : List Slot} {d : Identity} {v : Verdict} {m : Option EntryIndex} {units : Nat}
  {data : List Byte} {directory : Directory} {notices : Notices} (ends : TransferEnds i rest s) (fits : SteadyFits i units s)
  (checked : y = (s.put i ((((s.slot i).identified d).judged v).matching m)
    { s.work with lane := s.lane.handedOver, directory := directory, notices := notices }).steadyChecked i units)

/-- The figure that the check leaves committed for a slot. -/
def unitsTaken (i : Slot) (units : Nat) (s : State) : Nat :=
  if (s.ctx i).inrushClass.getD 0 = 0 then (s.ctx i).steadyCommitted else units

/-- The record of a card that passed the check, before its slot's state changes. -/
def SlotRecord.passed (d : Identity) (v : Verdict) (m : Option EntryIndex) (units : Nat) (r : SlotRecord) : SlotRecord :=
  (((r.identified d).judged v).matching m).steadied units

include ends fits checked

/-- The state after the check, slot by slot and block by block. -/
theorem checked_spec : y.slot i = (s.slot i).passed d v m (unitsTaken i units s)
    ∧ (∀ j, j ≠ i → y.slot j = (steadyTaken i units s).slot j) ∧ y.rail = (steadyTaken i units s).rail
    ∧ { y with
        slots := s.slots, rail := s.rail, lane := s.lane, directory := s.directory, notices := s.notices } = s
    ∧ y.lane = s.lane.handedOver ∧ y.directory = directory ∧ y.notices = notices ∧ y.clock = s.clock := by
  obtain ⟨-, -, -, state, -, queued⟩ := ends
  obtain ⟨own, others, rail, blocks⟩ := steadyChecked_of_fits (q := (((s.slot i).identified d).judged v).matching m)
    (w := { s.work with lane := s.lane.handedOver, directory := directory, notices := notices }) fits queued state state rfl
    rfl rfl rfl
  rw [← checked] at own others rail blocks
  refine ⟨own, others, rail, ?_, (congrArg State.lane blocks :), (congrArg State.directory blocks :),
    (congrArg State.notices blocks :), (congrArg State.clock blocks :)⟩
  exact congrArg (fun x : State => { x with lane := s.lane, directory := s.directory, notices := s.notices }) blocks

/-- The verdict stands where the check passes. -/
theorem checked_verdict : (y.ctx i).verdict.getD v = v := by
  obtain ⟨own, -⟩ := checked_spec ends fits checked
  rw [State.ctx_eq, own]
  rfl

theorem readTaken_admitted (admits : v.admits = true) :
    ReadTaken i rest s (y.followVerdict i ((y.ctx i).verdict.getD v) data).tryOpen d v .qualifying m units
      ∧ (y.followVerdict i ((y.ctx i).verdict.getD v) data).tryOpen.directory = directory
      ∧ (y.followVerdict i ((y.ctx i).verdict.getD v) data).tryOpen.notices = notices := by
  obtain ⟨own, others, rail, blocks, lane, directory', notices', clock⟩ := checked_spec ends fits checked
  have quiet : ((s.slot i).passed d v m (unitsTaken i units s)).ctx.state ≠ .online := by
    change (s.ctx i).state ≠ .online
    rw [ends.2.2.2.1]
    decide
  have followed : y.followVerdict i ((y.ctx i).verdict.getD v) data = y.modSlot i fun r =>
      { r.enter .qualifying with detector := r.detector.start .qualify (y.ctx i).identity y.clock.refLost y.qualUs } := by
    rw [checked_verdict ends fits checked, State.followVerdict, if_pos admits, State.setState_startDetector]
  have identity : (y.ctx i).identity = some d := by
    rw [State.ctx_eq, own]
    rfl
  rw [followed, identity, clock]
  have ownT : (y.modSlot i fun r => { r.enter .qualifying with
      detector := r.detector.start .qualify (some d) s.clock.refLost y.qualUs }).slot i = _ := State.slot_modSlot_self y i _
  rw [own, SlotRecord.enter_of_ne_online quiet] at ownT
  have othersT : ∀ j, j ≠ i → (y.modSlot i fun r => { r.enter .qualifying with
      detector := r.detector.start .qualify (some d) s.clock.refLost y.qualUs }).slot j = y.slot j := fun j hj =>
    State.slot_modSlot_ne y _ hj
  refine ⟨⟨fun j hj => (othersT j hj).trans (others j hj), rail, blocks, ?_, ?_⟩, directory', notices'⟩
  · rw [← Lane.handedOver_eq ends.2.1]
    exact laneReturns_of_tryOpen rfl (congrArg Lane.tryOpen lane)
  · generalize (y.modSlot i fun r => { r.enter .qualifying with
      detector := r.detector.start .qualify (some d) s.clock.refLost y.qualUs }) = u at ownT
    have ctx : u.tryOpen.ctx i = _ := congrArg SlotRecord.ctx ownT
    have det : u.tryOpen.det i = _ := congrArg SlotRecord.detector ownT
    have railOf : u.tryOpen.railOf i = _ := congrArg SlotRecord.rail ownT
    have scanOf : u.tryOpen.scanOf i = _ := congrArg SlotRecord.scan ownT
    rw [ctx, det, railOf, scanOf]
    exact ⟨rfl, rfl, rfl, rfl, rfl, rfl, rfl, fun _ => ⟨rfl, rfl⟩, fun h => absurd h (by decide)⟩

end

theorem readTaken_parked {s y : State} {i : Slot} {rest : List Slot} {d : Identity} {m : Option EntryIndex} {units : Nat}
    {data : List Byte} {directory : Directory} {notices : Notices} (ends : TransferEnds i rest s) (fits : SteadyFits i units s)
    (checked : y = (s.put i ((((s.slot i).identified d).judged .park).matching m)
      { s.work with lane := s.lane.handedOver, directory := directory, notices := notices }).steadyChecked i units) :
    ReadTaken i rest s (y.followVerdict i ((y.ctx i).verdict.getD .park) data).tryOpen d .park .parked m units
      ∧ (y.followVerdict i ((y.ctx i).verdict.getD .park) data).tryOpen.directory = directory
      ∧ (y.followVerdict i ((y.ctx i).verdict.getD .park) data).tryOpen.notices
        = notices.offer ⟨.parked, some i, 0, []⟩ := by
  obtain ⟨own, others, rail, blocks, lane, directory', notices', -⟩ := checked_spec ends fits checked
  have quiet : ((s.slot i).passed d .park m (unitsTaken i units s)).ctx.state ≠ .online := by
    change (s.ctx i).state ≠ .online
    rw [ends.2.2.2.1]
    decide
  have followed : y.followVerdict i ((y.ctx i).verdict.getD .park) data
      = (y.modSlot i (SlotRecord.enter .parked)).post ⟨.parked, some i, 0, []⟩ := by
    rw [checked_verdict ends fits checked]
    rfl
  have ownT : (y.modSlot i (SlotRecord.enter .parked)).slot i = _ := State.slot_modSlot_self y i _
  rw [own, SlotRecord.enter_of_ne_online quiet] at ownT
  have othersT : ∀ j, j ≠ i → (y.modSlot i (SlotRecord.enter .parked)).slot j = y.slot j := fun j hj =>
    State.slot_modSlot_ne y _ hj
  rw [followed]
  refine ⟨⟨fun j hj => (othersT j hj).trans (others j hj), rail, blocks, ?_, ?_⟩, directory',
    congrArg (Notices.offer · ⟨.parked, some i, 0, []⟩) notices'⟩
  · rw [← Lane.handedOver_eq ends.2.1]
    exact laneReturns_of_tryOpen rfl (congrArg Lane.tryOpen lane)
  · have ownT' : ((y.modSlot i (SlotRecord.enter .parked)).post ⟨.parked, some i, 0, []⟩).slot i = _ := ownT
    generalize (y.modSlot i (SlotRecord.enter .parked)).post ⟨.parked, some i, 0, []⟩ = u at ownT'
    have ctx : u.tryOpen.ctx i = _ := congrArg SlotRecord.ctx ownT'
    have det : u.tryOpen.det i = _ := congrArg SlotRecord.detector ownT'
    have railOf : u.tryOpen.railOf i = _ := congrArg SlotRecord.rail ownT'
    have scanOf : u.tryOpen.scanOf i = _ := congrArg SlotRecord.scan ownT'
    rw [ctx, det, railOf, scanOf]
    exact ⟨rfl, rfl, rfl, rfl, rfl, rfl, rfl, fun h => absurd h (by decide), fun _ => rfl⟩

end Sys2Proof.Machine

/-! The end of an identity transfer: read again, failed, refused, parked or admitted (R85 to R87, R123 to R128). -/

namespace Sys2Proof.Machine

open Sys2Proof Sys2Proof.Safety

set_option Elab.async false

/-! ## The verdict that a matched entry gives (R124, R127) -/

section
variable {b : EntryBody} {i : Slot} {policy : Policy} {k : EntryIndex}

theorem EntryBody.verdict_deny (deny : b.action = .deny) : b.verdict i policy = .deny := if_pos deny

theorem EntryBody.verdict_wrongSlot {p : Slot} (allows : b.action ≠ .deny) (pin : b.pinSlot = some p) (ne : p ≠ i) :
    b.verdict i policy = .wrongSlot := by
  unfold EntryBody.verdict
  rw [if_neg allows, pin]
  exact if_pos (bne_iff_ne.mpr ne)

theorem EntryBody.verdict_of_unpinned (allows : b.action ≠ .deny) (pin : b.pinSlot = none ∨ b.pinSlot = some i) :
    b.verdict i policy = if b.action = .park then .park else if policy = .hold ∧ b.service = false then .park else .admitCard := by
  have here : (b.pinSlot.any fun p => p != i) = false := by
    rcases pin with e | e
    · rw [e]
      rfl
    · rw [e]
      exact bne_self_eq_false' i
  unfold EntryBody.verdict
  rw [if_neg allows, here, if_neg Bool.false_ne_true]

theorem EntryBody.verdict_park (allows : b.action ≠ .deny) (pin : b.pinSlot = none ∨ b.pinSlot = some i)
    (parks : b.action = .park ∨ (policy = .hold ∧ b.service = false)) : b.verdict i policy = .park := by
  rw [EntryBody.verdict_of_unpinned allows pin]
  rcases parks with park | hold
  · rw [if_pos park]
  · rw [if_pos hold, ite_self]

theorem EntryBody.verdict_admitCard (pin : b.pinSlot = none ∨ b.pinSlot = some i) (accepts : b.action = .admitCard)
    (admits : policy ≠ .hold ∨ b.service = true) : b.verdict i policy = .admitCard := by
  have noHold : ¬ (policy = .hold ∧ b.service = false) := fun ⟨hold, off⟩ =>
    admits.elim (fun ne => ne hold) fun on => absurd (on.symm.trans off) (by decide)
  rw [EntryBody.verdict_of_unpinned (by rw [accepts]; decide) pin, accepts, if_neg (by decide), if_neg noHold]

/-- A matched entry that neither denies the card nor holds it elsewhere takes it. -/
theorem EntryBody.verdict_takes (allows : b.action ≠ .deny) (pin : b.pinSlot = none ∨ b.pinSlot = some i) :
    b.verdict i policy = .park ∨ b.verdict i policy = .admitCard := by
  rw [EntryBody.verdict_of_unpinned allows pin]
  split
  · exact Or.inl rfl
  · split
    · exact Or.inl rfl
    · exact Or.inr rfl

theorem Directory.use_write {d : Directory} (body : Option EntryBody) (n : Nat) :
    (d.write k ⟨body, n⟩).use (some k) = d.write k ⟨body, n + 1⟩ := by
  have same : (d.write k ⟨body, n⟩).entries[k] = ⟨body, n⟩ := Directory.getElem_write_self
  unfold Directory.use
  dsimp only
  rw [same]
  exact Directory.write_write _

end

/-! ## The end of a transfer (R85, R86) -/

section
variable {s : State} {i : Slot} {rest : List Slot} {record : Vector Byte 32} {o : Bool}

theorem exec_identityTransferComplete (transaction : s.lane.transaction = some ⟨i, .transfer, o⟩) :
    exec (.identityTransferComplete record) s = .next (s.transferComplete ⟨i, .transfer, o⟩ record) := by
  change execIdentityTransferComplete record s = _
  unfold execIdentityTransferComplete
  rw [transaction]

/-- The work of a rack whose lane has handed its head over. -/
def State.handedWork (s : State) : Work := { s.work with lane := s.lane.handedOver }

/-- A record that checks: its identity is stored and judged, and the lane goes on to the next head. -/
theorem exec_identityTransferComplete_of_checks (transaction : s.lane.transaction = some ⟨i, .transfer, false⟩)
    (checks : recordChecks record = true) : exec (.identityTransferComplete record) s
      = .next (({ s with lane := s.lane.handedOver } : State).identityRead i (identityOfRecord record)).tryOpen := by
  rw [exec_identityTransferComplete transaction]
  unfold State.transferComplete
  rw [if_neg Bool.false_ne_true, if_pos checks]
  rfl

theorem identityStored (d : Identity) : ({ s with lane := s.lane.handedOver } : State).modCtx i (fun c => { c with identity := some d })
    = s.put i ((s.slot i).identified d) s.handedWork := by
  rw [State.setLane_eq_put s i, State.modCtx_eq, State.put_modSlot]
  rfl

/-- A valid record: the verdict follows the identity. -/
theorem exec_identityTransferComplete_of_valid (arrives : IdentityArrives i rest record s) :
    exec (.identityTransferComplete record) s = .next
      ((s.put i ((s.slot i).identified (identityOfRecord record)) s.handedWork).decideVerdict i (identityOfRecord record)).tryOpen := by
  obtain ⟨⟨transaction, -⟩, checks, valid⟩ := arrives
  rw [exec_identityTransferComplete_of_checks transaction checks]
  unfold State.identityRead
  dsimp only
  rw [valid, if_pos rfl, identityStored]

theorem transfer_readAgain (transaction : s.lane.transaction = some ⟨i, .transfer, false⟩) (queue : s.lane.queue = i :: rest)
    (gap : s.lane.retryGap = none) (begun : s.lane.readBegun = true) (wrong : recordChecks record = false)
    (first : s.lane.checkUsed = false) :
    ∃ t, exec (.identityTransferComplete record) s = .next t ∧ OnlyLane s t ∧ t.lane.checkUsed = true
      ∧ t.lane.transaction = some ⟨i, .start, false⟩ ∧ t.lane.state = .partBusy ∧ t.lane.tries = s.lane.tries
      ∧ t.lane.lost = s.lane.lost ∧ t.lane.queue = i :: rest := by
  have ran : exec (.identityTransferComplete record) s
      = .next ((s.modLane fun l => { l with checkUsed := true }).closeTransaction .idle) := by
    rw [exec_identityTransferComplete transaction]
    unfold State.transferComplete
    rw [if_neg Bool.false_ne_true, wrong, if_neg Bool.false_ne_true, first, if_neg Bool.false_ne_true]
  have opened : (({ s.lane with checkUsed := true } : Lane).endTransaction .idle).tryOpen
      = laneOpened i (({ s.lane with checkUsed := true } : Lane).endTransaction .idle) := Lane.tryOpen_of_head queue rfl gap
  have lane : ((s.modLane fun l => { l with checkUsed := true }).closeTransaction .idle).lane
      = laneOpened i (({ s.lane with checkUsed := true } : Lane).endTransaction .idle) := opened
  obtain ⟨tries, lost, checkUsed⟩ := (laneOpened_counters i (({ s.lane with checkUsed := true } : Lane).endTransaction .idle)).1 begun
  refine ⟨_, ran, rfl, ?_⟩
  rw [lane]
  exact ⟨checkUsed, rfl, rfl, tries, lost, queue⟩

theorem transfer_orphaned (transaction : s.lane.transaction = some ⟨i, .transfer, true⟩) :
    ∃ t, exec (.identityTransferComplete record) s = .next t ∧ OnlyLane s t ∧ LaneReturns (laneIdle s.lane) t :=
  ⟨_, exec_identityTransferComplete transaction, rfl, laneReturns_of_tryOpen rfl rfl⟩

theorem transfer_failsCheck (head : HeadIsRead i .transfer rest s) (wrong : recordChecks record = false)
    (second : s.lane.checkUsed = true) :
    ∃ t, exec (.identityTransferComplete record) s = .next t ∧ ReadFailed i s t .idCheck 4 ∧ NextReadOpens rest s t := by
  obtain ⟨failed, lane⟩ := readFailed_of_head (l := s.lane.endTransaction .idle) (c := .idCheck) head rfl rfl
  have ran : exec (.identityTransferComplete record) s
      = .next (({ s with lane := s.lane.endTransaction .idle } : State).failRead i .idCheck) := by
    rw [exec_identityTransferComplete head.1]
    unfold State.transferComplete
    rw [if_neg Bool.false_ne_true, wrong, if_neg Bool.false_ne_true, second, if_pos rfl]
    rfl
  exact ⟨_, ran, failed, nextReadOpens_of_tryOpen lane rfl (congrArg List.tail head.2.1) rfl rfl rfl rfl rfl⟩

theorem transfer_badRecord (ends : TransferEnds i rest s) (checks : recordChecks record = true)
    (bad : (identityOfRecord record).valid = false) (free : FreeOfQueues i s) :
    ∃ t, exec (.identityTransferComplete record) s = .next t
      ∧ ReadRefused i rest s t (identityOfRecord record) .badRecord 10 [] ∧ t.directory = s.directory := by
  have ran := exec_identityTransferComplete_of_checks ends.1 checks
  unfold State.identityRead at ran
  dsimp only at ran
  rw [bad, if_neg Bool.false_ne_true, identityStored, State.refuseWith, State.put_setVerdict] at ran
  exact ⟨_, ran, readRefused_of_arrived (q := ((s.slot i).identified (identityOfRecord record)).judged .badRecord) ends free
    rfl rfl rfl rfl⟩

end

/-! ## A card that an entry describes (R124, R127) -/

section
variable {s : State} {i : Slot} {rest : List Slot} {record : Vector Byte 32} {k : EntryIndex} {b : EntryBody} {v : Verdict}
  (arrives : IdentityArrives i rest record s) (found : s.lookupEntry i (identityOfRecord record) = some k)
  (body : (s.entry k).body = some b) (verdict : b.verdict i (s.ctx i).policy = v)

include found body verdict in
theorem consulted_of_match :
    (s.put i ((s.slot i).identified (identityOfRecord record)) s.handedWork).consultDirectory i (identityOfRecord record)
      = (s.put i ((s.slot i).identified (identityOfRecord record))
          { s.handedWork with directory := s.directory.write k ⟨some (matchedEntry b), (s.entry k).users⟩ },
        ⟨v, if v.takesCard then some k else none, b.reserve.getD 0, b.refusalData k v⟩) := by
  have policy : ((s.slot i).identified (identityOfRecord record)).ctx.policy = (s.ctx i).policy := rfl
  rw [consultDirectory_of_match found body rfl, policy, verdict]

include arrives found body verdict

theorem match_refuses (refuses : v.takesCard = false) (free : FreeOfQueues i s) :
    ∃ t, exec (.identityTransferComplete record) s = .next t
      ∧ ReadRefused i rest s t (identityOfRecord record) v v.code (b.refusalData k v)
      ∧ OnlyEntry k ⟨some (matchedEntry b), (s.entry k).users⟩ s t := by
  have ran := exec_identityTransferComplete_of_valid arrives
  have consulted := consulted_of_match (record := record) found body verdict
  rw [refuses, if_neg Bool.false_ne_true] at consulted
  rw [decideVerdict_refuses consulted refuses] at ran
  obtain ⟨refused, directory⟩ := readRefused_of_arrived (q := ((s.slot i).identified (identityOfRecord record)).judged v)
    (v := v) (data := b.refusalData k v) (directory := s.directory.write k ⟨some (matchedEntry b), (s.entry k).users⟩)
    arrives.1 free rfl rfl rfl rfl
  exact ⟨_, ran, refused, onlyEntry_of_write directory⟩

omit arrives found body verdict in
/-- A card that an entry describes and that fails the check keeps only its identity and the verdict. -/
theorem SlotRecord.noPower_of_unmatched {r : SlotRecord} {d : Identity} {m : Option EntryIndex}
    (unmatched : r.ctx.matched = none) : ((((r.identified d).judged v).matching m).judged .noPower).unmatched
      = { r with ctx := { r.ctx with identity := some d, verdict := some .noPower } } := by
  change { r with ctx := { r.ctx with identity := some d, verdict := some .noPower, matched := none } } = _
  rw [← unmatched]

/-- The state that follows a match, as the check leaves it. -/
theorem match_takes (takes : v.takesCard = true) {y : State}
    (checked : y = (s.put i ((((s.slot i).identified (identityOfRecord record)).judged v).matching (some k))
      { s.handedWork with directory := s.directory.write k ⟨some (matchedEntry b), (s.entry k).users + 1⟩ }).steadyChecked i
        (unitsOf (identityOfRecord record) (b.reserve.getD 0))) :
    exec (.identityTransferComplete record) s
      = .next (y.followVerdict i ((y.ctx i).verdict.getD v) (b.refusalData k v)).tryOpen := by
  have consulted := consulted_of_match (record := record) found body verdict
  rw [takes, if_pos rfl] at consulted
  obtain ⟨-, -, -, -, unmatched, -⟩ := arrives.1
  rw [exec_identityTransferComplete_of_valid arrives,
    decideVerdict_takes (y := y) consulted takes unmatched (by rw [checked, Directory.use_write])]

theorem match_short (takes : v = .park ∨ v = .admitCard) (nonzero : (s.ctx i).inrushClass.getD 0 ≠ 0) (free : FreeOfQueues i s)
    (short : s.rail.effective < s.cs - (s.ctx i).steadyCommitted + unitsOf (identityOfRecord record) (b.reserve.getD 0)) :
    ∃ t, exec (.identityTransferComplete record) s = .next t
      ∧ ReadRefused i rest s t (identityOfRecord record) .noPower 7 []
      ∧ OnlyEntry k ⟨some (matchedEntry b), (s.entry k).users⟩ s t := by
  have takesCard : v.takesCard = true ∧ b.refusalData k v = [] := by
    rcases takes with e | e <;> rw [e] <;> exact ⟨rfl, rfl⟩
  have ran := match_takes (y := s.put i
    (((((s.slot i).identified (identityOfRecord record)).judged v).matching (some k)).judged .noPower).unmatched
    { s.handedWork with directory := s.directory.write k ⟨some (matchedEntry b), (s.entry k).users⟩ })
    arrives found body verdict takesCard.1 (by
      rw [steadyChecked_of_short (q := (((s.slot i).identified (identityOfRecord record)).judged v).matching (some k)) nonzero
        short rfl rfl]
      dsimp only [SlotRecord.matching]
      rw [Directory.unuse_write_users])
  rw [State.ctx_put_self, takesCard.2] at ran
  obtain ⟨-, -, -, -, unmatched, -⟩ := arrives.1
  rw [SlotRecord.noPower_of_unmatched (r := s.slot i) unmatched] at ran
  obtain ⟨refused, directory⟩ := readRefused_of_arrived
    (q := { s.slot i with ctx := { s.ctx i with identity := some (identityOfRecord record), verdict := some .noPower } })
    (v := .noPower) (data := [])
    (directory := s.directory.write k ⟨some (matchedEntry b), (s.entry k).users⟩) arrives.1 free rfl rfl rfl rfl
  exact ⟨_, ran, refused, onlyEntry_of_write directory⟩

variable (fits : SteadyFits i (unitsOf (identityOfRecord record) (b.reserve.getD 0)) s)
include fits

theorem match_parks (park : v = .park) : ∃ t, exec (.identityTransferComplete record) s = .next t
    ∧ ReadTaken i rest s t (identityOfRecord record) .park .parked (some k)
        (unitsOf (identityOfRecord record) (b.reserve.getD 0))
    ∧ OnlyEntry k ⟨some (matchedEntry b), (s.entry k).users + 1⟩ s t
    ∧ t.notices = s.notices.offer ⟨.parked, some i, 0, []⟩ := by
  subst park
  obtain ⟨taken, directory, notices⟩ := readTaken_parked (data := b.refusalData k .park) arrives.1 fits rfl
  exact ⟨_, match_takes arrives found body verdict rfl rfl, taken, onlyEntry_of_write directory, notices⟩

theorem match_admits (admits : v = .admitCard) : ∃ t, exec (.identityTransferComplete record) s = .next t
    ∧ ReadTaken i rest s t (identityOfRecord record) .admitCard .qualifying (some k)
        (unitsOf (identityOfRecord record) (b.reserve.getD 0))
    ∧ OnlyEntry k ⟨some (matchedEntry b), (s.entry k).users + 1⟩ s t ∧ t.notices = s.notices := by
  subst admits
  obtain ⟨taken, directory, notices⟩ := readTaken_admitted (v := .admitCard) (data := b.refusalData k .admitCard) arrives.1 fits rfl rfl
  exact ⟨_, match_takes arrives found body verdict rfl rfl, taken, onlyEntry_of_write directory, notices⟩

end

/-! ## A card that no entry describes (R125, R126) -/

section
variable {s : State} {i : Slot} {rest : List Slot} {record : Vector Byte 32}
  (arrives : IdentityArrives i rest record s) (found : s.lookupEntry i (identityOfRecord record) = none)

include found in
theorem consulted_of_none {p : Policy} (policy : (s.ctx i).policy = p) :
    (s.put i ((s.slot i).identified (identityOfRecord record)) s.handedWork).consultDirectory i (identityOfRecord record)
      = (s.put i ((s.slot i).identified (identityOfRecord record)) s.handedWork).judgeNoMatch i (identityOfRecord record)
    ∧ ((s.put i ((s.slot i).identified (identityOfRecord record)) s.handedWork).ctx i).policy = p :=
  ⟨consultDirectory_of_none found rfl, (congrArg Context.policy State.ctx_put_self :).trans policy⟩

include arrives found

theorem noMatch_refuses (refuses : (s.ctx i).policy = .admitCard ∨ ((s.ctx i).policy = .learn ∧ s.mode = .run))
    (free : FreeOfQueues i s) : ∃ t, exec (.identityTransferComplete record) s = .next t
      ∧ ReadRefused i rest s t (identityOfRecord record) .unknown 5 [] ∧ t.directory = s.directory := by
  have consulted : (s.put i ((s.slot i).identified (identityOfRecord record)) s.handedWork).consultDirectory i
      (identityOfRecord record)
      = (s.put i ((s.slot i).identified (identityOfRecord record)) s.handedWork, ⟨.unknown, none, 0, []⟩) := by
    rcases refuses with accepts | ⟨learn, run⟩
    · obtain ⟨consulted, policy⟩ := consulted_of_none (record := record) found accepts
      rw [consulted, State.judgeNoMatch, policy]
    · obtain ⟨consulted, policy⟩ := consulted_of_none (record := record) found learn
      have mode : ¬ (s.put i ((s.slot i).identified (identityOfRecord record)) s.handedWork).mode = .commission := by
        change ¬ s.mode = .commission
        rw [run]
        decide
      rw [consulted, State.judgeNoMatch, policy]
      exact if_neg mode
  have ran := exec_identityTransferComplete_of_valid arrives
  rw [decideVerdict_refuses consulted rfl] at ran
  exact ⟨_, ran, readRefused_of_arrived (q := ((s.slot i).identified (identityOfRecord record)).judged .unknown)
    (v := .unknown) arrives.1 free rfl rfl rfl rfl⟩

variable (fits : SteadyFits i (unitsOf (identityOfRecord record) 0) s)
include fits

theorem noMatch_parks (hold : (s.ctx i).policy = .hold) : ∃ t, exec (.identityTransferComplete record) s = .next t
    ∧ ReadTaken i rest s t (identityOfRecord record) .park .parked none (unitsOf (identityOfRecord record) 0)
    ∧ t.directory = s.directory ∧ t.notices = s.notices.offer ⟨.parked, some i, 0, []⟩ := by
  obtain ⟨consulted, policy⟩ := consulted_of_none (record := record) found hold
  rw [State.judgeNoMatch, policy] at consulted
  obtain ⟨-, -, -, -, unmatched, -⟩ := arrives.1
  refine ⟨_, ?_, readTaken_parked (m := none) (directory := s.directory) (notices := s.notices) (data := []) arrives.1 fits rfl⟩
  rw [exec_identityTransferComplete_of_valid arrives]
  exact congrArg (fun u : State => Host.Outcome.next u.tryOpen) (decideVerdict_takes consulted rfl unmatched rfl)

variable (learn : (s.ctx i).policy = .learn) (commission : s.mode = .commission)
include learn commission

omit arrives fits in
theorem consulted_learns :
    (s.put i ((s.slot i).identified (identityOfRecord record)) s.handedWork).consultDirectory i (identityOfRecord record)
      = (s.put i ((s.slot i).identified (identityOfRecord record)) s.handedWork).learn i (identityOfRecord record) := by
  obtain ⟨consulted, policy⟩ := consulted_of_none (record := record) found learn
  rw [consulted, State.judgeNoMatch, policy]
  exact if_pos commission

theorem noMatch_learns {k : EntryIndex} (empty : (s.entry k).body = none) (lowest : ∀ j, j < k → (s.entry j).body ≠ none) :
    ∃ t, exec (.identityTransferComplete record) s = .next t
      ∧ ReadTaken i rest s t (identityOfRecord record) .admitLearned .qualifying (some k)
          (unitsOf (identityOfRecord record) 0)
      ∧ OnlyEntry k ⟨some (learnedBody (identityOfRecord record)), 1⟩ s t
      ∧ t.notices = s.notices.offer ⟨.learned, some i, 0, [byteOf k.val]⟩ := by
  have free : (s.put i ((s.slot i).identified (identityOfRecord record)) s.handedWork).findFree = some k :=
    State.findFree_eq_some empty lowest
  have consulted := consulted_learns (record := record) found learn commission
  rw [State.learn, free] at consulted
  obtain ⟨-, -, -, -, unmatched, -⟩ := arrives.1
  obtain ⟨taken, directory, notices⟩ := readTaken_admitted (v := .admitLearned) (m := some k)
    (directory := s.directory.write k ⟨some (learnedBody (identityOfRecord record)), 1⟩)
    (notices := s.notices.offer ⟨.learned, some i, 0, [byteOf k.val]⟩) (data := []) arrives.1 fits rfl rfl
  refine ⟨_, ?_, taken, onlyEntry_of_write directory, notices⟩
  rw [exec_identityTransferComplete_of_valid arrives]
  refine congrArg (fun u : State => Host.Outcome.next u.tryOpen) (decideVerdict_takes (w' := { s.handedWork with
    directory := s.directory.write k ⟨some (learnedBody (identityOfRecord record)), 0⟩
    notices := s.notices.offer ⟨.learned, some i, 0, [byteOf k.val]⟩ }) (reserve := 0) consulted rfl unmatched ?_)
  rw [Directory.use_write]
  rfl

theorem noMatch_unlearned (full : ∀ k, (s.entry k).body ≠ none) :
    ∃ t, exec (.identityTransferComplete record) s = .next t
      ∧ ReadTaken i rest s t (identityOfRecord record) .admitUnlearned .qualifying none
          (unitsOf (identityOfRecord record) 0)
      ∧ t.directory = s.directory ∧ t.notices = s.notices.offer ⟨.learned, some i, 1, []⟩ := by
  have free : (s.put i ((s.slot i).identified (identityOfRecord record)) s.handedWork).findFree = none :=
    State.findFree_eq_none full
  have consulted := consulted_learns (record := record) found learn commission
  rw [State.learn, free] at consulted
  obtain ⟨-, -, -, -, unmatched, -⟩ := arrives.1
  refine ⟨_, ?_, readTaken_admitted (v := .admitUnlearned) (m := none) (directory := s.directory)
    (notices := s.notices.offer ⟨.learned, some i, 1, []⟩) (data := []) arrives.1 fits rfl rfl⟩
  rw [exec_identityTransferComplete_of_valid arrives]
  exact congrArg (fun u : State => Host.Outcome.next u.tryOpen) (decideVerdict_takes (w' := { s.handedWork with
    notices := s.notices.offer ⟨.learned, some i, 1, []⟩ }) (reserve := 0) consulted rfl unmatched rfl)

end

/-- Settles O48: by what the transfer ends in, and for a valid record by what the lookup finds and the verdict that follows. -/
theorem identityCompletionDecidesTheVerdict : Obligations.IdentityCompletionDecidesTheVerdict := by
  unfold Obligations.IdentityCompletionDecidesTheVerdict
  intro i rest record s
  refine ⟨transfer_readAgain, transfer_orphaned, transfer_failsCheck, transfer_badRecord, fun d k => lookupEntry_spec k,
    fun k b arrives found body => ⟨fun deny free => ?_, fun allows p pin ne free => ?_, fun allows pin =>
      ⟨fun nonzero free short => ?_, fun fits => ⟨fun parks => ?_, fun accepts admits => ?_⟩⟩⟩,
    fun arrives found => ⟨noMatch_refuses arrives found, fun fits => ⟨noMatch_parks arrives found fits,
      fun learn commission => ⟨fun k => noMatch_learns arrives found fits learn commission,
        noMatch_unlearned arrives found fits learn commission⟩⟩⟩⟩
  · exact match_refuses arrives found body (EntryBody.verdict_deny deny) rfl free
  · have refused := match_refuses arrives found body (EntryBody.verdict_wrongSlot allows pin ne) rfl free
    rw [EntryBody.refusalData, pin] at refused
    exact refused
  · exact match_short arrives found body rfl (EntryBody.verdict_takes allows pin) nonzero free short
  · exact match_parks arrives found body (EntryBody.verdict_park allows pin parks) fits rfl
  · exact match_admits arrives found body (EntryBody.verdict_admitCard pin accepts admits) fits rfl

end Sys2Proof.Machine

/-! The windows that a card is given at its qualification pass: first fit under the reserve test (R136 to R139). -/

namespace Sys2Proof.Machine

open Sys2Proof Sys2Proof.Safety

set_option Elab.async false

/-! ## First fit (R136) -/

section
variable {need : Nat} {x : Extent} {low high l : List Extent}

theorem carve_of_split (short : ∀ e ∈ low, e.length < need) (fits : need ≤ x.length) : carve need (low ++ x :: high)
    = some (x.start, low ++ (if x.length = need then high else ⟨x.start + need, x.length - need⟩ :: high)) := by
  induction low with
  | nil => exact if_pos fits
  | cons e low ih =>
    have tooShort : ¬ need ≤ e.length := Nat.not_le.mpr (short e List.mem_cons_self)
    rw [List.cons_append, carve, if_neg tooShort, ih fun a mem => short a (List.mem_cons_of_mem e mem)]
    rfl

theorem carve_eq_none_iff : carve need l = none ↔ ∀ e ∈ l, e.length < need := by
  induction l with
  | nil => exact ⟨fun _ _ mem => absurd mem List.not_mem_nil, fun _ => rfl⟩
  | cons e l ih =>
    rw [carve, List.forall_mem_cons]
    split
    · rename_i fits
      exact ⟨fun h => absurd h (by simp), fun h => absurd fits (Nat.not_le.mpr h.1)⟩
    · rename_i tooShort
      rw [Option.map_eq_none_iff, ih]
      exact ⟨fun h => ⟨Nat.not_le.mp tooShort, h⟩, And.right⟩

/-- A run of bytes set to 0 reads 0 inside it and as before elsewhere, whatever the memory lists. -/
theorem Memory.read_zero_of_any (m : Memory) (a n b : Nat) :
    Memory.read (Memory.zero m a n) b = if a ≤ b ∧ b < a + n then 0 else Memory.read m b := by
  induction m with
  | nil => exact (ite_self _).symm
  | cons c m ih =>
    unfold Memory.zero at ih ⊢
    rw [List.filter_cons, Memory.read]
    split
    · rename_i kept
      have kept : c.1 < a ∨ a + n ≤ c.1 := of_decide_eq_true kept
      rw [Memory.read, ih]
      by_cases here : b = c.1
      · rw [if_pos here, if_pos here, if_neg (by omega)]
      · rw [if_neg here, if_neg here]
    · rename_i dropped
      have dropped : ¬ (c.1 < a ∨ a + n ≤ c.1) := fun h => dropped (decide_eq_true h)
      rw [ih]
      by_cases here : b = c.1
      · rw [if_pos (by omega), if_pos (by omega)]
      · rw [if_neg here]

end

/-! ## The test of an image (R136, R137) -/

section
variable {s : State} {i : Slot} {g : ImageId} {need : Nat} {q : SlotRecord} {w : Work}

theorem State.serviceCard_eq (s : State) (i : Slot) : s.serviceCard i = isService i s := by
  unfold State.serviceCard State.matchedBody isService
  cases (s.ctx i).matched with
  | none => rfl
  | some k =>
    dsimp only [Option.bind_some]
    cases (s.entry k).body <;> rfl

theorem State.canServe_eq_true_iff : s.canServe i g need = true ↔ ¬ NoRoom i g (s.reserveOf g) need s := by
  unfold State.canServe NoRoom State.placeIn
  rw [State.serviceCard_eq, ← carve_eq_none_iff]
  by_cases zero : need = 0
  · rw [beq_iff_eq.mpr zero]
    exact ⟨fun _ h => h.1 zero, fun _ => rfl⟩
  · rw [beq_eq_false_iff_ne.mpr zero, Bool.false_or]
    by_cases kept : isService i s = false ∧ (s.image g).freeTotal < s.reserveOf g + need
    · have noTest : ¬ (isService i s || decide (s.reserveOf g + need ≤ (s.image g).freeTotal)) = true := by
        rw [kept.1, Bool.false_or, decide_eq_true_eq, Nat.not_le]
        exact kept.2
      rw [if_neg noTest]
      exact ⟨fun h => absurd h (by simp), fun h => absurd ⟨zero, Or.inl kept⟩ h⟩
    · have test : (isService i s || decide (s.reserveOf g + need ≤ (s.image g).freeTotal)) = true := by
        rw [Bool.or_eq_true, decide_eq_true_eq]
        by_contra none
        rw [not_or, Bool.not_eq_true, Nat.not_le] at none
        exact kept none
      rw [if_pos test, Option.isSome_iff_ne_none]
      exact ⟨fun fits h => h.2.elim kept fits, fun h none => h ⟨zero, Or.inr none⟩⟩

/-- The image of a work. -/
def Work.image (w : Work) : ImageId → Image
  | .input => w.imageIn
  | .output => w.imageOut

/-- The work with one image replaced. -/
def Work.setImage (w : Work) (g : ImageId) (x : Image) : Work :=
  match g with
  | .input => { w with imageIn := x }
  | .output => { w with imageOut := x }

theorem State.image_put : (s.put i q w).image g = w.image g := by cases g <;> rfl

theorem State.put_setImage (x : Image) : (s.put i q w).setImage g x = s.put i q (w.setImage g x) := by cases g <;> rfl

theorem Work.image_setImage_self (x : Image) : (w.setImage g x).image g = x := by cases g <;> rfl

theorem Work.setImage_setImage (x y : Image) : (w.setImage g x).setImage g y = w.setImage g y := by cases g <;> rfl

theorem Work.setImage_image : w.setImage g (w.image g) = w := by cases g <;> rfl

theorem State.placeIn_put (matched : q.ctx.matched = (s.ctx i).matched) (directory : w.directory = s.directory)
    (image : w.image g = s.image g) : (s.put i q w).placeIn i g need = s.placeIn i g need := by
  have service : (s.put i q w).serviceCard i = s.serviceCard i := by
    have entry : ∀ k, (s.put i q w).entry k = s.entry k := fun k => by
      unfold State.entry
      rw [show (s.put i q w).directory = s.directory from directory]
    have own : ((s.put i q w).ctx i).matched = (s.ctx i).matched := (congrArg Context.matched State.ctx_put_self :).trans matched
    rw [State.serviceCard_eq, State.serviceCard_eq, isService, isService, own]
    simp only [entry]
  have reserve : (s.put i q w).reserveOf g = s.reserveOf g := by cases g <;> rfl
  unfold State.placeIn
  rw [service, reserve, State.image_put, image]

theorem State.canServe_put (matched : q.ctx.matched = (s.ctx i).matched) (directory : w.directory = s.directory)
    (image : w.image g = s.image g) : (s.put i q w).canServe i g need = s.canServe i g need := by
  unfold State.canServe
  rw [State.placeIn_put matched directory image]

/-! ## One window (R136, R139) -/

/-- A need has been placed in the image `x`, which has become `y`: the window is `p`. -/
def PlacedIn (need : Nat) (x : Image) (p : Option Window) (y : Image) : Prop :=
  (need = 0 → p = none ∧ y = x)
    ∧ ∀ (low : List Extent) (e : Extent) (high : List Extent), 0 < need → x.free = low ++ e :: high →
      (∀ a ∈ low, a.length < need) → need ≤ e.length →
      p = some ⟨e.start, need⟩
        ∧ y.free = low ++ (if e.length = need then high else ⟨e.start + need, e.length - need⟩ :: high)
        ∧ ∀ a, Memory.read y.mem a
            = if 16 * e.start ≤ a ∧ a < 16 * e.start + 16 * need then 0 else Memory.read x.mem a

theorem windowPlaced_of_placedIn {t : State} {x : Image} {p : Option Window} {y : Image} (placed : PlacedIn need x p y)
    (before : s.image g = x) (window : (t.ctx i).window g = p) (after : t.image g = y) : WindowPlaced i g need s t := by
  subst before window after
  exact placed

/-- A slot's record with its window of one image. -/
def SlotRecord.windowed (g : ImageId) (p : Option Window) (r : SlotRecord) : SlotRecord :=
  { r with ctx := r.ctx.setWindow g p }

/-- The window of a slot that holds none is carved, handed over and zeroed. -/
theorem State.put_placeWindow (serves : (s.put i q w).canServe i g need = true) (empty : q.ctx.window g = none) :
    ∃ p y, (s.put i q w).placeWindow i g need = s.put i (q.windowed g p) (w.setImage g y) ∧ PlacedIn need (w.image g) p y := by
  unfold State.placeWindow
  by_cases zero : need = 0
  · have same : q.windowed g none = q := by
      unfold SlotRecord.windowed
      cases g
      · rw [Context.setWindow, ← show q.ctx.inWindow = none from empty]
      · rw [Context.setWindow, ← show q.ctx.outWindow = none from empty]
    rw [if_pos zero]
    refine ⟨none, w.image g, ?_, fun _ => ⟨rfl, rfl⟩, fun _ _ _ pos => absurd zero (Nat.pos_iff_ne_zero.mp pos)⟩
    rw [same, Work.setImage_image]
  · obtain ⟨⟨start, rest⟩, place⟩ : ∃ p, (s.put i q w).placeIn i g need = some p := by
      unfold State.canServe at serves
      rw [beq_eq_false_iff_ne.mpr zero, Bool.false_or] at serves
      exact Option.isSome_iff_exists.mp serves
    have carved : carve need (w.image g).free = some (start, rest) := by
      have placed := place
      unfold State.placeIn at placed
      rw [State.image_put] at placed
      split at placed
      · exact placed
      · exact absurd placed (by simp)
    rw [if_neg zero, place]
    dsimp only
    rw [State.image_put, State.put_setImage]
    have held : (s.put i q (w.setImage g { w.image g with free := rest })).releaseWindow i g
        = s.put i q (w.setImage g { w.image g with free := rest }) := State.releaseWindow_of_none (by
      rw [State.ctx_put_self]
      exact empty)
    have window : (q.windowed g (some ⟨start, need⟩)).ctx.window g = some ⟨start, need⟩ := by cases g <;> rfl
    refine ⟨some ⟨start, need⟩, ⟨Memory.zero (w.image g).mem (16 * start) (16 * need), rest⟩, ?_, fun h => absurd h zero,
      fun low e high _ free short fits => ?_⟩
    · rw [held, State.modCtx_eq, State.put_modSlot]
      change (s.put i (q.windowed g (some ⟨start, need⟩)) _).zeroWindow i g = _
      unfold State.zeroWindow
      rw [State.ctx_put_self, window]
      dsimp only
      rw [State.image_put, State.put_setImage, Work.image_setImage_self, Work.setImage_setImage]
      rfl
    · rw [free, carve_of_split short fits] at carved
      obtain ⟨rfl, rfl⟩ := Prod.mk.inj (Option.some.inj carved)
      exact ⟨rfl, rfl, fun a => Memory.read_zero_of_any _ _ _ a⟩

end

end Sys2Proof.Machine

/-! The qualification pass: the card is placed, or refused (R37, R100, R138, R151 to R153, R161). -/

namespace Sys2Proof.Machine

open Sys2Proof Sys2Proof.Safety

set_option Elab.async false

section
variable {s : State} {i : Slot} {n : Nat} {e : Expected} {d : Identity}

/-! ## The pass (R100) -/

/-- A slot's record as its run of fine matches is complete: its detector is stopped. -/
def SlotRecord.qualified (r : SlotRecord) : SlotRecord := { r with detector := (r.detector.fineResult true).stop }

/-- The state as the pass asks for scan time and room. -/
def State.passing (s : State) (i : Slot) : State := s.put i (s.slot i).qualified s.work

/-- The state as the pass has found scan time and room: the cost is held, the windows are given and the JOIN is pending. -/
def State.admitted (s : State) (i : Slot) (d : Identity) : State :=
  ((((s.modScan i fun c => { c with cost := some d.cost }).placeWindows i (segmentsFor (d.declared .input))
    (segmentsFor (d.declared .output))).setState i .spliceWait)).takeJoin i

/-- What a pass comes to with the identity at hand. -/
def State.passed (s : State) (i : Slot) (d : Identity) : State :=
  if s.load + d.cost ≤ s.budget then
    if !s.canServe i .input (segmentsFor (d.declared .input)) then
      s.refuseWith i .noRoom (s.noRoomData .input (segmentsFor (d.declared .input)))
    else if !s.canServe i .output (segmentsFor (d.declared .output)) then
      s.refuseWith i .noRoom (s.noRoomData .output (segmentsFor (d.declared .output)))
    else s.admitted i d
  else s.refuseWith i .noScanTime (be16 (minimumPeriod (s.load + d.cost) s.params.fillPercent))

variable (completes : PassCompletes i n e d s)
include completes

theorem exec_lockCheckpoint64_of_pass : exec (.lockCheckpoint64 i) s = .next ((s.passing i).passed i d) := by
  obtain ⟨-, -, -, identity, run, expected, duty, due, below, above, runs⟩ := completes
  have stopped : (s.modDet i fun d => d.fineResult true).stopDetector i = s.passing i := by
    unfold State.stopDetector
    rw [State.modDet_eq, State.modDet_eq, State.modSlot_eq_put (s := s), State.put_modSlot]
    rfl
  have own : ((s.passing i).ctx i).identity = some d := (congrArg Context.identity State.ctx_put_self :).trans identity
  have pass : (s.modDet i fun d => d.fineResult true).qualificationPass i = (s.passing i).passed i d := by
    unfold State.qualificationPass
    dsimp only
    rw [stopped, own]
    rfl
  rw [exec_lockCheckpoint64 run expected duty due (countMatches_eq_true ⟨below, above⟩), State.fineFollowed]
  exact congrArg Host.Outcome.next ((if_pos runs).trans pass)

/-! ## The questions of the pass, asked of the state before it -/

omit completes in
theorem State.load_passing : (s.passing i).load = s.load := State.total_congr fun j => by
  by_cases own : j = i
  · rw [own, State.passing, State.slot_put_self]
    rfl
  · rw [State.passing, State.slot_put_ne own]

omit completes in
theorem State.canServe_passing (g : ImageId) (need : Nat) :
    (s.passing i).canServe i g need = true ↔ ¬ NoRoom i g (s.reserveOf g) need s := by
  have same : (s.passing i).canServe i g need = s.canServe i g need :=
    State.canServe_put (q := (s.slot i).qualified) (w := s.work) rfl rfl (by cases g <;> rfl)
  rw [same, State.canServe_eq_true_iff]

omit completes in
theorem State.canServe_passing_eq_false (g : ImageId) (need : Nat) (none : NoRoom i g (s.reserveOf g) need s) :
    (s.passing i).canServe i g need = false :=
  Bool.eq_false_iff.mpr fun serves => (State.canServe_passing g need).mp serves none

/-! ## The refusals (R37, R138) -/

theorem passRefused_of_refuseWith (v : Verdict) (data : List Byte) (free : FreeOfQueues i s) :
    PassRefused i s ((s.passing i).refuseWith i v data) v v.code data := by
  obtain ⟨qualifying, -⟩ := completes
  have state : ((s.slot i).qualified.judged v).ctx.state = .qualifying := qualifying
  have refusal := refusalReaches (s := s) (i := i) (q := (s.slot i).qualified.judged v) (v := v) (data := data) rfl rfl rfl free
  have made : (s.passing i).refuseWith i v data
      = (s.put i ((s.slot i).qualified.judged v) s.work).beginWithdrawal i .refused .refused false data := by
    rw [State.refuseWith, State.passing, State.put_setVerdict]
  rw [← made] at refusal
  obtain ⟨refused, ⟨r, w, reached, lane, imageIn, imageOut, detector, scan⟩, directory⟩ := refusal
  have begun : (((s.slot i).qualified.judged v).begun .refused .refused).detector.run = .stopped
      ∧ (((s.slot i).qualified.judged v).begun .refused .refused).scan = s.scanOf i := by
    unfold SlotRecord.begun
    rw [state]
    exact ⟨rfl, SlotRecord.marked_scan (reason := .refused) (dest := .refused)⟩
  rw [state] at lane imageIn imageOut
  generalize (s.passing i).refuseWith i v data = t at refused reached directory
  have lane' : s.lane = t.lane := (reached.lane.trans lane).symm
  have imageIn' : s.imageIn = t.imageIn := (reached.imageIn.trans imageIn).symm
  have imageOut' : s.imageOut = t.imageOut := (reached.imageOut.trans imageOut).symm
  refine ⟨refused, ?_, ?_, Eq.trans ?_ reached.rest, fun closed => ?_⟩
  · rw [State.det_eq, reached.own, detector]
    exact begun.1
  · rw [State.scanOf_eq, reached.own, scan, begun.2]
  · rw [lane', imageIn', imageOut']
  · rw [directory, closed, if_pos rfl]

/-! ## The card that is placed (R37, R139, R151 to R153) -/

/-- A slot's record as its card waits for its splice. -/
def SlotRecord.waiting (d : Identity) (pIn pOut : Option Window) (r : SlotRecord) : SlotRecord :=
  { r with
    monitor := r.monitor.showPattern SlotState.spliceWait.pattern
    ctx := { r.ctx with state := .spliceWait, inWindow := pIn, outWindow := pOut, inputQuality := some .none }
    detector := (r.detector.fineResult true).stop
    scan := { r.scan with cost := some d.cost, splice := some .join } }

theorem admitted_of_room (roomIn : (s.passing i).canServe i .input (segmentsFor (d.declared .input)) = true)
    (roomOut : (s.passing i).canServe i .output (segmentsFor (d.declared .output)) = true) :
    ∃ pIn xIn pOut xOut, PlacedIn (segmentsFor (d.declared .input)) s.imageIn pIn xIn
      ∧ PlacedIn (segmentsFor (d.declared .output)) s.imageOut pOut xOut
      ∧ (s.passing i).admitted i d
        = if s.scan.state = .stopped ∧ s.clock.frozen = false
            then (s.put i ((s.slot i).waiting d pIn pOut) { s.work with imageIn := xIn, imageOut := xOut }).applyJoin i
            else s.put i ((s.slot i).waiting d pIn pOut) { s.work with imageIn := xIn, imageOut := xOut } := by
  obtain ⟨state, inWindow, outWindow, -⟩ := completes
  have begun : (s.passing i).modScan i (fun c => { c with cost := some d.cost })
      = s.put i { (s.slot i).qualified with scan := { (s.slot i).scan with cost := some d.cost } } s.work := by
    rw [State.modScan_eq, State.passing, State.put_modSlot]
    rfl
  have serves : ∀ g need (q : SlotRecord) (w : Work), q.ctx.matched = (s.ctx i).matched → w.directory = s.directory →
      w.image g = s.image g → (s.passing i).canServe i g need = true → (s.put i q w).canServe i g need = true :=
    fun g need q w matched directory image room => by
      rw [State.canServe_put matched directory image]
      exact State.canServe_eq_true_iff.mpr ((State.canServe_passing g need).mp room)
  obtain ⟨pOut, xOut, placedOut, outAt⟩ := State.put_placeWindow (s := s) (g := .output)
    (q := { (s.slot i).qualified with scan := { (s.slot i).scan with cost := some d.cost } }) (w := s.work)
    (serves _ _ _ _ rfl rfl rfl roomOut) outWindow
  obtain ⟨pIn, xIn, placedIn, inAt⟩ := State.put_placeWindow (s := s) (g := .input)
    (q := SlotRecord.windowed .output pOut { (s.slot i).qualified with scan := { (s.slot i).scan with cost := some d.cost } })
    (w := s.work.setImage .output xOut) (serves _ _ _ _ rfl rfl rfl roomIn) inWindow
  refine ⟨pIn, xIn, pOut, xOut, inAt, outAt, ?_⟩
  unfold State.admitted State.placeWindows State.takeJoin
  rw [begun, placedOut, placedIn, State.modCtx_eq, State.put_modSlot, State.setState_eq, State.put_modSlot, State.modScan_eq,
    State.put_modSlot, SlotRecord.enter_of_ne_online (by exact state ▸ (by decide : SlotState.qualifying ≠ .online))]
  rfl

/-- A card has its windows, its cost and its switch as they are to be. -/
def CardPlaced (i : Slot) (d : Identity) (s t : State) : Prop :=
  (∀ j, j ≠ i → t.slot j = s.slot j)
    ∧ { t with slots := s.slots, imageIn := s.imageIn, imageOut := s.imageOut, notices := s.notices } = s
    ∧ (t.ctx i).inputQuality = some .none
    ∧ WindowPlaced i .input (segmentsFor (d.declared .input)) s t
    ∧ WindowPlaced i .output (segmentsFor (d.declared .output)) s t
    ∧ (t.scanOf i).cost = some d.cost ∧ t.railOf i = s.railOf i

omit completes in
theorem cardPlaced_of_waiting {t : State} {pIn pOut : Option Window} {xIn xOut : Image}
    (inAt : PlacedIn (segmentsFor (d.declared .input)) s.imageIn pIn xIn)
    (outAt : PlacedIn (segmentsFor (d.declared .output)) s.imageOut pOut xOut)
    (others : ∀ j, j ≠ i → t.slot j = s.slot j)
    (rest : { t with slots := s.slots, notices := s.notices } = { s with imageIn := xIn, imageOut := xOut })
    (ctx : (t.ctx i).inputQuality = some .none ∧ (t.ctx i).inWindow = pIn ∧ (t.ctx i).outWindow = pOut)
    (cost : (t.scanOf i).cost = some d.cost) (rail : t.railOf i = s.railOf i) : CardPlaced i d s t := by
  obtain ⟨quality, inWindow, outWindow⟩ := ctx
  refine ⟨others, ?_, quality, windowPlaced_of_placedIn inAt rfl inWindow (congrArg State.imageIn rest :),
    windowPlaced_of_placedIn outAt rfl outWindow (congrArg State.imageOut rest :), cost, rail⟩
  exact congrArg (fun u : State => { u with imageIn := s.imageIn, imageOut := s.imageOut }) rest

/-- With scan time and room the card is placed, and its JOIN waits or is applied. -/
theorem pass_places (time : s.load + d.cost ≤ s.budget)
    (roomIn : ¬ NoRoom i .input s.params.imageReserveIn (segmentsFor (d.declared .input)) s)
    (roomOut : ¬ NoRoom i .output s.params.imageReserveOut (segmentsFor (d.declared .output)) s) :
    ∃ t, exec (.lockCheckpoint64 i) s = .next t ∧ CardPlaced i d s t
      ∧ (if s.scan.state = .stopped ∧ s.clock.frozen = false then
          Safety.Joined i s t ∧ t.notices = s.notices.offer ⟨.online, some i, 0, be32 s.scan.cycle.toNat⟩
        else
          (t.ctx i).state = .spliceWait ∧ (t.scanOf i).splice = some .join
            ∧ (t.det i).run = .stopped ∧ (t.det i).qualTimer = .idle ∧ (t.det i).fine = true
            ∧ t.notices = s.notices) := by
  have servesIn := (State.canServe_passing .input (segmentsFor (d.declared .input))).mpr roomIn
  have servesOut := (State.canServe_passing .output (segmentsFor (d.declared .output))).mpr roomOut
  have time' : (s.passing i).load + d.cost ≤ (s.passing i).budget := by
    rw [State.load_passing]
    exact time
  have ran := exec_lockCheckpoint64_of_pass completes
  rw [State.passed, if_pos time', servesIn, servesOut, Bool.not_true, if_neg Bool.false_ne_true, if_neg Bool.false_ne_true] at ran
  obtain ⟨pIn, xIn, pOut, xOut, inAt, outAt, placed⟩ := admitted_of_room completes servesIn servesOut
  rw [placed] at ran
  have own : (s.put i ((s.slot i).waiting d pIn pOut) { s.work with imageIn := xIn, imageOut := xOut }).slot i
      = (s.slot i).waiting d pIn pOut := State.slot_put_self
  have others : ∀ j, j ≠ i → (s.put i ((s.slot i).waiting d pIn pOut)
      { s.work with imageIn := xIn, imageOut := xOut }).slot j = s.slot j := fun j hj => State.slot_put_ne hj
  have rest : { s.put i ((s.slot i).waiting d pIn pOut) { s.work with imageIn := xIn, imageOut := xOut } with
      slots := s.slots, notices := s.notices } = { s with imageIn := xIn, imageOut := xOut } := rfl
  have notices : (s.put i ((s.slot i).waiting d pIn pOut) { s.work with imageIn := xIn, imageOut := xOut }).notices
      = s.notices := rfl
  generalize s.put i ((s.slot i).waiting d pIn pOut) { s.work with imageIn := xIn, imageOut := xOut } = u
    at ran own others rest notices
  refine ⟨_, ran, ?_⟩
  by_cases applied : s.scan.state = .stopped ∧ s.clock.frozen = false
  · have clock : u.clock = s.clock := (congrArg State.clock rest :)
    have scan : u.scan = s.scan := (congrArg State.scan rest :)
    have joined : (u.applyJoin i).slot i = (u.slot i).spliced u.clock.refLost u.qualUs := by
      rw [State.applyJoin_eq, State.slot_post, State.slot_modSlot_self]
    have othersJoin : ∀ j, j ≠ i → (u.applyJoin i).slot j = s.slot j := fun j hj => by
      rw [State.applyJoin_eq, State.slot_post, State.slot_modSlot_ne _ _ hj, others j hj]
    have restJoin : { u.applyJoin i with slots := s.slots, notices := s.notices } = { s with imageIn := xIn, imageOut := xOut } := by
      rw [State.applyJoin_eq]
      exact rest
    have posted : (u.applyJoin i).notices = s.notices.offer ⟨.online, some i, 0, be32 s.scan.cycle.toNat⟩ := by
      rw [State.applyJoin_eq]
      change u.notices.offer (u.scan.onlineNotice i) = _
      rw [notices, scan]
      rfl
    obtain ⟨⟨state, attempts, missCount, splice, skip, duty, timer, run, steady, rail⟩, cost, inWindow, outWindow⟩ :=
      joined_of_slot joined
    have quality : ((u.applyJoin i).ctx i).inputQuality = (u.ctx i).inputQuality := by
      rw [State.ctx_eq, joined, (SlotRecord.spliced_spec _ _ _).1]
      rfl
    rw [clock] at run
    rw [State.ctx_eq u, own] at steady inWindow outWindow quality
    rw [State.railOf_eq u, own] at rail
    rw [State.scanOf_eq u, own] at cost
    rw [if_pos applied, if_pos applied]
    exact ⟨cardPlaced_of_waiting inAt outAt othersJoin restJoin ⟨quality, inWindow, outWindow⟩ cost rail,
      ⟨state, attempts, missCount, splice, skip, duty, timer, run, steady, rail⟩, posted⟩
  · have ctx : u.ctx i = _ := congrArg SlotRecord.ctx own
    have det : u.det i = _ := congrArg SlotRecord.detector own
    have scan : u.scanOf i = _ := congrArg SlotRecord.scan own
    have rail : u.railOf i = _ := congrArg SlotRecord.rail own
    rw [if_neg applied, if_neg applied]
    refine ⟨cardPlaced_of_waiting inAt outAt others rest ?_ ?_ rail, ?_⟩
    · rw [ctx]
      exact ⟨rfl, rfl, rfl⟩
    · rw [scan]
      rfl
    · rw [ctx, scan, det]
      exact ⟨rfl, rfl, rfl, rfl, rfl, notices⟩

/-! ## The pass that is refused -/

theorem pass_noScanTime (free : FreeOfQueues i s) (late : s.budget < s.load + d.cost) :
    ∃ t, exec (.lockCheckpoint64 i) s = .next t
      ∧ PassRefused i s t .noScanTime 9 (be16 (minimumPeriod (s.load + d.cost) s.params.fillPercent)) := by
  have late' : ¬ (s.passing i).load + d.cost ≤ (s.passing i).budget := by
    rw [State.load_passing]
    exact Nat.not_le.mpr late
  have ran := exec_lockCheckpoint64_of_pass completes
  rw [State.passed, if_neg late', State.load_passing] at ran
  exact ⟨_, ran, passRefused_of_refuseWith completes .noScanTime _ free⟩

theorem pass_noRoom_input (free : FreeOfQueues i s) (time : s.load + d.cost ≤ s.budget)
    (full : NoRoom i .input s.params.imageReserveIn (segmentsFor (d.declared .input)) s) :
    ∃ t, exec (.lockCheckpoint64 i) s = .next t
      ∧ PassRefused i s t .noRoom 8 (s.noRoomData .input (segmentsFor (d.declared .input))) := by
  have time' : (s.passing i).load + d.cost ≤ (s.passing i).budget := by
    rw [State.load_passing]
    exact time
  have ran := exec_lockCheckpoint64_of_pass completes
  rw [State.passed, if_pos time', State.canServe_passing_eq_false .input _ full, Bool.not_false, if_pos rfl] at ran
  exact ⟨_, ran, passRefused_of_refuseWith completes .noRoom _ free⟩

theorem pass_noRoom_output (free : FreeOfQueues i s) (time : s.load + d.cost ≤ s.budget)
    (room : ¬ NoRoom i .input s.params.imageReserveIn (segmentsFor (d.declared .input)) s)
    (full : NoRoom i .output s.params.imageReserveOut (segmentsFor (d.declared .output)) s) :
    ∃ t, exec (.lockCheckpoint64 i) s = .next t
      ∧ PassRefused i s t .noRoom 8 (s.noRoomData .output (segmentsFor (d.declared .output))) := by
  have time' : (s.passing i).load + d.cost ≤ (s.passing i).budget := by
    rw [State.load_passing]
    exact time
  have serves := (State.canServe_passing .input (segmentsFor (d.declared .input))).mpr room
  have ran := exec_lockCheckpoint64_of_pass completes
  rw [State.passed, if_pos time', serves, Bool.not_true, if_neg Bool.false_ne_true,
    State.canServe_passing_eq_false .output _ full, Bool.not_false, if_pos rfl] at ran
  exact ⟨_, ran, passRefused_of_refuseWith completes .noRoom _ free⟩

end

/-- Settles O50: the pass asks for scan time, then for room in IN and then in OUT; the first that it lacks refuses the card, and
else the card is placed. -/
theorem qualificationPassPlacesTheCard : Obligations.QualificationPassPlacesTheCard := by
  unfold Obligations.QualificationPassPlacesTheCard
  intro i n e d s completes
  refine ⟨fun time roomIn roomOut => ?_, fun free late => pass_noScanTime completes free late,
    fun free time => ⟨fun full => pass_noRoom_input completes free time full,
      fun room full => pass_noRoom_output completes free time room full⟩⟩
  obtain ⟨t, ran, ⟨others, rest, quality, inAt, outAt, cost, rail⟩, spliced⟩ := pass_places completes time roomIn roomOut
  exact ⟨t, ran, others, rest, quality, inAt, outAt, cost, rail, spliced⟩

end Sys2Proof.Machine

/-! The LEAVEs of a splice list: what the departures make of their slots and of the others (R150, R152, R154). -/

namespace Sys2Proof.Machine

open Sys2Proof Sys2Proof.Safety

set_option Elab.async false

/-! ## What a step of a withdrawal leaves of the scan and of the other slots -/

/-- `t` keeps the scan records of `s`, the slots other than `i` that are not in the ramp queue, and every block but those that a
withdrawal reaches. -/
structure State.KeepsScans (i : Slot) (s t : State) : Prop where
  others : ∀ j, j ≠ i → (s.railOf j).queued = false → t.slot j = s.slot j
  scans : ∀ j, t.scanOf j = s.scanOf j
  rest : { t with
    slots := s.slots, imageIn := s.imageIn, imageOut := s.imageOut, directory := s.directory, notices := s.notices
    rail := { t.rail with lastGranted := s.rail.lastGranted } } = s

section
variable {s t u : State} {i : Slot}

/-- The same blocks through an intermediate state. -/
theorem rest_trans (h : { t with
      slots := s.slots, imageIn := s.imageIn, imageOut := s.imageOut, directory := s.directory, notices := s.notices
      rail := { t.rail with lastGranted := s.rail.lastGranted } } = s)
    (g : { u with
      slots := t.slots, imageIn := t.imageIn, imageOut := t.imageOut, directory := t.directory, notices := t.notices
      rail := { u.rail with lastGranted := t.rail.lastGranted } } = t) :
    { u with
      slots := s.slots, imageIn := s.imageIn, imageOut := s.imageOut, directory := s.directory, notices := s.notices
      rail := { u.rail with lastGranted := s.rail.lastGranted } } = s :=
  Eq.trans (congrArg (fun v : State => { v with
    slots := s.slots, imageIn := s.imageIn, imageOut := s.imageOut, directory := s.directory, notices := s.notices
    rail := { v.rail with lastGranted := s.rail.lastGranted } }) g :) h

theorem State.KeepsScans.refl (s : State) (i : Slot) : KeepsScans i s s := ⟨fun _ _ _ => rfl, fun _ => rfl, rfl⟩

theorem State.KeepsScans.trans (h : KeepsScans i s t) (g : KeepsScans i t u) : KeepsScans i s u where
  others j hj queued := by
    have same := h.others j hj queued
    rw [g.others j hj (by rw [State.railOf_eq, same]; exact queued), same]
  scans j := (g.scans j).trans (h.scans j)
  rest := rest_trans h.rest g.rest

theorem State.keepsScans_worked {f : SlotRecord → SlotRecord} {w : Work} (lane : w.lane = s.lane)
    (scan : (f (s.slot i)).scan = s.scanOf i) : KeepsScans i s (s.worked i f w) where
  others _ hj _ := State.slot_worked_ne hj
  scans j := by
    by_cases e : j = i
    · rw [e, State.scanOf_worked_self, scan]
    · rw [State.scanOf_eq, State.slot_worked_ne e, State.scanOf_eq]
  rest := by
    unfold State.worked
    rw [lane]
    rfl

theorem State.keepsScans_arbitrate (s : State) (i : Slot) : KeepsScans i s s.arbitrate where
  others _ _ queued := State.arbitrate_slot_of_not_queued queued
  scans j := (s.arbitrate_grantedFrom.slot j).scan
  rest := (congrArg (fun u : State => { u with
    slots := s.slots, imageIn := s.imageIn, imageOut := s.imageOut, directory := s.directory, notices := s.notices
    rail := { u.rail with lastGranted := s.rail.lastGranted } }) s.arbitrate_rest :)

theorem State.keepsScans_powerStep (s : State) (i : Slot) : KeepsScans i s (s.powerStep i) := by
  unfold State.powerStep
  split
  · exact (State.keepsScans_worked (w := s.work) rfl rfl).trans (State.keepsScans_arbitrate _ i)
  · exact .refl s i

theorem State.keepsScans_endIfDone (s : State) (i : Slot) : KeepsScans i s (s.endIfDone i) := by
  unfold State.endIfDone
  split
  · rw [State.endWithdrawal_worked]
    exact State.keepsScans_worked rfl SlotRecord.withdrawn_scan
  · exact .refl s i

end

/-! ## One departure (R154, R168) -/

/-- A slot's record as it has left the roster, its power step aside. -/
def SlotRecord.outOfRoster (r : SlotRecord) : SlotRecord := { r.windowless with scan := ScanSlot.reset }

/-- A departure ends the slot's withdrawal: its power step is behind it and no discharge runs (R165). -/
def SlotRecord.endsAtLeave (r : SlotRecord) : Bool :=
  decide (r.ctx.state = .withdrawing) && !r.rail.closed && r.rail.dischargeTimer.isNone


/-- A slot's record as its LEAVE has been applied. -/
def SlotRecord.gone (dischargeUs settleUs : Nat) (r : SlotRecord) : SlotRecord :=
  if r.rail.closed = true then r.outOfRoster.openSwitch dischargeUs
  else if r.endsAtLeave = true then r.outOfRoster.unmatched.withdrawn settleUs
  else r.outOfRoster

/-- The notices as the LEAVE of slot `i` has been applied. -/
def Notices.left (i : Slot) (r : SlotRecord) (q : Notices) : Notices :=
  if r.endsAtLeave = true then q.offer (r.ctx.dropWindows.withdrawnNotice i) else q

/-- The blocks that the LEAVE of a slot reaches, as it has been applied. -/
def Work.left (i : Slot) (r : SlotRecord) (w : Work) : Work :=
  { w with
    imageIn := w.imageIn.give r.ctx.inWindow, imageOut := w.imageOut.give r.ctx.outWindow
    directory := if r.endsAtLeave = true then w.directory.unuse r.ctx.matched else w.directory
    notices := w.notices.left i r }

section
variable {r : SlotRecord} {dischargeUs settleUs : Nat}

theorem SlotRecord.endsAtLeave_iff : r.endsAtLeave = true
    ↔ r.ctx.state = .withdrawing ∧ r.rail.closed = false ∧ r.rail.dischargeTimer = none := by
  unfold SlotRecord.endsAtLeave
  rw [Bool.and_eq_true, Bool.and_eq_true, decide_eq_true_eq, Bool.not_eq_true', Option.isNone_iff_eq_none, and_assoc]

theorem SlotRecord.gone_of_closed (closed : r.rail.closed = true) :
    r.gone dischargeUs settleUs = r.outOfRoster.openSwitch dischargeUs ∧ r.endsAtLeave = false :=
  ⟨if_pos closed, Bool.eq_false_iff.mpr fun ends =>
    Bool.false_ne_true ((SlotRecord.endsAtLeave_iff.mp ends).2.1.symm.trans closed)⟩

theorem SlotRecord.gone_of_ends (ends : r.endsAtLeave = true) :
    r.gone dischargeUs settleUs = r.outOfRoster.unmatched.withdrawn settleUs := by
  obtain ⟨-, isOpen, -⟩ := SlotRecord.endsAtLeave_iff.mp ends
  unfold SlotRecord.gone
  rw [isOpen, if_neg Bool.false_ne_true, if_pos ends]

theorem SlotRecord.gone_of_open (isOpen : r.rail.closed = false) (stays : r.endsAtLeave = false) :
    r.gone dischargeUs settleUs = r.outOfRoster := by
  unfold SlotRecord.gone
  rw [isOpen, if_neg Bool.false_ne_true, stays, if_neg Bool.false_ne_true]

theorem SlotRecord.gone_scan : (r.gone dischargeUs settleUs).scan = ScanSlot.reset := by
  unfold SlotRecord.gone
  split
  · rfl
  · split
    · exact SlotRecord.withdrawn_scan
    · rfl

theorem SlotRecord.gone_queued (queued : r.rail.queued = false) : (r.gone dischargeUs settleUs).rail.queued = false := by
  unfold SlotRecord.gone
  split
  · exact queued
  · split
    · rw [SlotRecord.withdrawn_rail]
      exact queued
    · exact queued

end

section
variable {s : State} {i : Slot}

/-- A departure of a slot outside the ramp queue. -/
theorem State.reaches_depart (queued : (s.railOf i).queued = false) :
    Reaches i ((s.slot i).gone s.dischargeUs s.longSettleUs) (s.work.left i (s.slot i)) s (s.depart i) := by
  have here := State.Reaches.refl s i
  cases closed : (s.slot i).rail.closed with
  | true =>
    obtain ⟨gone, stays⟩ := SlotRecord.gone_of_closed (dischargeUs := s.dischargeUs) (settleUs := s.longSettleUs) closed
    have left := here.depart_closed closed queued
    rw [gone, Work.left, Notices.left, stays, if_neg Bool.false_ne_true, if_neg Bool.false_ne_true]
    exact left
  | false =>
    cases ends : (s.slot i).endsAtLeave with
    | true =>
      obtain ⟨state, -, discharge⟩ := SlotRecord.endsAtLeave_iff.mp ends
      have left := here.depart_open state closed discharge
      rw [SlotRecord.gone_of_ends ends, Work.left, Notices.left, ends, if_pos rfl, if_pos rfl]
      exact left
    | false =>
      have powered : (s.departed i).powerStep i = s.departed i := State.powerStep_of_open (by
        rw [State.railOf_eq, State.slot_departed]
        exact closed)
      have out : (s.departed i).inRoster i = false := by
        rw [State.inRoster, State.scanOf_eq, State.slot_departed]
        rfl
      have waits : (s.departed i).withdrawalDone i = false := by
        have same : (s.departed i).withdrawalDone i = (s.slot i).endsAtLeave := by
          unfold State.withdrawalDone
          rw [out, State.ctx_eq, State.railOf_eq, State.slot_departed, SlotRecord.endsAtLeave, closed]
          rfl
        rw [same, ends]
      have left := here.departed
      rw [SlotRecord.gone_of_open closed ends, Work.left, Notices.left, ends, if_neg Bool.false_ne_true,
        if_neg Bool.false_ne_true, State.depart_eq, powered, State.endIfDone, waits, if_neg Bool.false_ne_true]
      exact left

/-- What a departure leaves, of whatever slot. -/
theorem State.depart_leaves (s : State) (i : Slot) :
    (∀ j, j ≠ i → (s.railOf j).queued = false → (s.depart i).slot j = s.slot j)
      ∧ (∀ j, (s.depart i).scanOf j = if j = i then ScanSlot.reset else s.scanOf j)
      ∧ { s.depart i with
          slots := s.slots, imageIn := s.imageIn, imageOut := s.imageOut, directory := s.directory, notices := s.notices
          rail := { (s.depart i).rail with lastGranted := s.rail.lastGranted } } = s := by
  have kept := ((s.departed i).keepsScans_powerStep i).trans (State.keepsScans_endIfDone _ i)
  rw [← State.depart_eq] at kept
  have others : ∀ j, j ≠ i → (s.departed i).slot j = s.slot j := fun j hj => State.slot_worked_ne hj
  refine ⟨fun j hj queued => ?_, fun j => ?_, rest_trans (t := s.departed i) rfl kept.rest⟩
  · rw [kept.others j hj (by rw [State.railOf_eq, others j hj]; exact queued), others j hj]
  · rw [kept.scans]
    split
    · rename_i e
      rw [e, State.scanOf_eq, State.slot_departed]
    · rename_i e
      rw [State.scanOf_eq, others j e, State.scanOf_eq]

end

/-! ## Every LEAVE (R150, R152) -/

/-- The part after the LEAVEs of a list of distinct slots. -/
structure State.LeavesAlong (l : List Slot) (s t : State) : Prop where
  own : ∀ j ∈ l, (s.railOf j).queued = false → t.slot j = (s.slot j).gone s.dischargeUs s.longSettleUs
  others : ∀ j, j ∉ l → (s.railOf j).queued = false → t.slot j = s.slot j
  scans : ∀ j, t.scanOf j = if j ∈ l then ScanSlot.reset else s.scanOf j
  notices : (∀ j ∈ l, (s.railOf j).queued = false) → t.notices = l.foldl (fun q j => q.left j (s.slot j)) s.notices
  rest : { t with
    slots := s.slots, imageIn := s.imageIn, imageOut := s.imageOut, directory := s.directory, notices := s.notices
    rail := { t.rail with lastGranted := s.rail.lastGranted } } = s

theorem State.leavesAlong_foldl {l : List Slot} (distinct : l.Nodup) : ∀ s : State,
    LeavesAlong l s (l.foldl State.depart s) := by
  induction l with
  | nil => exact fun s => ⟨fun _ h => absurd h List.not_mem_nil, fun _ _ _ => rfl, fun _ => rfl, fun _ => rfl, rfl⟩
  | cons i l ih =>
    intro s
    obtain ⟨new, distinct⟩ := List.nodup_cons.mp distinct
    obtain ⟨own, others, scans, notices, rest⟩ := ih distinct (s.depart i)
    obtain ⟨second, scansFirst, blocks⟩ := s.depart_leaves i
    have first := State.reaches_depart (s := s) (i := i)
    rw [List.foldl_cons]
    generalize s.depart i = u at own others scans notices rest second scansFirst blocks first
    have params : u.params = s.params := (congrArg State.params blocks :)
    have discharge : u.dischargeUs = s.dischargeUs := by rw [State.dischargeUs, params, State.dischargeUs]
    have settle : u.longSettleUs = s.longSettleUs := by
      rw [State.longSettleUs, State.settleUs, discharge, params, State.longSettleUs, State.settleUs]
    generalize l.foldl State.depart u = t at own others scans notices rest
    have out : ∀ j, j ≠ i → (s.railOf j).queued = false → (u.railOf j).queued = false := fun j hj queued => by
      rw [State.railOf_eq, second j hj queued]
      exact queued
    refine ⟨fun j mem queued => ?_, fun j hj queued => ?_, fun j => ?_, fun queued => ?_, rest_trans blocks rest⟩
    · by_cases e : j = i
      · subst e
        have gone := (first queued).own
        rw [others j new (by rw [State.railOf_eq, gone]; exact SlotRecord.gone_queued queued), gone]
      · rw [own j (List.mem_of_ne_of_mem e mem) (out j e queued), second j e queued, discharge, settle]
    · rw [List.mem_cons, not_or] at hj
      rw [others j hj.2 (out j hj.1 queued), second j hj.1 queued]
    · rw [scans, scansFirst]
      by_cases e : j = i
      · subst e
        rw [if_neg new, if_pos rfl, if_pos List.mem_cons_self]
      · simp only [List.mem_cons, e, if_false, false_or]
    · obtain ⟨queuedFirst, queued⟩ := List.forall_mem_cons.mp queued
      have apart : ∀ j ∈ l, j ≠ i := fun j mem e => new (e ▸ mem)
      rw [notices fun j mem => out j (apart j mem) (queued j mem), (first queuedFirst).notices, List.foldl_cons]
      refine List.foldl_ext _ _ _ fun q j mem => ?_
      rw [second j (apart j mem) (queued j mem)]

theorem State.leavesAlong_applyLeaves (s : State) : LeavesAlong (s.pendingSplices .leave) s s.applyLeaves :=
  State.leavesAlong_foldl State.nodup_pendingSplices s

theorem State.applyLeaves_of_none {s : State} (h : ∀ j, (s.scanOf j).splice ≠ some .leave) : s.applyLeaves = s := by
  unfold State.applyLeaves
  rw [State.pendingSplices_eq_nil h]
  rfl

end Sys2Proof.Machine

/-! The splices of a boundary, the snapshots, and the exchanges that follow (R150, R152, R155, R158, R159). -/

namespace Sys2Proof.Machine

open Sys2Proof Sys2Proof.Safety

set_option Elab.async false

/-! ## The splice list (R150, R152) -/

/-- The part after the pending LEAVEs and JOINs have been applied. -/
structure State.SplicedFrom (s t : State) : Prop where
  left : ∀ j, (s.scanOf j).splice = some .leave → (s.railOf j).queued = false →
    t.slot j = (s.slot j).gone s.dischargeUs s.longSettleUs
  joined : s.clock.frozen = false → ∀ j, (s.scanOf j).splice = some .join → (s.railOf j).queued = false →
    t.slot j = (s.slot j).spliced s.clock.refLost s.qualUs
  others : ∀ j, (s.scanOf j).splice ≠ some .leave → (s.scanOf j).splice ≠ some .join ∨ s.clock.frozen = true →
    (s.railOf j).queued = false → t.slot j = s.slot j
  notices : (∀ j, (s.scanOf j).splice = some .leave → (s.railOf j).queued = false) →
    t.notices = (joinsDue s).foldl (fun q j => q.offer (s.scan.onlineNotice j))
      ((s.pendingSplices .leave).foldl (fun q j => q.left j (s.slot j)) s.notices)
  rest : { t with
    slots := s.slots, imageIn := s.imageIn, imageOut := s.imageOut, directory := s.directory, notices := s.notices
    rail := { t.rail with lastGranted := s.rail.lastGranted } } = s

section
variable {s : State}

theorem joinsDue_of_frozen (frozen : s.clock.frozen = true) : joinsDue s = [] := by
  unfold joinsDue
  rw [frozen]
  simp

theorem joinsDue_of_thawed (thawed : s.clock.frozen = false) : joinsDue s = s.pendingSplices .join := by
  unfold joinsDue State.pendingSplices State.slotsWith
  rw [thawed]
  simp only [Bool.not_false, Bool.and_true]
  rfl

theorem State.splicedFrom_applySplices (s : State) : SplicedFrom s s.applySplices := by
  have leaves := s.leavesAlong_applyLeaves
  unfold State.applySplices
  generalize s.applyLeaves = u at leaves
  obtain ⟨own, others, scans, notices, rest⟩ := leaves
  have clock : u.clock = s.clock := (congrArg State.clock rest :)
  have scan : u.scan = s.scan := (congrArg State.scan rest :)
  have qual : u.qualUs = s.qualUs := by rw [State.qualUs, (congrArg State.params rest :), State.qualUs]
  have stays : ∀ j, (s.scanOf j).splice ≠ some .leave → u.scanOf j = s.scanOf j := fun j none => by
    rw [scans, if_neg fun mem => none (State.mem_pendingSplices.mp mem)]
  have reset : ∀ j, (s.scanOf j).splice = some .leave → u.scanOf j = ScanSlot.reset := fun j leave => by
    rw [scans, if_pos (State.mem_pendingSplices.mpr leave)]
  cases frozen : s.clock.frozen with
  | true =>
    rw [State.applyJoins_of_frozen (by rw [clock]; exact frozen)]
    refine ⟨fun j leave queued => own j (State.mem_pendingSplices.mpr leave) queued, fun thawed => ?_, fun j none _ queued =>
      others j (fun mem => none (State.mem_pendingSplices.mp mem)) queued, fun queued => ?_, rest⟩
    · exact absurd (frozen.symm.trans thawed) (by decide)
    · rw [notices fun j mem => queued j (State.mem_pendingSplices.mp mem), joinsDue_of_frozen frozen]
      rfl
  | false =>
    have pending : u.pendingSplices .join = s.pendingSplices .join := by
      unfold State.pendingSplices State.slotsWith
      refine List.filter_congr fun j _ => ?_
      change ((u.scanOf j).splice == some .join) = ((s.scanOf j).splice == some .join)
      by_cases leave : (s.scanOf j).splice = some .leave
      · rw [reset j leave, leave]
        rfl
      · rw [stays j leave]
    obtain ⟨ownJoin, othersJoin, noticesJoin, restJoin⟩ := State.joinsAlong_applyJoins (s := u) (by rw [clock]; exact frozen)
    rw [pending] at ownJoin othersJoin noticesJoin
    generalize u.applyJoins = t at ownJoin othersJoin noticesJoin restJoin
    have noJoin : ∀ j, (s.scanOf j).splice ≠ some .join → t.slot j = u.slot j := fun j none =>
      othersJoin j fun mem => none (State.mem_pendingSplices.mp mem)
    refine ⟨fun j leave queued => ?_, fun _ j join queued => ?_, fun j noLeave noJoin' queued => ?_, fun queued => ?_, ?_⟩
    · rw [noJoin j (by rw [leave]; decide), own j (State.mem_pendingSplices.mpr leave) queued]
    · have noLeave : j ∉ s.pendingSplices .leave := fun mem => by
        rw [State.mem_pendingSplices, join] at mem
        exact absurd mem (by decide)
      rw [ownJoin j (State.mem_pendingSplices.mpr join), others j noLeave queued, clock, qual]
    · rw [noJoin j (noJoin'.resolve_right (by rw [frozen]; exact Bool.false_ne_true)),
        others j (fun mem => noLeave (State.mem_pendingSplices.mp mem)) queued]
    · rw [noticesJoin, notices fun j mem => queued j (State.mem_pendingSplices.mp mem), joinsDue_of_thawed frozen, scan]
    · exact rest_trans rest (congrArg (fun v : State => { v with
        imageIn := u.imageIn, imageOut := u.imageOut, directory := u.directory
        rail := { v.rail with lastGranted := u.rail.lastGranted } }) restJoin :)

end

/-! ## A change of several slots' records -/

/-- A fold of one change, which may read the OUT image, over distinct slots. -/
theorem State.foldl_modSlot {step : State → Slot → State} {f : Image → SlotRecord → SlotRecord}
    (h : ∀ s i, step s i = s.modSlot i (f s.imageOut)) {l : List Slot} (distinct : l.Nodup) : ∀ s : State,
    (∀ j, (l.foldl step s).slot j = if j ∈ l then f s.imageOut (s.slot j) else s.slot j)
      ∧ { l.foldl step s with slots := s.slots } = s := by
  induction l with
  | nil => exact fun s => ⟨fun _ => rfl, rfl⟩
  | cons i l ih =>
    intro s
    obtain ⟨new, distinct⟩ := List.nodup_cons.mp distinct
    obtain ⟨slots, rest⟩ := ih distinct (s.modSlot i (f s.imageOut))
    rw [List.foldl_cons, h]
    refine ⟨fun j => (slots j).trans ?_, (congrArg (fun v : State => { v with slots := s.slots }) rest :)⟩
    by_cases e : j = i
    · subst e
      rw [if_neg new, if_pos List.mem_cons_self, State.slot_modSlot_self]
    · rw [State.slot_modSlot_ne _ _ e]
      simp only [List.mem_cons, e, false_or]
      rfl

/-! ## The snapshots (R150 step 3, R159) -/

/-- A slot's record with its snapshot and its marker. -/
def SlotRecord.snapped (x : Image) (r : SlotRecord) : SlotRecord :=
  { r with scan := { r.scan with
      snapshot := r.ctx.outWindow.map fun w =>
        Memory.readBytes x.mem w.base ((r.ctx.identity.map fun d => d.declared .output).getD 0)
      marker := some (if r.ctx.leaving = some .releasePending then .release else .normal) } }

theorem State.snapSlot_eq (s : State) (i : Slot) : s.snapSlot i = s.modSlot i (SlotRecord.snapped s.imageOut) := by
  unfold State.snapSlot State.readWindow
  dsimp only
  rw [State.modScan_eq]
  unfold State.modSlot
  congr 1
  change s.slots.set i _ = s.slots.set i _
  congr 1
  unfold SlotRecord.snapped
  cases window : (s.ctx i).outWindow with
  | none =>
    rw [show (s.slot i).ctx.outWindow = none from window]
    rfl
  | some w =>
    rw [show (s.slot i).ctx.outWindow = some w from window, show (s.ctx i).window .output = some w from window]
    rfl

/-! ## The exchanges (R155, R158) -/

/-- What an exchange reads of a slot's record. -/
theorem exchangeOf_congr {s t : State} {j : Slot} (marker : (t.scanOf j).marker = (s.scanOf j).marker)
    (snapshot : (t.scanOf j).snapshot = (s.scanOf j).snapshot) (identity : (t.ctx j).identity = (s.ctx j).identity) :
    exchangeOf t j = exchangeOf s j := by
  unfold exchangeOf
  rw [marker, snapshot, identity]

/-- An exchange that ends takes a LEAVE and nothing else. -/
theorem markerTaken_spec (r : SlotRecord) : (markerTaken r).scan.marker = r.scan.marker
    ∧ (markerTaken r).scan.snapshot = r.scan.snapshot ∧ (markerTaken r).scan.skip = r.scan.skip
    ∧ (markerTaken r).scan.cost = r.scan.cost ∧ (markerTaken r).ctx.identity = r.ctx.identity := by
  unfold markerTaken
  split <;> exact ⟨rfl, rfl, rfl, rfl, rfl⟩

theorem markerTaken_of_release {r : SlotRecord} (release : r.scan.marker = some .release) : markerTaken r
    = { r with ctx := { r.ctx with leaving := some .leavePending }, scan := { r.scan with splice := some .leave } } :=
  if_pos release

theorem markerTaken_of_other {r : SlotRecord} (other : r.scan.marker ≠ some .release) : markerTaken r = r := if_neg other

theorem markerTaken_markerTaken (r : SlotRecord) : markerTaken (markerTaken r) = markerTaken r := by
  by_cases release : r.scan.marker = some .release
  · rw [markerTaken_of_release release]
    exact markerTaken_of_release (r := { r with
      ctx := { r.ctx with leaving := some .leavePending }, scan := { r.scan with splice := some .leave } }) release
  · rw [markerTaken_of_other release, markerTaken_of_other release]

theorem State.endMarker_eq (s : State) (i : Slot) : s.endMarker i = s.modSlot i markerTaken := by
  unfold State.endMarker
  split
  · rename_i release
    have taken : markerTaken (s.slot i) = _ := markerTaken_of_release release
    unfold State.queueLeave State.modSlot
    rw [taken]
  · rename_i other
    have same : markerTaken (s.slot i) = s.slot i := if_neg other
    exact (State.worked_of_fixed (f := markerTaken) same).symm

/-- The exchanges of the slots given: those at the front whose skip mark is SET end at once, and the first other begins. -/
theorem State.runExchanges_spec (l : List Slot) : ∀ s : State, s.scan.exchange = none →
    (∀ j, (State.runExchanges l s).slot j = if j ∈ skipped s l then markerTaken (s.slot j) else s.slot j)
      ∧ (State.runExchanges l s).scan = { s.scan with
          exchange := (unskipped s l).head?.map (exchangeOf s), remaining := (unskipped s l).tail }
      ∧ { State.runExchanges l s with slots := s.slots, scan := s.scan } = s := by
  induction l with
  | nil =>
    intro s idle
    refine ⟨fun _ => rfl, ?_, rfl⟩
    change { s.scan with remaining := [] } = { s.scan with exchange := none, remaining := [] }
    rw [← idle]
  | cons i l ih =>
    intro s idle
    unfold State.runExchanges
    by_cases skip : (s.scanOf i).skip = some true
    · rw [if_pos skip, State.endMarker_eq]
      have own : (s.modSlot i markerTaken).slot i = markerTaken (s.slot i) := State.slot_modSlot_self s i _
      have others : ∀ j, j ≠ i → (s.modSlot i markerTaken).slot j = s.slot j := fun j hj => State.slot_modSlot_ne s _ hj
      have rest : { s.modSlot i markerTaken with slots := s.slots } = s := rfl
      obtain ⟨slots, scan, blocks⟩ := ih (s.modSlot i markerTaken) idle
      generalize s.modSlot i markerTaken = u at own others rest slots scan blocks
      have record : ∀ j, u.slot j = s.slot j ∨ u.slot j = markerTaken (s.slot j) := fun j => by
        by_cases e : j = i
        · exact Or.inr (e ▸ own)
        · exact Or.inl (others j e)
      have skips : (fun j => (u.scanOf j).skip == some true) = fun j => (s.scanOf j).skip == some true := funext fun j => by
        rw [State.scanOf_eq]
        rcases record j with same | taken
        · rw [same, State.scanOf_eq]
        · rw [taken, (markerTaken_spec _).2.2.1, State.scanOf_eq]
      have exchanges : exchangeOf u = exchangeOf s := funext fun j => by
        rcases record j with same | taken
        · exact exchangeOf_congr (by rw [State.scanOf_eq, same, State.scanOf_eq])
            (by rw [State.scanOf_eq, same, State.scanOf_eq]) (by rw [State.ctx_eq, same, State.ctx_eq])
        · obtain ⟨marker, snapshot, -, -, identity⟩ := markerTaken_spec (s.slot j)
          exact exchangeOf_congr (by rw [State.scanOf_eq, taken, marker, State.scanOf_eq])
            (by rw [State.scanOf_eq, taken, snapshot, State.scanOf_eq]) (by rw [State.ctx_eq, taken, identity, State.ctx_eq])
      have front : skipped s (i :: l) = i :: skipped u l := by
        unfold skipped
        rw [skips, List.takeWhile_cons_of_pos (by rw [skip]; rfl)]
      have back : unskipped s (i :: l) = unskipped u l := by
        unfold unskipped
        rw [skips, List.dropWhile_cons_of_pos (by rw [skip]; rfl)]
      have sameScan : u.scan = s.scan := (congrArg State.scan rest :)
      rw [front, back, scan, exchanges, sameScan]
      refine ⟨fun j => ?_, rfl, ?_⟩
      · rw [slots]
        by_cases e : j = i
        · subst e
          rw [own, if_pos List.mem_cons_self, markerTaken_markerTaken, ite_self]
        · rw [others j e]
          simp only [List.mem_cons, e, false_or]
      · calc _ = { { State.runExchanges l u with slots := u.slots, scan := u.scan } with slots := s.slots, scan := s.scan } := rfl
          _ = { u with slots := s.slots, scan := s.scan } := by rw [blocks]
          _ = { { u with slots := s.slots } with scan := s.scan } := rfl
          _ = s := by rw [rest]
    · have front : skipped s (i :: l) = [] := by
        unfold skipped
        rw [List.takeWhile_cons_of_neg (by simpa using skip)]
      have back : unskipped s (i :: l) = i :: l := by
        unfold unskipped
        rw [List.dropWhile_cons_of_neg (by simpa using skip)]
      rw [if_neg skip, front, back]
      exact ⟨fun _ => (if_neg List.not_mem_nil).symm, rfl, rfl⟩

/-! ## The boundary (R150) -/

/-- A slot's record as a boundary has passed, for the splices applied in `w`. -/
def State.bounded (w : State) (j : Slot) : SlotRecord :=
  if w.inRoster j = true then
    if j ∈ skipped w w.roster then markerTaken ((w.slot j).snapped w.imageOut) else (w.slot j).snapped w.imageOut
  else w.slot j

theorem State.mem_roster {s : State} {j : Slot} : j ∈ s.roster ↔ s.inRoster j = true := by
  unfold State.roster State.slotsWith
  rw [List.mem_filter]
  exact and_iff_right (mem_allSlots j)

/-- What a boundary makes of the part once its splices are applied. -/
theorem State.boundary_spec {s w : State} (idle : s.scan.exchange = none) (spliced : s.applySplices = w) :
    (∀ j, s.boundary.slot j = w.bounded j)
      ∧ s.boundary.scan = { w.scan with
          cycle := w.scan.cycle + 1, period := .running w.params.cyclePeriod
          exchange := (unskipped w w.roster).head?.map (exchangeOf s.boundary), remaining := (unskipped w w.roster).tail }
      ∧ { s.boundary with slots := w.slots, scan := w.scan } = w := by
  have noExchange : w.scan.exchange = none := by
    have rest := s.splicedFrom_applySplices.rest
    rw [spliced] at rest
    rw [(congrArg State.scan rest :)]
    exact idle
  have distinct : w.roster.Nodup := List.Nodup.filter (fun j => (w.slot j).scan.skip.isSome) nodup_allSlots
  obtain ⟨snapSlots, snapRest⟩ := State.foldl_modSlot State.snapSlot_eq distinct
    (w.modScanRack fun c => { c with cycle := c.cycle + 1 })
  have sameRoster : (w.modScanRack fun c => { c with cycle := c.cycle + 1 }).roster = w.roster := rfl
  unfold State.boundary
  dsimp only
  rw [spliced, sameRoster]
  have begun : ∀ j, (w.modScanRack fun c => { c with cycle := c.cycle + 1 }).slot j = w.slot j := fun _ => rfl
  have image : (w.modScanRack fun c => { c with cycle := c.cycle + 1 }).imageOut = w.imageOut := rfl
  simp only [begun, image] at snapSlots
  generalize w.roster.foldl State.snapSlot (w.modScanRack fun c => { c with cycle := c.cycle + 1 }) = u
    at snapSlots snapRest
  have skips : ∀ j, (u.scanOf j).skip = (w.scanOf j).skip := fun j => by
    rw [State.scanOf_eq, snapSlots, State.scanOf_eq]
    split <;> rfl
  have front : skipped (u.modScanRack fun c => c.startPeriod u.params.cyclePeriod) w.roster = skipped w w.roster :=
    congrArg (fun p => w.roster.takeWhile p) (funext fun j => by rw [← skips j]; rfl)
  have back : unskipped (u.modScanRack fun c => c.startPeriod u.params.cyclePeriod) w.roster = unskipped w w.roster :=
    congrArg (fun p => w.roster.dropWhile p) (funext fun j => by rw [← skips j]; rfl)
  have roster : (u.modScanRack fun c => c.startPeriod u.params.cyclePeriod).roster = w.roster := by
    unfold State.roster State.slotsWith
    refine List.filter_congr fun j _ => ?_
    exact congrArg Option.isSome (skips j)
  have scan : u.scan = { w.scan with cycle := w.scan.cycle + 1 } := (congrArg State.scan snapRest :)
  have params : u.params = w.params := (congrArg State.params snapRest :)
  have waits : ¬ ((u.modScanRack fun c => c.startPeriod u.params.cyclePeriod).scan.exchange.isSome = true) := by
    change ¬ (u.scan.exchange.isSome = true)
    rw [scan]
    change ¬ (w.scan.exchange.isSome = true)
    rw [noExchange]
    exact Bool.false_ne_true
  rw [if_neg waits, roster]
  obtain ⟨slots, scanRun, rest⟩ := State.runExchanges_spec w.roster (u.modScanRack fun c => c.startPeriod u.params.cyclePeriod)
    (by rw [← Option.not_isSome_iff_eq_none]; exact waits)
  rw [front] at slots
  rw [back] at scanRun
  have slotsRun : ∀ j, (u.modScanRack fun c => c.startPeriod u.params.cyclePeriod).slot j = u.slot j := fun _ => rfl
  generalize ran : State.runExchanges w.roster (u.modScanRack fun c => c.startPeriod u.params.cyclePeriod) = t
    at slots scanRun rest
  have bounded : ∀ j, t.slot j = w.bounded j := fun j => by
    rw [slots, slotsRun, snapSlots, State.bounded]
    by_cases member : w.inRoster j = true
    · rw [if_pos member, if_pos (State.mem_roster.mpr member)]
    · have out : j ∉ skipped w w.roster := fun mem => member (State.mem_roster.mp (List.takeWhile_subset _ mem))
      rw [if_neg member, if_neg fun mem => member (State.mem_roster.mp mem), if_neg out]
  have exchanges : exchangeOf (u.modScanRack fun c => c.startPeriod u.params.cyclePeriod) = exchangeOf t := funext fun j => by
    refine (exchangeOf_congr ?_ ?_ ?_).symm <;> simp only [State.scanOf_eq, State.ctx_eq, slots] <;> split
    · exact (markerTaken_spec _).1
    · rfl
    · exact (markerTaken_spec _).2.1
    · rfl
    · exact (markerTaken_spec _).2.2.2.2
    · rfl
  refine ⟨bounded, ?_, ?_⟩
  · have started : (u.modScanRack fun c => c.startPeriod u.params.cyclePeriod).scan
        = { w.scan with cycle := w.scan.cycle + 1, period := .running w.params.cyclePeriod } := by
      change u.scan.startPeriod u.params.cyclePeriod = _
      rw [scan, params]
      rfl
    rw [scanRun, exchanges, started]
  · calc _ = { { t with
              slots := (u.modScanRack fun c => c.startPeriod u.params.cyclePeriod).slots
              scan := (u.modScanRack fun c => c.startPeriod u.params.cyclePeriod).scan } with
            slots := w.slots, scan := w.scan } := rfl
      _ = { u.modScanRack fun c => c.startPeriod u.params.cyclePeriod with slots := w.slots, scan := w.scan } := by rw [rest]
      _ = { { u with slots := (w.modScanRack fun c => { c with cycle := c.cycle + 1 }).slots } with scan := w.scan } := rfl
      _ = w := by rw [snapRest]; rfl

end Sys2Proof.Machine

/-! SCAN START, SCAN STOP and the period timer's expiry: the state whose splices they apply, and what follows (R148 to R152). -/

namespace Sys2Proof.Machine

open Sys2Proof Sys2Proof.Safety

set_option Elab.async false

/-! ## The splices that are applied in special cases -/

section
variable {s : State} {i : Slot}

theorem State.applySplices_of_noLeave (none : ∀ j, (s.scanOf j).splice ≠ some .leave) : s.applySplices = s.applyJoins := by
  unfold State.applySplices
  rw [State.applyLeaves_of_none none]

theorem State.applySplices_of_none (none : ∀ j, (s.scanOf j).splice = none) : s.applySplices = s := by
  rw [State.applySplices_of_noLeave fun j => by rw [none]; decide]
  exact State.applyJoins_of_none fun j => by rw [none]; decide

/-- With one splice pending, a LEAVE, the splices are its departure. -/
theorem State.applySplices_of_only (leave : (s.scanOf i).splice = some .leave)
    (only : ∀ j, j ≠ i → (s.scanOf j).splice = none) : s.applySplices = s.depart i := by
  have pending : s.pendingSplices .leave = [i] := by
    refine List.perm_singleton.mp ((List.perm_ext_iff_of_nodup State.nodup_pendingSplices (List.nodup_singleton i)).mpr
      fun j => ?_)
    rw [State.mem_pendingSplices, List.mem_singleton]
    refine ⟨fun pends => ?_, fun e => e ▸ leave⟩
    by_contra ne
    rw [only j ne] at pends
    exact absurd pends (by decide)
  have left : s.applyLeaves = s.depart i := by
    unfold State.applyLeaves
    rw [pending]
    rfl
  obtain ⟨-, scans, -⟩ := s.depart_leaves i
  unfold State.applySplices
  rw [left]
  refine State.applyJoins_of_none fun j => ?_
  rw [scans]
  split
  · exact (by decide : ScanSlot.reset.splice ≠ some .join)
  · rename_i ne
    rw [only j ne]
    decide

end

/-! ## The scan that becomes STOPPED (R148, R159) -/

/-- The part as its scan is STOPPED, before the splices. -/
def State.halted (s : State) : State := { s with scan := { s.scan with state := .stopped, period := .idle } }

/-- A slot's record as the scan becomes STOPPED: a RELEASE that is pending gives way to a LEAVE. -/
def SlotRecord.releaseDropped (r : SlotRecord) : SlotRecord :=
  if r.ctx.leaving = some .releasePending ∧ r.scan.skip.isSome = true then r.leaveQueued else r

theorem State.dropRelease_eq (s : State) (i : Slot) : s.dropRelease i = s.modSlot i SlotRecord.releaseDropped := by
  unfold State.dropRelease
  split
  · rename_i pending
    have dropped : (s.slot i).releaseDropped = (s.slot i).leaveQueued := if_pos pending
    unfold State.queueLeave State.modSlot
    rw [dropped]
    rfl
  · rename_i other
    have kept : (s.slot i).releaseDropped = s.slot i := if_neg other
    exact (State.worked_of_fixed (f := SlotRecord.releaseDropped) kept).symm

/-- The part as every RELEASE that is pending has given way. -/
def State.releasesDropped (s : State) : State := allSlots.foldl State.dropRelease s

theorem State.releasesDropped_spec (s : State) : (∀ j, s.releasesDropped.slot j = (s.slot j).releaseDropped)
    ∧ { s.releasesDropped with slots := s.slots } = s := by
  obtain ⟨slots, rest⟩ := State.foldl_modSlot (f := fun _ => SlotRecord.releaseDropped) State.dropRelease_eq nodup_allSlots s
  exact ⟨fun j => (slots j).trans (if_pos (mem_allSlots j)), rest⟩

theorem SlotRecord.releaseDropped_of_ne {r : SlotRecord} (h : r.ctx.leaving ≠ some .releasePending) : r.releaseDropped = r :=
  if_neg fun pending => h pending.1

theorem State.releasesDropped_of_none {s : State} (none : ∀ j, (s.ctx j).leaving ≠ some .releasePending) :
    s.releasesDropped = s := by
  obtain ⟨slots, rest⟩ := s.releasesDropped_spec
  have same : s.releasesDropped.slots = s.slots :=
    State.slots_ext fun j => (slots j).trans (SlotRecord.releaseDropped_of_ne (none j))
  generalize s.releasesDropped = u at rest same
  calc u = { u with slots := s.slots } := by rw [← same]
    _ = s := rest

/-! ## The commands -/

/-- The part as a boundary is due, with the period timer as `p`. -/
def State.cycling (s : State) (p : PeriodTimer) : State := { s with scan := { s.scan with state := .running, period := p } }

section
variable {s : State} {tag : Byte} {c : Instr}

theorem State.link_boundary (idle : s.scan.exchange = none) : s.boundary.link = s.link := by
  obtain ⟨-, -, rest⟩ := State.boundary_spec idle rfl
  exact (congrArg State.link rest :).trans (congrArg State.link s.splicedFrom_applySplices.rest :)

theorem State.exchangesEnded_of_idle (idle : s.scan.exchange = none) (ended : s.scan.remaining = []) : s.exchangesEnded = true := by
  unfold State.exchangesEnded
  rw [idle, ended]
  rfl

theorem exec_boundary (on : s.safeOff = false) (due : TakesBoundary tag c s) : ∃ p t, exec c s = .next t
    ∧ { t with link := s.link } = (s.cycling p).boundary ∧ (c = .periodTimerExpiry → t.link = s.link)
    ∧ (c = .scanStart tag → Answers s t 0x30 tag .ok []) := by
  obtain ⟨idle, ⟨rfl, stopped⟩ | ⟨rfl, running, ⟨us, period⟩, ended⟩⟩ := due
  · have link : (s.cycling s.scan.period).boundary.link = s.link := State.link_boundary (s := s.cycling s.scan.period) idle
    have ran : exec (.scanStart tag) s = .next ((s.cycling s.scan.period).boundary.reply 0x30 tag .ok []) := by
      change Host.Outcome.next (requestScanStart tag s) = _
      unfold requestScanStart
      rw [on, if_neg Bool.false_ne_true, stopped]
      rfl
    generalize made : (s.cycling s.scan.period).boundary = b at link ran
    refine ⟨s.scan.period, b.reply 0x30 tag .ok [], ran, ?_, fun e => (nomatch e), fun _ => ?_⟩
    · rw [made, ← link]
      rfl
    · change b.link.take _ = s.link.take _
      rw [link]
  · have link : (s.cycling .expired).boundary.link = s.link := State.link_boundary (s := s.cycling .expired) idle
    have started : s.modScanRack (fun c => { c with period := .expired }) = s.cycling .expired := by
      unfold State.cycling
      rw [← running]
      rfl
    have due : (s.cycling .expired).scan.state = .running ∧ (s.cycling .expired).exchangesEnded = true :=
      ⟨rfl, State.exchangesEnded_of_idle (s := s.cycling .expired) idle ended⟩
    have ran : exec .periodTimerExpiry s = .next (s.cycling .expired).boundary := by
      change execPeriodTimerExpiry s = _
      unfold execPeriodTimerExpiry
      rw [period]
      dsimp only
      rw [started, if_pos due]
    generalize made : (s.cycling .expired).boundary = b at link ran
    refine ⟨.expired, b, ran, ?_, fun _ => link, fun e => (nomatch e)⟩
    rw [made, ← link]

theorem exec_scanStop_of_running (on : s.safeOff = false) (running : s.scan.state = .running) :
    exec (.scanStop tag) s = .next (s.stopScan.reply 0x31 tag .ok []) := by
  change Host.Outcome.next (requestScanStop tag s) = _
  unfold requestScanStop
  rw [on, if_neg Bool.false_ne_true, running]

/-- A scan with no cycle in progress is STOPPED at once. -/
theorem exec_scanStop_of_idle (on : s.safeOff = false) (running : s.scan.state = .running) (idle : s.scan.exchange = none)
    (ended : s.scan.remaining = []) :
    exec (.scanStop tag) s = .next (s.halted.releasesDropped.applySplices.reply 0x31 tag .ok []) := by
  have settles : s.stopScan = s.halted.releasesDropped.applySplices := by
    have ended' : (s.modScanRack fun c => { c with state := .stopping, period := .idle }).exchangesEnded = true :=
      State.exchangesEnded_of_idle idle ended
    unfold State.stopScan State.settleCycle
    rw [if_pos ended']
    rfl
  rw [exec_scanStop_of_running on running, settles]

end

/-! ## What follows the splices -/

/-- A command that applies the splices: a boundary, or SCAN STOP of a scan with no cycle in progress. -/
def AppliesSplices (tag : Byte) (c : Instr) (s : State) : Prop :=
  TakesBoundary tag c s
    ∨ (c = .scanStop tag ∧ s.scan.state = .running ∧ s.scan.exchange = none ∧ s.scan.remaining = [])

/-- `v` is the state whose splices the command applies, which end in `w`, and `t` is what the command leaves. -/
structure AfterSplices (s v w t : State) : Prop where
  before : ∀ j, (s.ctx j).leaving ≠ some .releasePending → v.slot j = s.slot j
  blocks : { v with slots := s.slots, scan := s.scan } = s
  cycle : v.scan.cycle = s.scan.cycle
  spliced : v.applySplices = w
  out : ∀ j, w.inRoster j = false → t.slot j = w.slot j
  joined : ∀ j, (w.scanOf j).skip = some false → t.slot j = w.slot j ∨ t.slot j = (w.slot j).snapped w.imageOut
  work : t.work = w.work

section
variable {s : State} {tag : Byte} {c : Instr}

theorem State.bounded_of_out {w : State} {j : Slot} (out : w.inRoster j = false) : w.bounded j = w.slot j := by
  unfold State.bounded
  rw [out, if_neg Bool.false_ne_true]

/-- A roster slot whose skip mark is CLEAR has its snapshot and its marker. -/
theorem State.bounded_of_clear {w : State} {j : Slot} (clear : (w.scanOf j).skip = some false) :
    w.bounded j = (w.slot j).snapped w.imageOut := by
  have member : w.inRoster j = true := by
    unfold State.inRoster
    rw [clear]
    rfl
  have unskipped : j ∉ skipped w w.roster := fun mem => by
    have skip := List.mem_takeWhile_imp mem
    rw [clear] at skip
    exact absurd skip (by decide)
  unfold State.bounded
  rw [if_pos member, if_neg unskipped]

theorem afterSplices_of_boundary {p : PeriodTimer} {t : State} (idle : s.scan.exchange = none)
    (made : { t with link := s.link } = (s.cycling p).boundary) :
    AfterSplices s (s.cycling p) (s.cycling p).applySplices t := by
  obtain ⟨slots, -, rest⟩ := State.boundary_spec (s := s.cycling p) idle rfl
  rw [← made] at slots rest
  have here : ∀ j, t.slot j = (s.cycling p).applySplices.bounded j := slots
  refine ⟨fun _ _ => rfl, rfl, rfl, rfl, fun j out => (here j).trans (State.bounded_of_out out),
    fun j clear => Or.inr ((here j).trans (State.bounded_of_clear clear)), (congrArg State.work rest :)⟩

theorem afterSplices_of_stop : AfterSplices s s.halted.releasesDropped s.halted.releasesDropped.applySplices
    (s.halted.releasesDropped.applySplices.reply 0x31 tag .ok []) := by
  obtain ⟨slots, rest⟩ := s.halted.releasesDropped_spec
  generalize s.halted.releasesDropped = v at slots rest
  refine ⟨fun j none => (slots j).trans (SlotRecord.releaseDropped_of_ne none), ?_,
    (congrArg (fun u : State => u.scan.cycle) rest :), rfl, fun _ _ => rfl, fun _ _ => Or.inl rfl, rfl⟩
  exact (congrArg (fun u : State => { u with scan := s.scan }) rest :)

theorem exec_appliesSplices (on : s.safeOff = false) (applies : AppliesSplices tag c s) :
    ∃ v w t, exec c s = .next t ∧ AfterSplices s v w t := by
  rcases applies with due | ⟨rfl, running, idle, ended⟩
  · obtain ⟨p, t, ran, made, -⟩ := exec_boundary on due
    exact ⟨_, _, t, ran, afterSplices_of_boundary due.1 made⟩
  · exact ⟨_, _, _, exec_scanStop_of_idle on running idle ended, afterSplices_of_stop⟩

end

end Sys2Proof.Machine

/-! A boundary and a stop of the scan: the cycle that begins, and the slots that leave and join (R148 to R154, R158 to R160). -/

namespace Sys2Proof.Machine

open Sys2Proof Sys2Proof.Safety

set_option Elab.async false

/-! ## The cycle that begins where no splice is pending (R150, R155) -/

section
variable {s : State} {tag : Byte} {c : Instr}

/-- What a boundary makes of a roster slot that no splice touches. -/
theorem bounded_of_roster {j : Slot} {t : State} (none : (s.scanOf j).splice = none)
    (own : t.slot j = if j ∈ skipped s s.roster then markerTaken ((s.slot j).snapped s.imageOut)
      else (s.slot j).snapped s.imageOut) :
    { t.slot j with scan := s.scanOf j, ctx := s.ctx j } = s.slot j
      ∧ (t.scanOf j).skip = (s.scanOf j).skip ∧ (t.scanOf j).cost = (s.scanOf j).cost
      ∧ (t.scanOf j).marker = some (if (s.ctx j).leaving = some .releasePending then .release else .normal)
      ∧ (if j ∈ skipped s s.roster ∧ (s.ctx j).leaving = some .releasePending then
          t.ctx j = { s.ctx j with leaving := some .leavePending } ∧ (t.scanOf j).splice = some .leave
        else t.ctx j = s.ctx j ∧ (t.scanOf j).splice = Option.none)
      ∧ ∀ w d, (s.ctx j).outWindow = some w → (s.ctx j).identity = some d →
          (t.scanOf j).snapshot
            = some ((List.range d.outputBytes.toNat).map fun b => Memory.read s.imageOut.mem (16 * w.start + b)) := by
  have snapshot : ∀ w d, (s.ctx j).outWindow = some w → (s.ctx j).identity = some d →
      ((s.slot j).snapped s.imageOut).scan.snapshot
        = some ((List.range d.outputBytes.toNat).map fun b => Memory.read s.imageOut.mem (16 * w.start + b)) :=
    fun w d window identity => by
      unfold SlotRecord.snapped
      rw [show (s.slot j).ctx.outWindow = some w from window, show (s.slot j).ctx.identity = some d from identity]
      exact congrArg some (Memory.readBytes_eq _ _ _)
  have marker : ((s.slot j).snapped s.imageOut).scan.marker
      = some (if (s.ctx j).leaving = some .releasePending then .release else .normal) := rfl
  rw [State.scanOf_eq t, State.ctx_eq t, own]
  by_cases taken : j ∈ skipped s s.roster ∧ (s.ctx j).leaving = some .releasePending
  · obtain ⟨front, release⟩ := taken
    rw [if_pos release] at marker
    rw [if_pos front, if_pos (And.intro front release), if_pos release, markerTaken_of_release marker]
    exact ⟨rfl, rfl, rfl, marker, ⟨rfl, rfl⟩, snapshot⟩
  · have kept : (if j ∈ skipped s s.roster then markerTaken ((s.slot j).snapped s.imageOut)
        else (s.slot j).snapped s.imageOut) = (s.slot j).snapped s.imageOut := by
      split
      · rename_i front
        refine markerTaken_of_other ?_
        rw [marker, if_neg fun release => taken ⟨front, release⟩]
        decide
      · rfl
    rw [kept, if_neg taken]
    exact ⟨rfl, rfl, rfl, marker, ⟨rfl, none⟩, snapshot⟩

theorem boundary_of_quiet (on : s.safeOff = false) (due : TakesBoundary tag c s) (none : ∀ i, (s.scanOf i).splice = none) :
    ∃ t, exec c s = .next t
      ∧ t.scan = ⟨.running, s.scan.cycle + 1, .running s.params.cyclePeriod,
          (unskipped s s.roster).head?.map (exchangeOf t), (unskipped s s.roster).tail⟩
      ∧ { t with slots := s.slots, scan := s.scan, link := s.link } = s
      ∧ (c = .periodTimerExpiry → t.link = s.link) ∧ (c = .scanStart tag → Answers s t 0x30 tag .ok [])
      ∧ ∀ j, t.slot j = s.bounded j := by
  obtain ⟨p, t, ran, made, link, answers⟩ := exec_boundary on due
  have quiet : (s.cycling p).applySplices = s.cycling p := State.applySplices_of_none (s := s.cycling p) none
  obtain ⟨slots, scan, rest⟩ := State.boundary_spec (s := s.cycling p) due.1 quiet
  rw [← made] at slots scan rest
  have exchanges : exchangeOf { t with link := s.link } = exchangeOf t := rfl
  rw [exchanges] at scan
  exact ⟨t, ran, scan, (congrArg (fun u : State => { u with scan := s.scan }) rest :), link, answers, slots⟩

/-! ## The cards that join at a boundary (R152, R153) -/

/-- A JOIN that has been applied, whether or not the slot's snapshot has been taken. -/
theorem joined_of_snapped {t : State} {i : Slot} {x : Image}
    (own : t.slot i = (s.slot i).spliced s.clock.refLost s.qualUs
      ∨ t.slot i = ((s.slot i).spliced s.clock.refLost s.qualUs).snapped x) : Safety.Joined i s t
    ∧ (t.scanOf i).cost = (s.scanOf i).cost ∧ (t.ctx i).inWindow = (s.ctx i).inWindow
    ∧ (t.ctx i).outWindow = (s.ctx i).outWindow := by
  rcases own with own | own
  · exact joined_of_slot own
  · obtain ⟨ctx, rail, det, scan⟩ := (s.slot i).spliced_spec s.clock.refLost s.qualUs
    unfold Safety.Joined
    rw [State.ctx_eq, State.railOf_eq, State.det_eq, State.scanOf_eq, own]
    unfold SlotRecord.snapped
    dsimp only
    rw [ctx, rail, det, scan]
    exact ⟨⟨rfl, rfl, rfl, rfl, rfl, rfl, rfl, rfl, rfl, rfl⟩, rfl, rfl, rfl⟩

theorem boundary_joins (on : s.safeOff = false) (due : TakesBoundary tag c s) (noLeave : ∀ i, (s.scanOf i).splice ≠ some .leave)
    (thawed : s.clock.frozen = false) : ∃ t, exec c s = .next t ∧ t.scan.cycle = s.scan.cycle + 1
      ∧ t.notices = (allSlots.filter fun i => (s.scanOf i).splice == some .join).foldl
          (fun q i => q.offer ⟨.online, some i, 0, be32 s.scan.cycle.toNat⟩) s.notices
      ∧ ∀ i, (s.scanOf i).splice = some .join → Safety.Joined i s t ∧ (t.scanOf i).marker ≠ none
        ∧ (t.scanOf i).cost = (s.scanOf i).cost ∧ (t.ctx i).inWindow = (s.ctx i).inWindow
        ∧ (t.ctx i).outWindow = (s.ctx i).outWindow := by
  obtain ⟨p, t, ran, made, -⟩ := exec_boundary on due
  have joins := State.joinsAlong_applyJoins (s := s.cycling p) thawed
  rw [← State.applySplices_of_noLeave (s := s.cycling p) noLeave] at joins
  obtain ⟨slots, scan, rest⟩ := State.boundary_spec (s := s.cycling p) due.1 rfl
  rw [← made] at slots scan rest
  generalize (s.cycling p).applySplices = w at joins slots scan rest
  obtain ⟨own, -, notices, blocks⟩ := joins
  have cycle : w.scan.cycle = s.scan.cycle := (congrArg (fun u : State => u.scan.cycle) blocks :)
  have cycle' : t.scan.cycle = w.scan.cycle + 1 := (congrArg Scan.cycle scan :)
  refine ⟨t, ran, by rw [cycle', cycle], (congrArg State.notices rest :).trans notices, fun i join => ?_⟩
  have spliced : w.slot i = (s.slot i).spliced s.clock.refLost s.qualUs := own i (State.mem_pendingSplices.mpr join)
  have clear : (w.scanOf i).skip = some false := by
    rw [State.scanOf_eq, spliced, (SlotRecord.spliced_spec _ _ _).2.2.2]
  have here : t.slot i = ((s.slot i).spliced s.clock.refLost s.qualUs).snapped w.imageOut := by
    rw [← spliced, ← State.bounded_of_clear clear]
    exact slots i
  obtain ⟨joined, kept⟩ := joined_of_snapped (Or.inr here)
  refine ⟨joined, ?_, kept⟩
  rw [State.scanOf_eq, here]
  exact Option.some_ne_none _

theorem boundary_frozen (on : s.safeOff = false) (due : TakesBoundary tag c s) (noLeave : ∀ i, (s.scanOf i).splice ≠ some .leave)
    (frozen : s.clock.frozen = true) : ∃ t, exec c s = .next t ∧ t.notices = s.notices
      ∧ ∀ i, s.inRoster i = false → t.slot i = s.slot i := by
  obtain ⟨p, t, ran, made, -⟩ := exec_boundary on due
  have held : (s.cycling p).applySplices = s.cycling p := by
    rw [State.applySplices_of_noLeave (s := s.cycling p) noLeave, State.applyJoins_of_frozen (s := s.cycling p) frozen]
  obtain ⟨slots, -, rest⟩ := State.boundary_spec (s := s.cycling p) due.1 held
  rw [← made] at slots rest
  exact ⟨t, ran, (congrArg State.notices rest :), fun i out =>
    (slots i).trans (State.bounded_of_out (w := s.cycling p) out)⟩

/-! ## SCAN START and SCAN STOP in the other states (R148) -/

theorem scanStart_refused (on : s.safeOff = false) (state : s.scan.state ≠ .stopped) :
    ∃ t, exec (.scanStart tag) s = .next t ∧ OnlyLink s t
      ∧ Answers s t 0x30 tag (if s.scan.state = .running then .already else .wrongState) [] := by
  have ran : exec (.scanStart tag) s
      = .next (s.reply 0x30 tag (if s.scan.state = .running then .already else .wrongState) []) := by
    change Host.Outcome.next (requestScanStart tag s) = _
    unfold requestScanStart
    rw [on, if_neg Bool.false_ne_true]
    cases here : s.scan.state with
    | stopped => exact absurd here state
    | running => rfl
    | stopping => rfl
  exact ⟨_, ran, onlyLink_answerWith s _ _ _ _ _, answers_reply s _ _ _ _⟩

theorem scanStop_already (on : s.safeOff = false) (state : s.scan.state ≠ .running) :
    ∃ t, exec (.scanStop tag) s = .next t ∧ OnlyLink s t ∧ Answers s t 0x31 tag .already [] := by
  have ran : exec (.scanStop tag) s = .next (s.reply 0x31 tag .already []) := by
    change Host.Outcome.next (requestScanStop tag s) = _
    unfold requestScanStop
    rw [on, if_neg Bool.false_ne_true]
    cases here : s.scan.state with
    | stopped => rfl
    | running => exact absurd here state
    | stopping => rfl
  exact ⟨_, ran, onlyLink_answerWith s _ _ _ _ _, answers_reply s _ _ _ _⟩

/-- A cycle in progress has an exchange that is not discarded on the lane. -/
theorem State.exchangesEnded_of_running {x : Exchange} (exchange : s.scan.exchange = some x) (live : x.discarded = false) :
    s.exchangesEnded = false := by
  unfold State.exchangesEnded
  rw [exchange, Option.all_some, live, Bool.false_and]

theorem period_overruns {us : Nat} {x : Exchange} (period : s.scan.period = .running us) (exchange : s.scan.exchange = some x)
    (live : x.discarded = false) :
    exec .periodTimerExpiry s = .next { s with scan := { s.scan with period := .expired } } := by
  have goesOn : (s.modScanRack fun c => { c with period := .expired }).exchangesEnded = false :=
    State.exchangesEnded_of_running (s := s.modScanRack fun c => { c with period := .expired }) exchange live
  change execPeriodTimerExpiry s = _
  unfold execPeriodTimerExpiry
  rw [period]
  dsimp only
  rw [goesOn, if_neg fun h => Bool.false_ne_true h.2]
  rfl

theorem scanStop_stopping (on : s.safeOff = false) (running : s.scan.state = .running) {x : Exchange}
    (exchange : s.scan.exchange = some x) (live : x.discarded = false) : exec (.scanStop tag) s
      = .next ({ s with scan := { s.scan with state := .stopping, period := .idle } }.reply 0x31 tag .ok []) := by
  have goesOn : (s.modScanRack fun c => { c with state := .stopping, period := .idle }).exchangesEnded = false :=
    State.exchangesEnded_of_running (s := s.modScanRack fun c => { c with state := .stopping, period := .idle }) exchange live
  have stops : s.stopScan = s.modScanRack fun c => { c with state := .stopping, period := .idle } := by
    unfold State.stopScan State.settleCycle
    rw [goesOn, if_neg Bool.false_ne_true]
  rw [exec_scanStop_of_running on running, stops]
  rfl

/-! ## A scan that stops at once (R148, R152) -/

/-- The JOINs of a scan that becomes STOPPED, for a state `s` whose slots that join have not changed since. -/
theorem joinsApplied_of_applyJoins {s u : State} (splices : ∀ j, (u.scanOf j).splice = (s.scanOf j).splice)
    (slots : ∀ j, (s.scanOf j).splice = some .join → u.slot j = s.slot j) (clock : u.clock = s.clock)
    (params : u.params = s.params) (cycle : u.scan.cycle = s.scan.cycle) (notices : u.notices = s.notices) :
    JoinsApplied s u.applyJoins ∧ (∀ j, (s.scanOf j).splice = none → u.applyJoins.slot j = u.slot j)
      ∧ { u.applyJoins with slots := u.slots, notices := u.notices } = u := by
  unfold JoinsApplied
  cases frozen : s.clock.frozen with
  | true =>
    rw [State.applyJoins_of_frozen (by rw [clock]; exact frozen), if_pos rfl]
    exact ⟨⟨notices, fun j join => by rw [if_pos rfl]; exact slots j join⟩, fun _ _ => rfl, rfl⟩
  | false =>
    obtain ⟨own, others, posted, rest⟩ := State.joinsAlong_applyJoins (s := u) (by rw [clock]; exact frozen)
    have pending : u.pendingSplices .join = allSlots.filter fun i => (s.scanOf i).splice == some .join := by
      unfold State.pendingSplices State.slotsWith
      refine List.filter_congr fun j _ => ?_
      rw [← splices j]
      rfl
    have qual : u.qualUs = s.qualUs := by rw [State.qualUs, params, State.qualUs]
    generalize u.applyJoins = t at own others posted rest
    refine ⟨⟨?_, fun j join => ?_⟩, fun j none => others j fun mem => ?_, rest⟩
    · have notice : ∀ i, u.scan.onlineNotice i = ⟨.online, some i, 0, be32 s.scan.cycle.toNat⟩ := fun i => by
        rw [Scan.onlineNotice, cycle]
      rw [if_neg Bool.false_ne_true, posted, pending, notices]
      simp only [notice]
    · rw [if_neg Bool.false_ne_true]
      refine joined_of_slot ?_
      rw [own j (State.mem_pendingSplices.mpr ((splices j).trans join)), slots j join, clock, qual]
    · have join := State.mem_pendingSplices.mp mem
      rw [splices j, none] at join
      exact absurd join (by decide)

variable (on : s.safeOff = false) (running : s.scan.state = .running) (idle : s.scan.exchange = none)
  (ended : s.scan.remaining = [])
include on running idle ended

theorem scanStop_quiet (quiet : ∀ i, (s.ctx i).leaving ≠ some .releasePending ∧ (s.scanOf i).splice = none) :
    exec (.scanStop tag) s
      = .next ({ s with scan := { s.scan with state := .stopped, period := .idle } }.reply 0x31 tag .ok []) := by
  rw [exec_scanStop_of_idle on running idle ended, State.releasesDropped_of_none (s := s.halted) fun j => (quiet j).1,
    State.applySplices_of_none (s := s.halted) fun j => (quiet j).2]
  rfl

theorem scanStop_joins
    (quiet : ∀ i, (s.ctx i).leaving ≠ some .releasePending ∧ (s.scanOf i).splice ≠ some .leave) :
    ∃ t, exec (.scanStop tag) s = .next t ∧ Answers s t 0x31 tag .ok []
      ∧ { t with slots := s.slots, scan := s.scan, notices := s.notices, link := s.link } = s
      ∧ t.scan = { s.scan with state := .stopped, period := .idle } ∧ JoinsApplied s t
      ∧ ∀ i, (s.scanOf i).splice = none → t.slot i = s.slot i := by
  have ran := exec_scanStop_of_idle (tag := tag) on running idle ended
  rw [State.releasesDropped_of_none (s := s.halted) fun j => (quiet j).1,
    State.applySplices_of_noLeave (s := s.halted) fun j => (quiet j).2] at ran
  obtain ⟨joins, others, rest⟩ := joinsApplied_of_applyJoins (s := s) (u := s.halted) (fun _ => rfl) (fun _ _ => rfl) rfl rfl
    rfl rfl
  generalize s.halted.applyJoins = t at ran joins others rest
  have link : t.link = s.link := (congrArg State.link rest :)
  refine ⟨t.reply 0x31 tag .ok [], ran, ?_, ?_, (congrArg State.scan rest :), joins, others⟩
  · change t.link.take _ = s.link.take _
    rw [link]
  · exact (congrArg (fun u : State => { u with slots := s.slots, scan := s.scan, notices := s.notices, link := s.link }) rest :)

end

end Sys2Proof.Machine

/-! The slots that leave at a boundary or as the scan stops, and all the splices together (R149 to R154, R165). -/

namespace Sys2Proof.Machine

open Sys2Proof Sys2Proof.Safety

set_option Elab.async false

/-! ## What a LEAVE makes of its slot's record (R154, R165) -/

section
variable {r : SlotRecord} {dischargeUs settleUs : Nat}

theorem SlotRecord.gone_windows : (r.gone dischargeUs settleUs).ctx.inWindow = none
    ∧ (r.gone dischargeUs settleUs).ctx.outWindow = none ∧ (r.gone dischargeUs settleUs).ctx.inputQuality = none := by
  unfold SlotRecord.gone
  split
  · exact ⟨rfl, rfl, rfl⟩
  · split
    · rw [SlotRecord.withdrawn_ctx]
      exact ⟨rfl, rfl, rfl⟩
    · exact ⟨rfl, rfl, rfl⟩

theorem SlotRecord.gone_rail_of_open (isOpen : r.rail.closed = false) : (r.gone dischargeUs settleUs).rail = r.rail := by
  unfold SlotRecord.gone
  rw [isOpen, if_neg Bool.false_ne_true]
  split
  · rw [SlotRecord.withdrawn_rail]
    rfl
  · rfl

/-- A slot whose power step or discharge is still ahead of it keeps its withdrawal. -/
theorem SlotRecord.gone_waits (waits : r.rail.closed = true ∨ r.rail.dischargeTimer ≠ none) :
    (r.gone dischargeUs settleUs).ctx.state = r.ctx.state ∧ (r.gone dischargeUs settleUs).ctx.reason = r.ctx.reason
      ∧ (r.gone dischargeUs settleUs).ctx.destination = r.ctx.destination
      ∧ (r.gone dischargeUs settleUs).ctx.leaving = r.ctx.leaving := by
  have stays : r.endsAtLeave = false := Bool.eq_false_iff.mpr fun ends => by
    obtain ⟨-, isOpen, discharge⟩ := SlotRecord.endsAtLeave_iff.mp ends
    rcases waits with closed | runs
    · exact Bool.false_ne_true (isOpen.symm.trans closed)
    · exact runs discharge
  cases closed : r.rail.closed with
  | true =>
    rw [(SlotRecord.gone_of_closed closed).1]
    exact ⟨rfl, rfl, rfl, rfl⟩
  | false =>
    rw [SlotRecord.gone_of_open closed stays]
    exact ⟨rfl, rfl, rfl, rfl⟩

/-- A slot with neither ahead of it ends its withdrawal. -/
theorem SlotRecord.gone_ended (ends : r.endsAtLeave = true) :
    (r.gone dischargeUs settleUs).ctx.state = endOf r.ctx.policy r.ctx.contact (r.ctx.destination.getD .settling)
      ∧ (r.gone dischargeUs settleUs).ctx.reason = none ∧ (r.gone dischargeUs settleUs).ctx.matched = none := by
  rw [SlotRecord.gone_of_ends ends, SlotRecord.withdrawn_ctx, Context.endState_eq]
  exact ⟨rfl, rfl, rfl⟩

end

/-! ## One LEAVE among the splices -/

section
variable {s v w t : State} {i : Slot}

/-- The record of a slot whose LEAVE a command applies. -/
theorem AfterSplices.slot_of_leave (after : AfterSplices s v w t) (leave : (s.scanOf i).splice = some .leave)
    (queued : (s.railOf i).queued = false) (leaving : (s.ctx i).leaving = some .leavePending) :
    t.slot i = (s.slot i).gone s.dischargeUs s.longSettleUs := by
  have same : v.slot i = s.slot i := after.before i (by rw [leaving]; decide)
  have params : v.params = s.params := (congrArg State.params after.blocks :)
  have discharge : v.dischargeUs = s.dischargeUs := by rw [State.dischargeUs, params, State.dischargeUs]
  have settle : v.longSettleUs = s.longSettleUs := by
    rw [State.longSettleUs, State.settleUs, discharge, params, State.longSettleUs, State.settleUs]
  have splices := v.splicedFrom_applySplices
  rw [after.spliced] at splices
  have gone := splices.left i (by rw [State.scanOf_eq, same]; exact leave) (by rw [State.railOf_eq, same]; exact queued)
  rw [same, discharge, settle] at gone
  have out : w.inRoster i = false := by
    rw [State.inRoster, State.scanOf_eq, gone, SlotRecord.gone_scan]
    rfl
  rw [after.out i out, gone]

theorem departed_of_gone (own : t.slot i = (s.slot i).gone s.dischargeUs s.longSettleUs) : Departed i t := by
  have windows := SlotRecord.gone_windows (r := s.slot i) (dischargeUs := s.dischargeUs) (settleUs := s.longSettleUs)
  rw [← own] at windows
  exact departed_of_slot (by rw [own]; exact SlotRecord.gone_scan) windows

/-- With no other splice and no RELEASE pending, the LEAVE alone reaches the other blocks. -/
theorem AfterSplices.work_of_only (after : AfterSplices s v w t) (leave : (s.scanOf i).splice = some .leave)
    (queued : (s.railOf i).queued = false) (leaving : (s.ctx i).leaving = some .leavePending)
    (quiet : ∀ j, j ≠ i → (s.scanOf j).splice = none ∧ (s.ctx j).leaving ≠ some .releasePending) :
    t.work = s.work.left i (s.slot i) := by
  have same : ∀ j, v.slot j = s.slot j := fun j => after.before j (by
    by_cases e : j = i
    · rw [e, leaving]
      decide
    · exact (quiet j e).2)
  have scans : ∀ j, v.scanOf j = s.scanOf j := fun j => by rw [State.scanOf_eq, same, State.scanOf_eq]
  have departs : v.applySplices = v.depart i := State.applySplices_of_only (by rw [scans]; exact leave)
    fun j ne => by rw [scans]; exact (quiet j ne).1
  have reached := (State.reaches_depart (s := v) (i := i) (by rw [State.railOf_eq, same]; exact queued)).work
  have work : v.work = s.work := (congrArg State.work after.blocks :)
  rw [after.work, ← after.spliced, departs, reached, same, work]

end

section
variable {s : State} {tag : Byte} {c : Instr} {i : Slot}

theorem splices_leave (on : s.safeOff = false) (applies : AppliesSplices tag c s) (leave : (s.scanOf i).splice = some .leave)
    (state : (s.ctx i).state = .withdrawing) (queued : (s.railOf i).queued = false)
    (leaving : (s.ctx i).leaving = some .leavePending) :
    ∃ t, exec c s = .next t ∧ Departed i t
      ∧ ((s.railOf i).closed = true → PowerStepTaken i s t)
      ∧ ((s.railOf i).closed = false → t.railOf i = s.railOf i)
      ∧ ((s.railOf i).closed = true ∨ (s.railOf i).dischargeTimer ≠ none →
          (t.ctx i).state = .withdrawing ∧ (t.ctx i).reason = (s.ctx i).reason
            ∧ (t.ctx i).destination = (s.ctx i).destination ∧ (t.ctx i).leaving = some .leavePending)
      ∧ (∀ reason dest, (s.railOf i).closed = false → (s.railOf i).dischargeTimer = none →
          (s.ctx i).reason = some reason → (s.ctx i).destination = some dest →
          (t.ctx i).state = endOf (s.ctx i).policy (s.ctx i).contact dest ∧ (t.ctx i).reason = none
            ∧ (t.ctx i).matched = none
            ∧ ((∀ j, j ≠ i → (s.scanOf j).splice = none ∧ (s.ctx j).leaving ≠ some .releasePending) →
              t.notices = s.notices.offer ⟨.withdrawn, some i, reason.code, [(t.ctx i).state.code]⟩))
      ∧ ((∀ j, j ≠ i → (s.scanOf j).splice = none ∧ (s.ctx j).leaving ≠ some .releasePending) →
          WindowsReleased i s t) := by
  obtain ⟨v, w, t, ran, after⟩ := exec_appliesSplices on applies
  have own := after.slot_of_leave leave queued leaving
  have departed := departed_of_gone own
  have ctx : t.ctx i = _ := congrArg SlotRecord.ctx own
  refine ⟨t, ran, departed, fun closed => ?_, fun isOpen => ?_, fun waits => ?_, fun reason dest isOpen discharge why where_ => ?_,
    fun quiet => ?_⟩
  · refine powerStepTaken_of_slot (q := (s.slot i).outOfRoster) ?_
    rw [own, (SlotRecord.gone_of_closed closed).1]
  · rw [State.railOf_eq, own, SlotRecord.gone_rail_of_open isOpen, State.railOf_eq]
  · obtain ⟨state', reason, destination, leaving'⟩ := SlotRecord.gone_waits (dischargeUs := s.dischargeUs)
      (settleUs := s.longSettleUs) waits
    rw [ctx, state', reason, destination, leaving']
    exact ⟨state, rfl, rfl, leaving⟩
  · have ends : (s.slot i).endsAtLeave = true := SlotRecord.endsAtLeave_iff.mpr ⟨state, isOpen, discharge⟩
    obtain ⟨state', reason', matched⟩ := SlotRecord.gone_ended (dischargeUs := s.dischargeUs) (settleUs := s.longSettleUs) ends
    have dest' : (s.slot i).ctx.destination.getD .settling = dest := by
      rw [show (s.slot i).ctx.destination = some dest from where_]
      rfl
    rw [dest'] at state'
    refine ⟨by rw [ctx, state']; rfl, by rw [ctx, reason'], by rw [ctx, matched], fun quiet => ?_⟩
    have notices : t.notices = s.notices.left i (s.slot i) := congrArg Work.notices (after.work_of_only leave queued leaving quiet)
    rw [notices, Notices.left, if_pos ends, ctx, state', Context.withdrawnNotice, Context.endState_eq]
    have why' : (s.slot i).ctx.dropWindows.reason = some reason := why
    rw [why', ← dest']
    rfl
  · have work := after.work_of_only leave queued leaving quiet
    obtain ⟨-, windows⟩ := departed
    exact windowsReleased_of_give windows (congrArg Work.imageIn work) (congrArg Work.imageOut work)

/-! ## Every splice that is due -/

/-- The notices of the LEAVEs that are due are those of the withdrawals that they end. -/
theorem notices_of_leaves (waits : ∀ i, (s.scanOf i).splice = some .leave → WaitsForLeave i s) (q : Notices) :
    (s.pendingSplices .leave).foldl (fun q j => q.left j (s.slot j)) q
      = (leavesEnding s).foldl (fun q i => q.offer (withdrawnNotice i s)) q := by
  have ending : leavesEnding s
      = (s.pendingSplices .leave).filter fun i => !(s.railOf i).closed && (s.railOf i).dischargeTimer.isNone := by
    unfold leavesEnding State.pendingSplices State.slotsWith
    rw [List.filter_filter]
    refine List.filter_congr fun j _ => ?_
    rw [State.scanOf_eq, Bool.and_assoc, Bool.and_comm]
  rw [ending, List.foldl_filter]
  refine List.foldl_ext _ _ _ fun q i mem => ?_
  obtain ⟨state, -, reason, destination, -⟩ := waits i (State.mem_pendingSplices.mp mem)
  have ends : (s.slot i).endsAtLeave = (!(s.railOf i).closed && (s.railOf i).dischargeTimer.isNone) := by
    unfold SlotRecord.endsAtLeave
    rw [show (s.slot i).ctx.state = .withdrawing from state]
    rfl
  have notice : (s.slot i).ctx.dropWindows.withdrawnNotice i = withdrawnNotice i s := by
    obtain ⟨why, isReason⟩ := Option.ne_none_iff_exists'.mp reason
    unfold Context.withdrawnNotice withdrawnNotice
    rw [Context.endState_eq]
    dsimp only
    rw [isReason, show (s.slot i).ctx.dropWindows.reason = some why from isReason]
    rfl
  unfold Notices.left
  rw [ends, notice]

theorem splices_all (on : s.safeOff = false) (applies : AppliesSplices tag c s)
    (noRelease : ∀ i, (s.ctx i).leaving ≠ some .releasePending)
    (waits : ∀ i, (s.scanOf i).splice = some .leave → WaitsForLeave i s)
    (joinsOut : ∀ j, (s.scanOf j).splice = some .join → (s.railOf j).queued = false) :
    ∃ t, exec c s = .next t
      ∧ t.notices = (joinsDue s).foldl (fun q j => q.offer ⟨.online, some j, 0, be32 s.scan.cycle.toNat⟩)
          ((leavesEnding s).foldl (fun q i => q.offer (withdrawnNotice i s)) s.notices)
      ∧ (∀ i, (s.scanOf i).splice = some .leave → Departed i t)
      ∧ ∀ j ∈ joinsDue s, Safety.Joined j s t := by
  obtain ⟨v, w, t, ran, after⟩ := exec_appliesSplices on applies
  have slots : v.slots = s.slots := State.slots_ext fun j => after.before j (noRelease j)
  have clock : v.clock = s.clock := (congrArg State.clock after.blocks :)
  have params : v.params = s.params := (congrArg State.params after.blocks :)
  have same : ∀ j, v.slot j = s.slot j := fun j => after.before j (noRelease j)
  have scans : ∀ j, v.scanOf j = s.scanOf j := fun j => congrArg SlotRecord.scan (same j)
  have rails : ∀ j, v.railOf j = s.railOf j := fun j => congrArg SlotRecord.rail (same j)
  have splices := v.splicedFrom_applySplices
  rw [after.spliced] at splices
  have due : joinsDue v = joinsDue s := by
    unfold joinsDue
    simp only [scans, clock]
  have leaves : v.pendingSplices .leave = s.pendingSplices .leave := by
    unfold State.pendingSplices State.slotsWith
    simp only [same]
  refine ⟨t, ran, ?_, fun i leave => ?_, fun j mem => ?_⟩
  · have posted := splices.notices fun j leave => by
      obtain ⟨-, -, -, -, queued⟩ := waits j (by rw [← scans]; exact leave)
      rw [rails]
      exact queued
    have notice : ∀ i, v.scan.onlineNotice i = ⟨.online, some i, 0, be32 s.scan.cycle.toNat⟩ := fun i => by
      rw [Scan.onlineNotice, after.cycle]
    have before : v.notices = s.notices := (congrArg State.notices after.blocks :)
    have work : t.notices = w.notices := congrArg Work.notices after.work
    rw [due, leaves, before] at posted
    simp only [same, notice] at posted
    rw [work, posted, notices_of_leaves waits]
  · obtain ⟨-, leaving, -, -, queued⟩ := waits i leave
    exact departed_of_gone (after.slot_of_leave leave queued leaving)
  · obtain ⟨-, both⟩ := List.mem_filter.mp mem
    obtain ⟨join, thawed⟩ := Bool.and_eq_true_iff.mp both
    have join : (s.scanOf j).splice = some .join := beq_iff_eq.mp join
    have thawed : s.clock.frozen = false := by simpa using thawed
    have qual : v.qualUs = s.qualUs := by rw [State.qualUs, params, State.qualUs]
    have own := splices.joined (by rw [clock]; exact thawed) j (by rw [scans]; exact join) (by rw [rails]; exact joinsOut j join)
    rw [same, clock, qual] at own
    have clear : (w.scanOf j).skip = some false := by
      rw [State.scanOf_eq, own, (SlotRecord.spliced_spec _ _ _).2.2.2]
    have here := after.joined j clear
    rw [own] at here
    exact (joined_of_snapped here).1

end

/-- Settles O53: a boundary and a stop of the scan apply the splices, LEAVEs before JOINs, and a boundary then takes the
snapshots and begins the exchanges; the other requests and the expiry within a cycle change the scan's state alone. -/
theorem boundaryBeginsACycle : Obligations.BoundaryBeginsACycle := by
  unfold Obligations.BoundaryBeginsACycle
  intro tag s on
  refine ⟨fun c due none => ?_, scanStart_refused on, scanStop_already on, fun c => boundary_joins on, fun c => boundary_frozen on,
    fun c i applies => splices_leave on applies, fun c applies => splices_all on applies, scanStop_joins on,
    fun us x => period_overruns, fun running ⟨x, exchange, live⟩ => scanStop_stopping on running exchange live,
    scanStop_quiet on⟩
  obtain ⟨t, ran, scan, rest, link, answers, slots⟩ := boundary_of_quiet on due none
  refine ⟨t, ran, scan, rest, link, answers, fun j out => (slots j).trans (State.bounded_of_out out), fun j member => ?_⟩
  exact bounded_of_roster (none j) ((slots j).trans (if_pos member))

end Sys2Proof.Machine

/-! The end of an exchange: its marker, the exchanges that follow, and what it leaves of the other slots (R155, R158, R159). -/

namespace Sys2Proof.Machine

open Sys2Proof Sys2Proof.Safety

set_option Elab.async false

/-! ## The phases of an exchange (R155) -/

section
variable {s : State} {i : Slot} {p : ExchangePhase} {x : Bool} {f : List Byte} {n : Nat}

theorem State.exchangeIn_of_phase (exchange : s.scan.exchange = some ⟨i, p, x, f, n⟩) :
    s.exchangeIn p = some ⟨i, p, x, f, n⟩ := by
  unfold State.exchangeIn
  rw [exchange, Option.filter_some, if_pos (beq_self_eq_true p)]

theorem State.setPhase_of_exchange (exchange : s.scan.exchange = some ⟨i, p, x, f, n⟩) (q : ExchangePhase) :
    s.setPhase q = { s with scan := { s.scan with exchange := some ⟨i, q, x, f, n⟩ } } := by
  unfold State.setPhase State.modScanRack
  dsimp only
  rw [exchange]
  rfl

theorem exec_exchangeFrameSent (exchange : s.scan.exchange = some ⟨i, .sending, x, f, n⟩) : s.laneFrame = some f
    ∧ exec .exchangeFrameSent s = .next { s with scan := { s.scan with exchange := some ⟨i, .window, x, f, n⟩ } } := by
  refine ⟨?_, ?_⟩
  · unfold State.laneFrame
    rw [exchange]
  · change execExchangeFrameSent s = _
    unfold execExchangeFrameSent
    rw [State.exchangeIn_of_phase exchange, State.setPhase_of_exchange exchange]
    rfl

theorem State.laneFrame_of_ne_sending (exchange : s.scan.exchange = some ⟨i, p, x, f, n⟩) (other : p ≠ .sending) :
    s.laneFrame = none := by
  unfold State.laneFrame
  rw [exchange]
  cases p with
  | sending => exact absurd rfl other
  | window => rfl
  | replying => rfl

theorem exec_replyBegin (exchange : s.scan.exchange = some ⟨i, .window, x, f, n⟩) :
    exec .replyBegin s = .next { s with scan := { s.scan with exchange := some ⟨i, .replying, x, f, n⟩ } } := by
  change execReplyBegin s = _
  unfold execReplyBegin
  rw [State.exchangeIn_of_phase exchange, State.setPhase_of_exchange exchange]
  rfl

theorem exec_replyEnd (exchange : s.scan.exchange = some ⟨i, .replying, x, f, n⟩) (reply : List Byte) :
    exec (.replyEnd reply) s = .next (s.judgeReply ⟨i, .replying, x, f, n⟩ reply) := by
  change execReplyEnd reply s = _
  unfold execReplyEnd
  rw [State.exchangeIn_of_phase exchange]

theorem exec_responseWindowExpiry (exchange : s.scan.exchange = some ⟨i, .window, x, f, n⟩) :
    exec .responseWindowExpiry s = .next (s.failExchange ⟨i, .window, x, f, n⟩) := by
  change execResponseWindowExpiry s = _
  unfold execResponseWindowExpiry
  rw [State.exchangeIn_of_phase exchange]

theorem exec_replySilenceTimeout (exchange : s.scan.exchange = some ⟨i, .replying, x, f, n⟩) :
    exec .replySilenceTimeout s = .next (s.failExchange ⟨i, .replying, x, f, n⟩) := by
  change execReplySilenceTimeout s = _
  unfold execReplySilenceTimeout
  rw [State.exchangeIn_of_phase exchange]

/-- A reply that is shorter than its count has not ended (log entry 17). -/
theorem State.judgeReply_of_short {reply : List Byte} (short : reply.length < n + 3) :
    s.judgeReply ⟨i, p, x, f, n⟩ reply = s :=
  if_pos (by change reply.length < 1 + n + 2; omega)

/-- A reply that has reached its count and whose inputs are read (R156). -/
theorem State.judgeReply_of_inputs {reply inputs : List Byte} (long : n + 3 ≤ reply.length)
    (read : replyInputs i n reply = some inputs) :
    s.judgeReply ⟨i, p, false, f, n⟩ reply = (s.exchangeOk i inputs).endExchange i := by
  have ended : ¬ reply.length < 1 + n + 2 := by omega
  unfold State.judgeReply
  dsimp only
  rw [if_neg ended, if_neg Bool.false_ne_true, read]

/-- A reply that has reached its count and fails its check (R157). -/
theorem State.judgeReply_of_bad {reply : List Byte} (long : n + 3 ≤ reply.length) (bad : replyInputs i n reply = none) :
    s.judgeReply ⟨i, p, false, f, n⟩ reply = (s.exchangeFailed i).endExchange i := by
  have ended : ¬ reply.length < 1 + n + 2 := by omega
  unfold State.judgeReply
  dsimp only
  rw [if_neg ended, if_neg Bool.false_ne_true, bad]

/-! ## The discarded exchange (R164) -/

theorem State.endDiscarded_of_stopped (stopped : s.scan.state = .stopped) (ended : s.scan.remaining = []) :
    s.endDiscarded = { s with scan := { s.scan with exchange := none } } := by
  have settles : ∀ u : State, u.scan.state = .stopped → u.settleCycle = u := fun u halted => by
    unfold State.settleCycle
    rw [halted]
    exact ite_self _
  have ran : State.runExchanges s.scan.remaining (s.modScanRack fun c => { c with exchange := none })
      = { s with scan := { s.scan with exchange := none } } := by
    rw [ended]
    change { s with scan := { s.scan with exchange := none, remaining := [] } } = _
    rw [← ended]
  change (State.runExchanges s.scan.remaining (s.modScanRack fun c => { c with exchange := none })).settleCycle = _
  rw [ran]
  exact settles _ stopped

/-- A command that ends the exchange on the lane without a good reply: no reply, silence, or a reply that has reached its count. -/
def EndsExchange (c : Instr) (p : ExchangePhase) (n : Nat) : Prop :=
  (c = .responseWindowExpiry ∧ p = .window) ∨ (c = .replySilenceTimeout ∧ p = .replying)
    ∨ (∃ reply, c = .replyEnd reply ∧ p = .replying ∧ n + 3 ≤ reply.length)

theorem exec_discarded {c : Instr} (exchange : s.scan.exchange = some ⟨i, p, true, f, n⟩) (stopped : s.scan.state = .stopped)
    (ended : s.scan.remaining = []) (ends : EndsExchange c p n) :
    exec c s = .next { s with scan := { s.scan with exchange := none } } := by
  rw [← State.endDiscarded_of_stopped stopped ended]
  rcases ends with ⟨rfl, rfl⟩ | ⟨rfl, rfl⟩ | ⟨reply, rfl, rfl, long⟩
  · exact exec_responseWindowExpiry exchange
  · exact exec_replySilenceTimeout exchange
  · have ended : ¬ reply.length < 1 + n + 2 := by omega
    rw [exec_replyEnd exchange]
    unfold State.judgeReply
    dsimp only
    rw [if_neg ended, if_pos rfl]

end

/-! ## The exchanges that follow (R155, R158, R159) -/

section
variable {s : State} {i : Slot} {q : SlotRecord} {w : Work} {us : Nat}

/-- A slot's record keeps what an exchange reads. -/
structure SlotRecord.SameExchange (r q : SlotRecord) : Prop where
  skip : q.scan.skip = r.scan.skip
  marker : q.scan.marker = r.scan.marker
  snapshot : q.scan.snapshot = r.scan.snapshot
  identity : q.ctx.identity = r.ctx.identity

/-- The state as the exchange of `i` has left the lane with its marker taken. -/
def State.offLane (s : State) (i : Slot) (q : SlotRecord) (w : Work) : State :=
  { s.put i (markerTaken q) w with scan := { s.scan with exchange := none } }

theorem State.endExchange_put : (s.put i q w).endExchange i
    = (State.runExchanges s.scan.remaining (s.offLane i q w)).settleCycle := by
  unfold State.endExchange
  rw [State.endMarker_eq, State.put_modSlot]
  rfl

theorem State.slot_offLane_self : (s.offLane i q w).slot i = markerTaken q :=
  State.slot_put_self (s := s) (w := w)

theorem State.slot_offLane_ne {j : Slot} (ne : j ≠ i) : (s.offLane i q w).slot j = s.slot j :=
  State.slot_put_ne (w := w) ne

/-- What the exchanges that remain read of the slots is as it was before the exchange ended. -/
theorem offLane_reads (same : (s.slot i).SameExchange q) :
    (∀ j, ((s.offLane i q w).scanOf j).skip = (s.scanOf j).skip) ∧ exchangeOf (s.offLane i q w) = exchangeOf s := by
  obtain ⟨skip, marker, snapshot, identity⟩ := same
  obtain ⟨marker', snapshot', skip', -, identity'⟩ := markerTaken_spec q
  have other : ∀ j, j ≠ i → (s.offLane i q w).slot j = s.slot j := fun _ => State.slot_offLane_ne
  have own : (s.offLane i q w).slot i = markerTaken q := State.slot_offLane_self
  refine ⟨fun j => ?_, funext fun j => ?_⟩
  · by_cases e : j = i
    · rw [e, State.scanOf_eq, own, skip', skip, State.scanOf_eq]
    · rw [State.scanOf_eq, other j e, State.scanOf_eq]
  · by_cases e : j = i
    · rw [e]
      refine exchangeOf_congr ?_ ?_ ?_
      · rw [State.scanOf_eq, own, marker', marker, State.scanOf_eq]
      · rw [State.scanOf_eq, own, snapshot', snapshot, State.scanOf_eq]
      · rw [State.ctx_eq, own, identity', identity, State.ctx_eq]
    · exact exchangeOf_congr (by rw [State.scanOf_eq, other j e, State.scanOf_eq])
        (by rw [State.scanOf_eq, other j e, State.scanOf_eq]) (by rw [State.ctx_eq, other j e, State.ctx_eq])

/-- The end of an exchange in a RUNNING scan whose period timer runs. -/
theorem endExchange_running (running : s.scan.state = .running) (period : s.scan.period = .running us)
    (same : (s.slot i).SameExchange q) :
    OthersSkipped i s ((s.put i q w).endExchange i) ∧ NextExchange s ((s.put i q w).endExchange i)
      ∧ ((s.put i q w).endExchange i).slot i = markerTaken q
      ∧ { (s.put i q w).endExchange i with slots := s.slots, scan := s.scan } = { s.put i q w with slots := s.slots } := by
  obtain ⟨skips, exchanges⟩ := offLane_reads (w := w) same
  obtain ⟨slots, scan, rest⟩ := State.runExchanges_spec s.scan.remaining (s.offLane i q w) rfl
  have own : (s.offLane i q w).slot i = markerTaken q := State.slot_offLane_self
  have other : ∀ j, j ≠ i → (s.offLane i q w).slot j = s.slot j := fun _ => State.slot_offLane_ne
  have front : skipped (s.offLane i q w) s.scan.remaining = skipped s s.scan.remaining :=
    congrArg (fun p => s.scan.remaining.takeWhile p) (funext fun j => by rw [skips j])
  have back : unskipped (s.offLane i q w) s.scan.remaining = unskipped s s.scan.remaining :=
    congrArg (fun p => s.scan.remaining.dropWhile p) (funext fun j => by rw [skips j])
  have before : (s.offLane i q w).scan = { s.scan with exchange := none } := rfl
  rw [front] at slots
  rw [back, exchanges, before] at scan
  have blocks : { s.offLane i q w with slots := s.slots, scan := s.scan } = { s.put i q w with slots := s.slots } := rfl
  rw [State.endExchange_put]
  generalize s.offLane i q w = u at slots scan rest own other blocks
  generalize State.runExchanges s.scan.remaining u = t at slots scan rest
  have goesOn : t.settleCycle = t := by
    have state : t.scan.state = .running := (congrArg Scan.state scan :).trans running
    have timer : t.scan.period = .running us := (congrArg Scan.period scan :).trans period
    unfold State.settleCycle
    rw [state, timer]
    exact ite_self _
  rw [goesOn]
  refine ⟨fun j ne => ?_, scan, ?_, ?_⟩
  · rw [slots, other j ne]
  · rw [slots, own]
    split
    · exact markerTaken_markerTaken q
    · rfl
  · calc _ = { { t with slots := u.slots, scan := u.scan } with slots := s.slots, scan := s.scan } := rfl
      _ = { u with slots := s.slots, scan := s.scan } := by rw [rest]
      _ = _ := blocks

/-- The state as a cycle's last exchange has left the lane. -/
def State.cycleEnded (s : State) (i : Slot) (q : SlotRecord) (w : Work) : State :=
  { s.put i q w with scan := { s.scan with exchange := none } }

/-- The end of a cycle's last exchange, which carried no RELEASE. -/
theorem endExchange_last (ended : s.scan.remaining = []) (normal : q.scan.marker = some .normal) :
    (s.put i q w).endExchange i = (s.cycleEnded i q w).settleCycle := by
  have kept : markerTaken q = q := markerTaken_of_other (by rw [normal]; decide)
  have ran : State.runExchanges s.scan.remaining (s.offLane i q w) = s.offLane i q w := by
    rw [ended]
    change { s.offLane i q w with scan := { s.scan with exchange := none, remaining := [] } } = _
    rw [← ended]
    rfl
  rw [State.endExchange_put, ran, State.offLane, kept, State.cycleEnded]

end

end Sys2Proof.Machine

/-! The outcomes of an exchange: the inputs, a failure, a miss, EXCHANGE_LOST, an overrun and the end of a STOPPING cycle (8.5). -/

namespace Sys2Proof.Machine

open Sys2Proof Sys2Proof.Safety

set_option Elab.async false

/-! ## The reply (R155, R156) -/

section
variable {i : Slot} {n : Nat} {reply inputs extra : List Byte}

theorem replyInputs_of_good (count : inputs.length = n) :
    replyInputs i n ((byteOf i.val :: inputs) ++ crcTail (byteOf i.val :: inputs) ++ extra) = some inputs := by
  have covered : (byteOf i.val :: inputs).length = 1 + n := by rw [List.length_cons, count, Nat.add_comm]
  have tail : (crcTail (byteOf i.val :: inputs)).length = 2 := rfl
  unfold replyInputs
  rw [List.append_assoc, List.take_left' covered, List.drop_left' covered, List.take_left' tail]
  exact if_pos ⟨rfl, rfl⟩

theorem replyInputs_of_bad (bad : reply[0]? ≠ some (byteOf i.val)
    ∨ (reply.drop (1 + n)).take 2 ≠ crcTail (reply.take (1 + n))) : replyInputs i n reply = none := by
  have first : (reply.take (1 + n)).head? = reply[0]? := by
    rw [List.head?_take, if_neg (by omega), List.head?_eq_getElem?]
  unfold replyInputs
  refine if_neg fun ⟨head, check⟩ => ?_
  rw [first] at head
  exact bad.elim (fun ne => ne head) fun ne => ne check

/-! ## The outcomes as one change of the slot's record and of the IN image (R156, R157) -/

/-- An image with bytes written from the start of a window. -/
def Image.filled (x : Image) (inputs : List Byte) : Option Window → Image
  | none => x
  | some w => { x with mem := Memory.writeBytes x.mem w.base inputs }

/-- A slot's record as its exchange has ended OK. -/
def SlotRecord.refreshed (r : SlotRecord) : SlotRecord :=
  { r with ctx := { r.ctx with
      inputQuality := some .fresh, missCount := if r.ctx.state = .online then some 0 else r.ctx.missCount } }

/-- The input quality that a failed exchange leaves. -/
def failedQuality : InputPolicy → InputQuality
  | .hold => .held
  | .zero => .zeroed

/-- An image with a window as a failed exchange leaves it. -/
def Image.failed (x : Image) (policy : InputPolicy) : Option Window → Image
  | none => x
  | some w => match policy with
    | .hold => x
    | .zero => { x with mem := Memory.zero x.mem w.base w.size }

/-- A slot's record by the input policy. -/
def SlotRecord.unfed (r : SlotRecord) : SlotRecord :=
  { r with ctx := { r.ctx with inputQuality := some (failedQuality r.ctx.inputPolicy) } }

/-- A slot's record with a miss counted. -/
def SlotRecord.missed (r : SlotRecord) : SlotRecord :=
  { r with ctx := { r.ctx with
      missCount := if r.ctx.state = .online then some (min 15 (r.ctx.missCount.getD 0 + 1)) else r.ctx.missCount } }

end

section
variable {s : State} {i : Slot}

theorem State.put_self : s = s.put i (s.slot i) s.work :=
  (State.worked_of_fixed (s := s) (i := i) (f := fun _ => s.slot i) rfl).symm

theorem State.exchangeOk_eq (inputs : List Byte) : s.exchangeOk i inputs
    = s.put i (s.slot i).refreshed { s.work with imageIn := s.imageIn.filled inputs (s.ctx i).inWindow } := by
  unfold State.exchangeOk State.writeWindow
  cases window : (s.ctx i).window .input with
  | none =>
    rw [show (s.ctx i).inWindow = none from window]
    rfl
  | some w =>
    rw [show (s.ctx i).inWindow = some w from window]
    rfl

theorem State.applyInputPolicy_eq : s.applyInputPolicy i = s.put i (s.slot i).unfed
    { s.work with imageIn := s.imageIn.failed (s.ctx i).inputPolicy (s.ctx i).inWindow } := by
  unfold State.applyInputPolicy SlotRecord.unfed
  cases policy : (s.ctx i).inputPolicy with
  | hold =>
    have same : ∀ p, s.imageIn.failed .hold p = s.imageIn := fun p => by cases p <;> rfl
    rw [same, show (s.slot i).ctx.inputPolicy = .hold from policy]
    rfl
  | zero =>
    unfold State.zeroWindow
    rw [show (s.slot i).ctx.inputPolicy = .zero from policy]
    cases window : (s.ctx i).window .input with
    | none =>
      rw [show (s.ctx i).inWindow = none from window]
      rfl
    | some w =>
      rw [show (s.ctx i).inWindow = some w from window]
      rfl

end

end Sys2Proof.Machine

/-! The end of an exchange, outcome by outcome, and the obligation on exchanges (R148, R149, R155 to R159). -/

namespace Sys2Proof.Machine

open Sys2Proof Sys2Proof.Safety

set_option Elab.async false

/-! ## The end of a cycle's last exchange (R148, R149) -/

section
variable {s : State} {i : Slot} {q : SlotRecord} {w : Work}

theorem settleCycle_of_overrun (running : s.scan.state = .running) (expired : s.scan.period = .expired)
    (ended : s.scan.remaining = []) : (s.cycleEnded i q w).settleCycle = (s.cycleEnded i q w).offerOverrun.boundary := by
  have complete : (s.cycleEnded i q w).exchangesEnded = true := State.exchangesEnded_of_idle rfl ended
  have state : (s.cycleEnded i q w).scan.state = .running := running
  have period : (s.cycleEnded i q w).scan.period = .expired := expired
  unfold State.settleCycle
  rw [if_pos complete, state]
  exact if_pos period

theorem settleCycle_of_stopping (stopping : s.scan.state = .stopping) (ended : s.scan.remaining = []) :
    (s.cycleEnded i q w).settleCycle = (s.cycleEnded i q w).halted.releasesDropped.applySplices := by
  have complete : (s.cycleEnded i q w).exchangesEnded = true := State.exchangesEnded_of_idle rfl ended
  have state : (s.cycleEnded i q w).scan.state = .stopping := stopping
  unfold State.settleCycle
  rw [if_pos complete, state]
  rfl

/-- A boundary leaves the input quality of every slot that no splice touches. -/
theorem State.bounded_quality (w : State) (j : Slot) : (w.bounded j).ctx.inputQuality = (w.slot j).ctx.inputQuality := by
  have taken : ∀ r : SlotRecord, (markerTaken r).ctx.inputQuality = r.ctx.inputQuality := fun r => by
    unfold markerTaken
    split <;> rfl
  unfold State.bounded
  split
  · split
    · exact taken _
    · rfl
  · rfl

/-- The boundary that follows an overrun. -/
theorem overrun_boundary {k : Slot} {rest : List Slot} (same : q.scan = s.scanOf i) (running : s.scan.state = .running)
    (none : ∀ j, (s.scanOf j).splice = none) (roster : s.roster = k :: rest) (clear : (s.scanOf k).skip = some false) :
    (s.cycleEnded i q w).offerOverrun.boundary.notices = w.notices.offer ⟨.scanOverrun, Option.none, 0, be32 s.scan.cycle.toNat⟩
      ∧ (s.cycleEnded i q w).offerOverrun.boundary.scan = ⟨.running, s.scan.cycle + 1, .running s.params.cyclePeriod,
          some (exchangeOf (s.cycleEnded i q w).offerOverrun.boundary k), rest⟩
      ∧ ((s.cycleEnded i q w).offerOverrun.boundary.ctx i).inputQuality = q.ctx.inputQuality := by
  have own : (s.cycleEnded i q w).offerOverrun.slot i = q := State.slot_put_self (s := s) (w := w)
  have others : ∀ j, j ≠ i → (s.cycleEnded i q w).offerOverrun.slot j = s.slot j := fun j ne =>
    State.slot_put_ne (s := s) (w := w) ne
  have scanRack : (s.cycleEnded i q w).offerOverrun.scan
      = ⟨.running, s.scan.cycle, s.scan.period, Option.none, s.scan.remaining⟩ := by
    rw [← running]
    rfl
  have notices : (s.cycleEnded i q w).offerOverrun.notices
      = w.notices.offer ⟨.scanOverrun, Option.none, 0, be32 s.scan.cycle.toNat⟩ := rfl
  have params : (s.cycleEnded i q w).offerOverrun.params = s.params := rfl
  generalize (s.cycleEnded i q w).offerOverrun = v at own others scanRack notices params
  have scans : ∀ j, v.scanOf j = s.scanOf j := fun j => by
    by_cases e : j = i
    · rw [e, State.scanOf_eq, own, same]
    · rw [State.scanOf_eq, others j e, State.scanOf_eq]
  have rosterV : v.roster = k :: rest := by
    rw [← roster]
    unfold State.roster State.slotsWith
    refine List.filter_congr fun j _ => ?_
    exact congrArg (fun r : ScanSlot => r.skip.isSome) (scans j)
  have first : unskipped v (k :: rest) = k :: rest := by
    unfold unskipped
    rw [List.dropWhile_cons_of_neg (by rw [scans, clear]; decide)]
  have idle : v.scan.exchange = Option.none := by rw [scanRack]
  obtain ⟨slots, scan, blocks⟩ := State.boundary_spec idle (State.applySplices_of_none fun j => by rw [scans]; exact none j)
  rw [rosterV, first, scanRack, params] at scan
  refine ⟨(congrArg State.notices blocks :).trans notices, ?_, ?_⟩
  · rw [scan]
    rfl
  · rw [State.ctx_eq, slots, State.bounded_quality, own]

/-- The JOINs that follow the last exchange of a STOPPING scan. -/
theorem stopping_joins (same : q.scan = s.scanOf i) (leaving : q.ctx.leaving = (s.ctx i).leaving)
    (notices : w.notices = s.notices) (ended : s.scan.remaining = [])
    (quiet : ∀ j, (s.scanOf j).splice ≠ some .leave ∧ (s.ctx j).leaving ≠ some .releasePending)
    (none : (s.scanOf i).splice = none) :
    JoinsApplied s (s.cycleEnded i q w).halted.releasesDropped.applySplices
      ∧ (∀ j, j ≠ i → (s.scanOf j).splice = Option.none →
          (s.cycleEnded i q w).halted.releasesDropped.applySplices.slot j = s.slot j)
      ∧ (s.cycleEnded i q w).halted.releasesDropped.applySplices.slot i = q
      ∧ { (s.cycleEnded i q w).halted.releasesDropped.applySplices with
          slots := s.slots, scan := s.scan, notices := s.notices } = { s.put i q w with slots := s.slots, notices := s.notices }
      ∧ (s.cycleEnded i q w).halted.releasesDropped.applySplices.scan = ⟨.stopped, s.scan.cycle, .idle, Option.none, []⟩ := by
  have own : (s.cycleEnded i q w).halted.slot i = q := State.slot_put_self (s := s) (w := w)
  have others : ∀ j, j ≠ i → (s.cycleEnded i q w).halted.slot j = s.slot j := fun j ne =>
    State.slot_put_ne (s := s) (w := w) ne
  have blocks : { (s.cycleEnded i q w).halted with slots := s.slots, scan := s.scan } = { s.put i q w with slots := s.slots } := rfl
  have scanRack : (s.cycleEnded i q w).halted.scan = ⟨.stopped, s.scan.cycle, .idle, Option.none, s.scan.remaining⟩ := rfl
  have posted : (s.cycleEnded i q w).halted.notices = s.notices := notices
  have clock : (s.cycleEnded i q w).halted.clock = s.clock := rfl
  have params : (s.cycleEnded i q w).halted.params = s.params := rfl
  generalize (s.cycleEnded i q w).halted = u at own others blocks scanRack posted clock params
  have scans : ∀ j, u.scanOf j = s.scanOf j := fun j => by
    by_cases e : j = i
    · rw [e, State.scanOf_eq, own, same]
    · rw [State.scanOf_eq, others j e, State.scanOf_eq]
  have leavings : ∀ j, (u.ctx j).leaving = (s.ctx j).leaving := fun j => by
    by_cases e : j = i
    · rw [e, State.ctx_eq, own, leaving]
    · rw [State.ctx_eq, others j e, State.ctx_eq]
  rw [State.releasesDropped_of_none fun j => by rw [leavings]; exact (quiet j).2,
    State.applySplices_of_noLeave fun j => by rw [scans]; exact (quiet j).1]
  obtain ⟨joins, kept, rest⟩ := joinsApplied_of_applyJoins (s := s) (u := u) (fun j => by rw [scans])
    (fun j join => others j fun e => by
      rw [e, none] at join
      exact absurd join (by decide)) clock params (by rw [scanRack]) posted
  generalize u.applyJoins = t at joins kept rest
  refine ⟨joins, fun j ne quiet => (kept j quiet).trans (others j ne), (kept i none).trans own, ?_, ?_⟩
  · calc _ = { { t with slots := u.slots, notices := u.notices } with
              slots := s.slots, scan := s.scan, notices := s.notices } := rfl
      _ = { u with slots := s.slots, scan := s.scan, notices := s.notices } := by rw [rest]
      _ = { { u with slots := s.slots, scan := s.scan } with notices := s.notices } := rfl
      _ = { { s.put i q w with slots := s.slots } with notices := s.notices } := by rw [blocks]
      _ = _ := rfl
  · have same : t.scan = u.scan := (congrArg State.scan rest :)
    rw [same, scanRack, ended]

end

/-! ## An exchange that ends OK (R156) -/

section
variable {s : State} {i : Slot} {n : Nat} {f inputs extra : List Byte}

/-- The state as an exchange ends OK, before its marker is taken. -/
def State.answered (s : State) (i : Slot) (inputs : List Byte) : State :=
  s.put i (s.slot i).refreshed { s.work with imageIn := s.imageIn.filled inputs (s.ctx i).inWindow }

variable (exchange : s.scan.exchange = some ⟨i, .replying, false, f, n⟩) (count : inputs.length = n)
include exchange count

theorem exec_goodReply : exec (.replyEnd ((byteOf i.val :: inputs) ++ crcTail (byteOf i.val :: inputs) ++ extra)) s
    = .next ((s.answered i inputs).endExchange i) := by
  have long : n + 3 ≤ ((byteOf i.val :: inputs) ++ crcTail (byteOf i.val :: inputs) ++ extra).length := by
    have tail : (crcTail (byteOf i.val :: inputs)).length = 2 := rfl
    rw [List.length_append, List.length_append, tail, List.length_cons, count]
    omega
  rw [exec_replyEnd exchange, State.judgeReply_of_inputs long (replyInputs_of_good count), State.exchangeOk_eq, State.answered]

theorem goodReply_running (running : s.scan.state = .running) {us : Nat} (period : s.scan.period = .running us)
    (canonical : ImagesCanonical s) :
    ∃ t, exec (.replyEnd ((byteOf i.val :: inputs) ++ crcTail (byteOf i.val :: inputs) ++ extra)) s = .next t
      ∧ { t with slots := s.slots, imageIn := s.imageIn, scan := s.scan } = s
      ∧ OthersSkipped i s t ∧ NextExchange s t ∧ t.imageIn.free = s.imageIn.free
      ∧ t.slot i = markerTaken (s.slot i).refreshed
      ∧ ((s.ctx i).inWindow = none → t.imageIn = s.imageIn)
      ∧ ∀ w, (s.ctx i).inWindow = some w → ∀ a, Memory.read t.imageIn.mem a
          = if 16 * w.start ≤ a ∧ a < 16 * w.start + inputs.length then (inputs[a - 16 * w.start]?).getD 0
            else Memory.read s.imageIn.mem a := by
  obtain ⟨others, next, own, rest⟩ := endExchange_running (w := { s.work with
    imageIn := s.imageIn.filled inputs (s.ctx i).inWindow }) (q := (s.slot i).refreshed) running period ⟨rfl, rfl, rfl, rfl⟩
  have image : ((s.answered i inputs).endExchange i).imageIn = s.imageIn.filled inputs (s.ctx i).inWindow :=
    (congrArg State.imageIn rest :)
  refine ⟨_, exec_goodReply exchange count, (congrArg (fun u : State => { u with imageIn := s.imageIn }) rest :), others, next,
    ?_, own, fun none => ?_, fun w window a => ?_⟩
  · rw [image]
    cases (s.ctx i).inWindow <;> rfl
  · rw [image, none]
    rfl
  · rw [image, window]
    exact Memory.read_writeBytes inputs canonical.1 _ _

theorem goodReply_overrun {k : Slot} {rest : List Slot} (running : s.scan.state = .running) (expired : s.scan.period = .expired)
    (ended : s.scan.remaining = []) (none : ∀ j, (s.scanOf j).splice = none) (normal : (s.scanOf i).marker = some .normal)
    (roster : s.roster = k :: rest) (clear : (s.scanOf k).skip = some false) :
    ∃ t, exec (.replyEnd ((byteOf i.val :: inputs) ++ crcTail (byteOf i.val :: inputs) ++ extra)) s = .next t
      ∧ t.notices = s.notices.offer ⟨.scanOverrun, Option.none, 0, be32 s.scan.cycle.toNat⟩
      ∧ t.scan = ⟨.running, s.scan.cycle + 1, .running s.params.cyclePeriod, some (exchangeOf t k), rest⟩
      ∧ (t.ctx i).inputQuality = some .fresh := by
  have ran := exec_goodReply (extra := extra) exchange count
  rw [State.answered, endExchange_last (q := (s.slot i).refreshed) ended normal,
    settleCycle_of_overrun running expired ended] at ran
  obtain ⟨notices, scan, quality⟩ := overrun_boundary (w := { s.work with
    imageIn := s.imageIn.filled inputs (s.ctx i).inWindow }) (q := (s.slot i).refreshed) rfl running none roster clear
  exact ⟨_, ran, notices, scan, quality⟩

theorem goodReply_stopping (stopping : s.scan.state = .stopping) (ended : s.scan.remaining = [])
    (quiet : ∀ j, (s.scanOf j).splice ≠ some .leave ∧ (s.ctx j).leaving ≠ some .releasePending)
    (none : (s.scanOf i).splice = none) (normal : (s.scanOf i).marker = some .normal) :
    ∃ t, exec (.replyEnd ((byteOf i.val :: inputs) ++ crcTail (byteOf i.val :: inputs) ++ extra)) s = .next t
      ∧ { t with slots := s.slots, imageIn := s.imageIn, scan := s.scan, notices := s.notices } = s
      ∧ JoinsApplied s t ∧ (∀ j, j ≠ i → (s.scanOf j).splice = Option.none → t.slot j = s.slot j)
      ∧ (t.ctx i).inputQuality = some .fresh
      ∧ t.scan = ⟨.stopped, s.scan.cycle, .idle, Option.none, []⟩ := by
  have ran := exec_goodReply (extra := extra) exchange count
  rw [State.answered, endExchange_last (q := (s.slot i).refreshed) ended normal, settleCycle_of_stopping stopping ended] at ran
  obtain ⟨joins, others, own, rest, scan⟩ := stopping_joins (q := (s.slot i).refreshed) (w := { s.work with
    imageIn := s.imageIn.filled inputs (s.ctx i).inWindow }) rfl rfl rfl ended quiet none
  generalize (s.cycleEnded i (s.slot i).refreshed { s.work with
    imageIn := s.imageIn.filled inputs (s.ctx i).inWindow }).halted.releasesDropped.applySplices = t
    at ran joins others own rest scan
  refine ⟨t, ran, (congrArg (fun u : State => { u with imageIn := s.imageIn }) rest :), joins, others, ?_, scan⟩
  rw [State.ctx_eq, own]
  rfl

end

end Sys2Proof.Machine

/-! A failed exchange: SKIPPED, a miss, or EXCHANGE_LOST (R157, R158, R163). -/

namespace Sys2Proof.Machine

open Sys2Proof Sys2Proof.Safety

set_option Elab.async false

section
variable {s : State} {i : Slot} {p : ExchangePhase} {f : List Byte} {n us : Nat} {c : Instr}

/-- A command that ends the exchange on the lane as failed. -/
def FailsExchange (i : Slot) (c : Instr) (p : ExchangePhase) (n : Nat) : Prop :=
  (c = .responseWindowExpiry ∧ p = .window) ∨ (c = .replySilenceTimeout ∧ p = .replying)
    ∨ (∃ reply : List Byte, c = .replyEnd reply ∧ p = .replying ∧ n + 3 ≤ reply.length
      ∧ (reply[0]? ≠ some (byteOf i.val) ∨ (reply.drop (1 + n)).take 2 ≠ crcTail (reply.take (1 + n))))

theorem exec_failed (exchange : s.scan.exchange = some ⟨i, p, false, f, n⟩) (fails : FailsExchange i c p n) :
    exec c s = .next ((s.exchangeFailed i).endExchange i) := by
  rcases fails with ⟨rfl, rfl⟩ | ⟨rfl, rfl⟩ | ⟨reply, rfl, rfl, long, bad⟩
  · exact exec_responseWindowExpiry exchange
  · exact exec_replySilenceTimeout exchange
  · rw [exec_replyEnd exchange, State.judgeReply_of_bad long (replyInputs_of_bad bad)]

/-! ## What a failed exchange makes of the state -/

theorem State.exchangeFailed_of_skipped (skip : (s.scanOf i).skip = some true) :
    s.exchangeFailed i = s.put i (s.slot i) s.work := by
  unfold State.exchangeFailed
  rw [if_pos skip]
  exact State.put_self

/-- A slot's record as a miss has been counted. -/
def SlotRecord.failedOnce (r : SlotRecord) : SlotRecord := r.unfed.missed

/-- The IN image as the exchange of a slot has failed. -/
def State.failedImage (s : State) (i : Slot) : Image := s.imageIn.failed (s.ctx i).inputPolicy (s.ctx i).inWindow

theorem State.put_countMiss_of_few {q : SlotRecord} {w : Work}
    (few : q.ctx.state ≠ .online ∨ min 15 (q.ctx.missCount.getD 0 + 1) < s.params.missLimit) :
    (s.put i q w).countMiss i = s.put i q.missed w := by
  unfold State.countMiss SlotRecord.missed
  dsimp only
  rw [State.ctx_put_self]
  by_cases online : q.ctx.state = .online
  · have short : ¬ s.params.missLimit ≤ min 15 (q.ctx.missCount.getD 0 + 1) :=
      Nat.not_le.mpr (few.resolve_left (not_not.mpr online))
    rw [if_pos online, if_pos online, State.modCtx_eq, State.put_modSlot]
    exact if_neg short
  · rw [if_neg online, if_neg online]

theorem State.put_countMiss_of_many {q : SlotRecord} {w : Work} (online : q.ctx.state = .online)
    (many : s.params.missLimit ≤ min 15 (q.ctx.missCount.getD 0 + 1)) :
    (s.put i q w).countMiss i = (s.put i q.missed w).reportFault i .exchangeLost := by
  unfold State.countMiss SlotRecord.missed
  dsimp only
  rw [State.ctx_put_self, if_pos online, if_pos online, State.modCtx_eq, State.put_modSlot]
  exact if_pos many

/-- A soft fault of an ONLINE card while the scan is RUNNING: its LEAVE waits. -/
theorem State.put_reportFault_leave {q : SlotRecord} {w : Work} {cause : Cause} (online : q.ctx.state = .online)
    (roster : q.scan.skip.isSome = true) (running : s.scan.state = .running) (soft : cause.hard = false) :
    (s.put i q w).reportFault i cause = s.put i
      (((q.faulted cause).counted.begun .fault (q.softDestination s.params.maxAttempts)).leaveQueued) (w.faulted i cause) := by
  have active : q.ctx.state.active = true := by
    rw [online]
    rfl
  obtain ⟨notLane, notSplice⟩ := online_work (st := (q.faulted cause).counted.ctx.state) online
  rw [State.put_reportFault_soft active soft, State.put_beginWithdrawal_leave (r := (q.faulted cause).counted) online roster
    (by rw [running]; decide) (by decide), Work.begun_of_plain notLane notSplice (by decide)]

theorem State.exchangeFailed_of_few (clear : (s.scanOf i).skip ≠ some true)
    (few : (s.ctx i).state ≠ .online ∨ min 15 ((s.ctx i).missCount.getD 0 + 1) < s.params.missLimit) :
    s.exchangeFailed i = s.put i (s.slot i).failedOnce { s.work with imageIn := s.failedImage i } := by
  unfold State.exchangeFailed
  rw [if_neg clear, State.applyInputPolicy_eq, State.put_countMiss_of_few (q := (s.slot i).unfed) few]
  rfl

/-- A slot's record as EXCHANGE_LOST has been reported: its LEAVE waits. -/
def SlotRecord.lost (dest : Destination) (r : SlotRecord) : SlotRecord :=
  (((r.failedOnce.faulted .exchangeLost).counted).begun .fault dest).leaveQueued

theorem State.exchangeFailed_of_lost (skip : (s.scanOf i).skip = some false) (online : (s.ctx i).state = .online)
    (running : s.scan.state = .running) (many : s.params.missLimit ≤ min 15 ((s.ctx i).missCount.getD 0 + 1)) :
    s.exchangeFailed i = s.put i ((s.slot i).lost (softDestination i s))
      { s.work with
        imageIn := s.failedImage i, notices := s.notices.offer ⟨.fault, some i, 8, []⟩ } := by
  have clear : ¬ (s.scanOf i).skip = some true := by
    rw [skip]
    decide
  have roster : (s.slot i).failedOnce.scan.skip.isSome = true := by
    rw [show (s.slot i).failedOnce.scan.skip = some false from skip]
    rfl
  unfold State.exchangeFailed
  rw [if_neg clear, State.applyInputPolicy_eq, State.put_countMiss_of_many (q := (s.slot i).unfed) online many,
    State.put_reportFault_leave (q := (s.slot i).unfed.missed) online roster running rfl]
  rfl

/-- What EXCHANGE_LOST leaves of the slot's record. -/
theorem SlotRecord.lost_spec {r : SlotRecord} {dest : Destination} (online : r.ctx.state = .online) :
    (r.lost dest).ctx = { r.ctx with
        state := .withdrawing, reason := some .fault, destination := some dest, leaving := some .leavePending
        attempts := min (r.ctx.attempts + 1) 3, missCount := none, faultRecord := r.ctx.faultRecord.add .exchangeLost
        inputQuality := some (failedQuality r.ctx.inputPolicy) }
      ∧ (r.lost dest).scan = { r.scan with splice := some .leave } ∧ (r.lost dest).rail = r.rail
      ∧ (r.lost dest).detector = r.detector.stop := by
  have base : (r.failedOnce.faulted .exchangeLost).counted = { r with ctx := { r.ctx with
      attempts := min (r.ctx.attempts + 1) 3, missCount := some (min 15 (r.ctx.missCount.getD 0 + 1))
      faultRecord := r.ctx.faultRecord.add .exchangeLost
      inputQuality := some (failedQuality r.ctx.inputPolicy) } } := by
    unfold SlotRecord.failedOnce SlotRecord.missed SlotRecord.unfed
    dsimp only
    rw [if_pos online]
    rfl
  have here : ((r.failedOnce.faulted .exchangeLost).counted).ctx.state = .online := by
    rw [base]
    exact online
  have missCount : (((r.failedOnce.faulted .exchangeLost).counted).enter .withdrawing).ctx.missCount = none := by
    unfold SlotRecord.enter
    rw [if_pos ⟨here, by decide⟩]
  unfold SlotRecord.lost SlotRecord.leaveQueued
  rw [begun_of_online here]
  dsimp only
  rw [SlotRecord.marked_ctx, SlotRecord.marked_rail, SlotRecord.marked_scan, missCount, base]
  exact ⟨rfl, rfl, rfl, rfl⟩

/-! ## The three failures -/

variable (exchange : s.scan.exchange = some ⟨i, p, false, f, n⟩) (running : s.scan.state = .running)
  (period : s.scan.period = .running us) (fails : FailsExchange i c p n)
include exchange running period fails

theorem failed_skipped (skip : (s.scanOf i).skip = some true) : ∃ t, exec c s = .next t
    ∧ { t with slots := s.slots, scan := s.scan } = s ∧ OthersSkipped i s t ∧ NextExchange s t
    ∧ t.slot i = markerTaken (s.slot i) := by
  have ran := exec_failed exchange fails
  rw [State.exchangeFailed_of_skipped skip] at ran
  obtain ⟨others, next, own, rest⟩ := endExchange_running (q := s.slot i) (w := s.work) running period ⟨rfl, rfl, rfl, rfl⟩
  exact ⟨_, ran, rest, others, next, own⟩

theorem failed_missed (clear : (s.scanOf i).skip ≠ some true)
    (few : (s.ctx i).state ≠ .online ∨ min 15 ((s.ctx i).missCount.getD 0 + 1) < s.params.missLimit) :
    ∃ t, exec c s = .next t
      ∧ { t with slots := s.slots, imageIn := s.imageIn, scan := s.scan } = s
      ∧ OthersSkipped i s t ∧ NextExchange s t ∧ t.imageIn.free = s.imageIn.free
      ∧ t.slot i = markerTaken (s.slot i).failedOnce
      ∧ ((s.ctx i).inputPolicy = .hold ∨ (s.ctx i).inWindow = none → t.imageIn = s.imageIn)
      ∧ ∀ w, (s.ctx i).inWindow = some w → ∀ a, Memory.read t.imageIn.mem a
          = if (s.ctx i).inputPolicy = .zero ∧ 16 * w.start ≤ a ∧ a < 16 * w.start + 16 * w.count then 0
            else Memory.read s.imageIn.mem a := by
  have ran := exec_failed exchange fails
  rw [State.exchangeFailed_of_few clear few] at ran
  obtain ⟨others, next, own, rest⟩ := endExchange_running (q := (s.slot i).failedOnce)
    (w := { s.work with imageIn := s.failedImage i }) running period ⟨rfl, rfl, rfl, rfl⟩
  generalize (s.put i (s.slot i).failedOnce { s.work with imageIn := s.failedImage i }).endExchange i = t
    at ran others next own rest
  have image : t.imageIn = s.imageIn.failed (s.ctx i).inputPolicy (s.ctx i).inWindow := (congrArg State.imageIn rest :)
  refine ⟨t, ran, (congrArg (fun u : State => { u with imageIn := s.imageIn }) rest :), others, next, ?_, own, fun kept => ?_,
    fun w window a => ?_⟩
  · rw [image]
    cases (s.ctx i).inWindow with
    | none => rfl
    | some w => cases (s.ctx i).inputPolicy <;> rfl
  · rw [image]
    rcases kept with hold | none
    · rw [hold]
      cases (s.ctx i).inWindow <;> rfl
    · rw [none]
      rfl
  · rw [image, window]
    cases (s.ctx i).inputPolicy with
    | hold => exact (if_neg fun h => absurd h.1 (by decide)).symm
    | zero =>
      refine (Memory.read_zero_of_any s.imageIn.mem (16 * w.start) (16 * w.count) a).trans ?_
      simp only [true_and]

theorem failed_lost (skip : (s.scanOf i).skip = some false) (online : (s.ctx i).state = .online)
    (normal : (s.scanOf i).marker = some .normal) (many : s.params.missLimit ≤ min 15 ((s.ctx i).missCount.getD 0 + 1)) :
    ∃ t, exec c s = .next t
      ∧ { t with slots := s.slots, imageIn := s.imageIn, scan := s.scan, notices := s.notices } = s
      ∧ OthersSkipped i s t ∧ NextExchange s t ∧ t.notices = s.notices.offer ⟨.fault, some i, 8, []⟩
      ∧ t.slot i = (s.slot i).lost (softDestination i s) := by
  obtain ⟨ctx, scan, -, -⟩ := SlotRecord.lost_spec (r := s.slot i) (dest := softDestination i s) online
  have kept : markerTaken ((s.slot i).lost (softDestination i s)) = (s.slot i).lost (softDestination i s) :=
    markerTaken_of_other (by
      rw [scan]
      change ¬ (s.scanOf i).marker = some .release
      rw [normal]
      decide)
  have ran := exec_failed exchange fails
  rw [State.exchangeFailed_of_lost skip online running many] at ran
  obtain ⟨others, next, own, rest⟩ := endExchange_running (q := (s.slot i).lost (softDestination i s))
    (w := { s.work with imageIn := s.failedImage i, notices := s.notices.offer ⟨.fault, some i, 8, []⟩ }) running period
    ⟨by rw [scan], by rw [scan], by rw [scan], by rw [ctx]⟩
  rw [kept] at own
  generalize (s.put i ((s.slot i).lost (softDestination i s)) { s.work with
    imageIn := s.failedImage i, notices := s.notices.offer ⟨.fault, some i, 8, []⟩ }).endExchange i = t
    at ran others next own rest
  exact ⟨t, ran, (congrArg (fun u : State => { u with imageIn := s.imageIn, notices := s.notices }) rest :), others, next,
    (congrArg State.notices rest :), own⟩

end

/-- Settles O54: the phases of an exchange change the lane alone; each outcome is one change of the slot's record and of the IN
image, after which the exchanges that remain go on, an overrun takes its boundary, and a STOPPING scan stops. -/
theorem exchangesUpdateTheInputs : Obligations.ExchangesUpdateTheInputs := by
  unfold Obligations.ExchangesUpdateTheInputs
  intro i p f n s
  refine ⟨fun x exchange => ⟨fun sending => ?_, State.laneFrame_of_ne_sending exchange, fun window => ?_,
      fun reply replying short => ?_⟩,
    fun c exchange stopped ended ends => exec_discarded exchange stopped ended ends,
    fun inputs extra exchange count => ⟨fun running ⟨us, period⟩ canonical =>
        goodReply_running exchange count running period canonical,
      fun k rest running expired ended none normal roster clear =>
        goodReply_overrun exchange count running expired ended none normal roster clear,
      fun stopping ended quiet none normal => goodReply_stopping exchange count stopping ended quiet none normal⟩,
    fun c exchange running ⟨us, period⟩ _ fails => ⟨failed_skipped exchange running period fails,
      failed_missed exchange running period fails, fun skip online normal many => ?_⟩⟩
  · subst sending
    exact exec_exchangeFrameSent exchange
  · subst window
    exact exec_replyBegin exchange
  · subst replying
    rw [exec_replyEnd exchange, State.judgeReply_of_short short]
  · obtain ⟨t, ran, rest, others, next, notices, own⟩ := failed_lost exchange running period fails skip online normal many
    obtain ⟨ctx, scan, rail, detector⟩ := SlotRecord.lost_spec (r := s.slot i) (dest := softDestination i s) online
    refine ⟨t, ran, rest, others, next, notices, ?_⟩
    rw [State.ctx_eq, State.scanOf_eq, State.railOf_eq, State.det_eq, own, ctx, scan, rail, detector]
    exact ⟨rfl, rfl, rfl, rfl, rfl, rfl, rfl, rfl, rfl, rfl, rfl, rfl⟩

end Sys2Proof.Machine
